-- ==== Sys2Proof/Word.lean ====
section
/-!
DEFINITION. The word types of the VXK-6432: registers are 32 bits wide (R1), memories are addressed in bytes (R30).
-/
namespace Sys2Proof

/-- One register of the address map, 32 bits wide (R1). -/
abbrev Word := BitVec 32

/-- One byte of a memory (R30) or of an object value (R269). -/
abbrev Byte := BitVec 8

/-- Ticks of the time base TB, 10 ns each (R342), as a count since the release of reset. -/
abbrev Tick := Nat

end Sys2Proof
end

