-- ==== Sys2Proof/Syntax.lean ====
section
/-!
DEFINITION. The commands of the VXK-6432: one constructor of Instr per row of spec/opcode_table.json, and the types of their
operands. The table gives its rows no bits and no operands; the operands are what the rule of the row needs to know from
outside (which input, which channel, which frame, which measured value).
-/
namespace Sys2Proof

/-- The state record of a function block (R103, R110): its status bits, its running timer, the channel values of the
previous evaluation and the marks its rules need. -/
structure BlkSt where
  /-- evaluated at least once since the zero cairn -/
  init : Bool
  q : Bool
  q2 : Bool
  wait : Bool
  tpf : Bool
  disc : Bool
  edm : Bool
  sync : Bool
  relWait : Bool
  wdog : Bool
  stuck : Bool
  safeSeen : Bool
  timing : Bool
  /-- step 2 of R74 reached -/
  back : Bool
  /-- previous channel values; for TWOHAND the four channels -/
  pa : Bool
  pb : Bool
  pc : Bool
  pd : Bool
  /-- the running discrepancy of the pair, of the right pair for TWOHAND: the time stamp of the channel that changed first, µs, and
  whether that is channel A (R71) -/
  dis : Option (Nat × Bool)
  disR : Option (Nat × Bool)
  /-- both pushbuttons have been released together since Q last fell (R80); STOP1: a delay has run (R92) -/
  mark : Bool
  /-- the ignored reset of this run of IN_C is counted (R76) -/
  ignored : Bool
  /-- start of the running timer, TB -/
  t0 : Option Nat
  /-- while TIMING is set: the instant from which the time that it shows runs, TB (R102, R103) -/
  since : Nat
  deriving DecidableEq, Repr

/-- The zero cairn of a block (R110). -/
def blkSt0 : BlkSt :=
  ⟨false, false, false, false, false, false, false, false, false, false, false, false, false, false, false, false, false, false,
   none, none, false, false, none, 0⟩

/-- The masters of the SYS interconnect (R30). -/
inductive Master where
  | mgmt | host | mrc
  deriving DecidableEq, Repr

/-- A SAFE frame as it stands on a link (R214). -/
structure SafeFrame where
  node : BitVec 16
  seq : BitVec 32
  hops : BitVec 8
  state : BitVec 8
  bits : BitVec 32
  scan : BitVec 8
  hlim : BitVec 8
  tbs : BitVec 64
  chk : BitVec 32
  deriving DecidableEq, Repr

/-- An OBJECT frame: LEN is the length of the message (R216). -/
structure ObjFrame where
  src : BitVec 16
  dst : BitVec 16
  hops : BitVec 8
  msg : List Byte
  deriving DecidableEq, Repr

/-- A COMMIT frame (R216). -/
structure CommitFrame where
  src : BitVec 16
  num : BitVec 32
  hops : BitVec 8
  ta : BitVec 64
  chk : BitVec 32
  deriving DecidableEq, Repr

/-- A TIME frame: SUB 0 SYNC, 1 DREQ, 2 DRESP; times in ns (R216). -/
structure TimeFrame where
  src : BitVec 16
  sub : BitVec 8
  seq : BitVec 16
  hops : BitVec 8
  steps : BitVec 8
  t1 : BitVec 64
  corr : BitVec 64
  t2 : BitVec 64
  t3 : BitVec 64
  deriving DecidableEq, Repr

/-- A RING-CONTROL frame: SUB 0 BREAK, 1 RESTORED (R216). -/
structure RingFrame where
  src : BitVec 16
  sub : BitVec 8
  port : BitVec 8
  seq : BitVec 16
  hops : BitVec 8
  peer : BitVec 16
  deriving DecidableEq, Repr

/-- A Rope frame of one of the five types (R213 to R216). -/
inductive RopeFrame where
  | safe (f : SafeFrame)
  | object (f : ObjFrame)
  | commit (f : CommitFrame)
  | time (f : TimeFrame)
  | ring (f : RingFrame)
  deriving DecidableEq, Repr

/-- What frames a received Belay frame beside its TYPE (R240): FLAGS bit 0, LEN, SEQ, and the CRC of the closing block. -/
structure BlyHead where
  leader : Bool
  len : BitVec 16
  seq : BitVec 32
  crc : BitVec 32
  deriving DecidableEq, Repr

/-- HELLO (R241). -/
structure Hello where
  serial : BitVec 64
  node : BitVec 16
  pos : Bool
  dstate : BitVec 8
  crc : BitVec 32
  slotSeq : BitVec 32
  deriving DecidableEq, Repr

/-- IMAGE (R241): `ts` and `width` in input and source order. -/
structure ImageMsg where
  tbs : BitVec 64
  filt : BitVec 128
  tpf : BitVec 128
  sag0 : Bool
  sag1 : Bool
  ext : Bool
  width : List (BitVec 16)
  ts : List (BitVec 32)
  deriving DecidableEq, Repr

/-- OUTIMG (R241). -/
structure OutImg where
  tbs : BitVec 64
  image : BitVec 32
  safe : BitVec 32
  dstate : BitVec 8
  deriving DecidableEq, Repr

/-- HEARTBEAT (R241). -/
structure Heartbeat where
  tb : BitVec 64
  dstate : BitVec 8
  pstate : BitVec 8
  bypass : Bool
  lamps : Bool
  crc : BitVec 32
  deriving DecidableEq, Repr

/-- CONTROL (R241). -/
structure Control where
  sub : BitVec 8
  arg : BitVec 16
  val : BitVec 32
  tbs : BitVec 64
  deriving DecidableEq, Repr

/-- The fields of a CONTROL frame beside SUB (R241). -/
structure CtlArgs where
  arg : BitVec 16
  val : BitVec 32
  tbs : BitVec 64
  deriving DecidableEq, Repr

/-- A STREAM frame (R241): KIND 0 configuration slot, 1 operational record, 2 cairn, 3 ledger; byte offset; data. -/
structure StreamData where
  kind : BitVec 8
  off : BitVec 32
  bytes : List Byte
  deriving DecidableEq, Repr

/-- A Belay frame as sent (R241). -/
inductive BlyFrame where
  | hello (m : Hello)
  | image (m : ImageMsg)
  | outimg (m : OutImg)
  | safeCopy (f : SafeFrame)
  | heartbeat (m : Heartbeat)
  | control (m : Control)
  | stream (m : StreamData)
  deriving DecidableEq, Repr

/-- The cells of one OTP row that have changed: they read 0 (`lost`) or 1 (`gain`) at normal margin, or 0 at strict margin (`weak`)
(R389, R404). -/
structure OtpWear where
  lostA : Word
  lostB : Word
  gainA : Word
  gainB : Word
  weakA : Word
  weakB : Word
  deriving DecidableEq, Repr

/-- What a start finds on the straps, three samples each (R454), the fields of R376 that fail parity, LC lowest, and the OTP rows whose
cells have changed. -/
structure Sense where
  pos : BitVec 3
  quad : BitVec 3
  tmode : BitVec 3
  parity : BitVec 7
  wear : List (Fin 548 × OtpWear)
  deriving DecidableEq, Repr

/-- Readings of bandgap A and of bandgap B by the four cores (R379). -/
structure Gaps where
  a : List (BitVec 16)
  b : List (BitVec 16)
  deriving DecidableEq, Repr

/-- The cells an OTP command or a life-cycle transition in progress has reached when a reset ends it (R391, R403). -/
structure Cut where
  okA : Word
  okB : Word
  wkA : Word
  wkB : Word
  deriving DecidableEq, Repr

/-- What BIST found unusable: bits of `BIST_UNUSABLE`, input banks, channels, strings. -/
structure Marks where
  blocks : Nat
  ins : Nat
  outs : Nat
  strs : Nat
  deriving DecidableEq, Repr

/-- A background self-test slice (R386): a 1 KiB segment of an SRAM bank or of a retention bank, the comparator of an input, the readback
comparator of a channel, a converter core, start and end of the logic BIST of the spare lane, or the four OTP rows from 4 × g, with
what has changed in them (R404). -/
inductive Slice where
  | sram (b : Fin 8) (k : Fin 256)
  | ret (b : Fin 4) (k : Fin 8)
  | input (i : Fin 128)
  | output (c : Fin 24)
  | adc (n : Fin 4)
  | spareStart
  | spare
  | otp (g : Fin 137) (ws : List OtpWear)
  deriving DecidableEq, Repr

/-- The commands, in the order of the table. -/
inductive Instr where
  /-- REGISTER_WRITE (R4) -/
  | registerWrite (m : Master) (a : Word) (k : Fin 5) (w : BitVec 128)
  /-- CLOCK_MONITOR_WINDOW (R23) -/
  | clockMonitorWindow (k : Fin 4) (n : BitVec 32)
  /-- ROPE_RX_LOCK_LOST (R24) -/
  | ropeRxLockLost (p : Fin 3)
  /-- BLY_LOCK_LOST (R24) -/
  | blyLockLost
  /-- WATCHDOG (R28) -/
  | watchdog
  /-- SCAN_START (R64) -/
  | scanStart (raw : BitVec 128) (overrun : Option (Fin 2)) (mis : Option (Fin 2 × Word)) (stall : Option (Fin 2))
  /-- DISC_TIMEOUT (R71) -/
  | discTimeout (b : Fin 8192)
  /-- TWOHAND_FAULT_CLEAR (R83) -/
  | twohandFaultClear (b : Fin 8192)
  /-- EDM_FAULT (R84) -/
  | edmFault (b : Fin 8192)
  /-- RESET_STUCK (R87) -/
  | resetStuck (b : Fin 8192)
  /-- STOP1_DELAY (R91) -/
  | stop1Delay (b : Fin 8192)
  /-- TON_EXPIRY (R93) -/
  | tonExpiry (b : Fin 8192)
  /-- TOFF_EXPIRY (R93) -/
  | toffExpiry (b : Fin 8192)
  /-- FILTERED_CHANGE (R40) -/
  | filteredChange (i : Fin 128) (on : Bool) (first : Nat)
  /-- TEST_PULSE_START (R45) -/
  | testPulseStart (n : Fin 16) (off : List (Fin 128))
  /-- TEST_PULSE_END (R48) -/
  | testPulseEnd (n : Fin 16)
  /-- TP_WINDOW_END (R50) -/
  | tpWindowEnd (n : Fin 16) (resp : List (Fin 128 × Nat)) (lows : List (Fin 128 × Bool)) (late : List (Fin 128 × Nat))
  /-- LEAK_MEASURE (R55) -/
  | leakMeasure (i : Fin 128) (v : Fin 255)
  /-- VFIELD_UPDATE (R58) -/
  | vfieldUpdate (v0 : BitVec 16) (v1 : BitVec 16)
  /-- WARN_ENTER (R58) -/
  | warnEnter (b : Fin 2) (mv : BitVec 16)
  /-- WARN_LEAVE (R58) -/
  | warnLeave (b : Fin 2) (mv : BitVec 16)
  /-- SAG_ENTER (R58) -/
  | sagEnter (b : Fin 2) (mv : BitVec 16) (failing : BitVec 24)
  /-- SAG_LEAVE (R58) -/
  | sagLeave (b : Fin 2) (mv : BitVec 16)
  /-- BROWN_OUT_ENTER (R58) -/
  | brownOutEnter (b : Fin 2) (mv : BitVec 16)
  /-- BROWN_OUT_LEAVE (R58) -/
  | brownOutLeave (b : Fin 2) (mv : BitVec 16)
  /-- FIO_TP_SKIP_READ (R4) -/
  | fioTpSkipRead
  /-- HEARTBEAT_INJECTION (R107) -/
  | heartbeatInjection (u : Fin 3) (g : Fin 16) (full : Fin 4) (msk : Fin 4) (sig : Word)
  /-- COMPARATOR_FAULT (R107) -/
  | comparatorFault (lane : Fin 2)
  /-- MISMATCH (R114) -/
  | mismatch (lane : Fin 2) (sig : Word)
  /-- RERUN_START (R114) -/
  | rerunStart
  /-- RECOVERY_COMPLETE (R115) -/
  | recoveryComplete
  /-- RECOVERY_LIMIT (R116) -/
  | recoveryLimit
  /-- SPARE_MISMATCH (R122) -/
  | spareMismatch (sig : Word)
  /-- STATE_ECC (R113) -/
  | stateEcc (lane : Fin 2) (bank : Fin 2) (word : Nat) (correctable : Bool)
  /-- IMAGE_ECC (R123) -/
  | imageEcc (lane : Fin 2) (correctable : Bool)
  /-- LOAD (R124) -/
  | load
  /-- LOAD_COMPLETE (R124) -/
  | loadComplete (equal : Bool)
  /-- SWAP (R125) -/
  | swap
  /-- IMAGE_SWAP (R125) -/
  | imageSwap
  /-- HALT (R127) -/
  | halt
  /-- STEP (R127) -/
  | step
  /-- RESUME (R127) -/
  | resume
  /-- DEBUG_RD (R127) -/
  | debugRd
  /-- DEBUG_WR (R127) -/
  | debugWr
  /-- SOUT_IMAGE_APPLY (R135) -/
  | soutImageApply
  /-- CURRENT_MEASUREMENT (R137) -/
  | currentMeasurement (b0 : BitVec 16) (b1 : BitVec 16) (ms : List (BitVec 16 × BitVec 8 × BitVec 8))
  /-- READBACK_MASK_END (R139) -/
  | readbackMaskEnd (c : Fin 24) (h : Bool) (l : Bool)
  /-- OFF_PULSE_START (R140) -/
  | offPulseStart (c : Fin 24)
  /-- OFF_PULSE_END (R142) -/
  | offPulseEnd (c : Fin 24) (r : Nat) (h : Bool) (l : Bool)
  /-- OFF_PULSE_TIMEOUT (R142) -/
  | offPulseTimeout (c : Fin 24) (observer : Option (Fin 24))
  /-- CROSS (R146) -/
  | cross (c : Fin 24) (d : Fin 24) (h : Bool) (l : Bool)
  /-- SHORT_VF (R144) -/
  | shortVf (c : Fin 24) (since : Nat) (h : Bool) (l : Bool)
  /-- ON_LOST (R144) -/
  | onLost (c : Fin 24) (since : Nat) (h : Bool) (l : Bool)
  /-- OVERLOAD (R144) -/
  | overload (c : Fin 24)
  /-- BANK_OVL (R144) -/
  | bankOvl (b : Fin 2)
  /-- THERMAL (R144) -/
  | thermal (c : Fin 24)
  /-- OPEN_LOAD (R144) -/
  | openLoad (c : Fin 24)
  /-- OFF_PATTERN_HELD (R148) -/
  | offPatternHeld (c : Fin 24) (h : Bool) (l : Bool)
  /-- LAMP_FEED_CUT (R151) -/
  | lampFeedCut (b : Fin 2)
  /-- EXT_STOP (R154) -/
  | extStop (pinB : Bool)
  /-- EXT_STOP_RELEASE (R154) -/
  | extStopRelease (a : Bool) (b : Bool)
  /-- EXT_DISC (R155) -/
  | extDisc
  /-- SOUT_OP_SKIP_READ (R4) -/
  | soutOpSkipRead
  /-- BANK_BOUNDARY (R164) -/
  | bankBoundary (b : Fin 2)
  /-- COMMIT_APPLY (R193) -/
  | commitApply (k : Fin 3)
  /-- STRING_ON_EDGE (R162) -/
  | stringOnEdge (n : Fin 32)
  /-- PROVING_WINDOW (R196) -/
  | provingWindow (n : Fin 32) (i : BitVec 9) (v : BitVec 8) (meas : Bool)
  /-- CONFIRMATION_PROBE (R200) -/
  | confirmationProbe (n : Fin 32) (i : BitVec 9) (v : BitVec 8)
  /-- DARK_CHECK (R202) -/
  | darkCheck (n : Fin 32) (i : BitVec 9) (v : BitVec 8)
  /-- LIT_RECHECK (R204) -/
  | litRecheck (n : Fin 32) (i : BitVec 9) (v : BitVec 8)
  /-- MATRIX_FRAME_START (R175) -/
  | matrixFrameStart
  /-- MATRIX_LINE_SLOT (R175) -/
  | matrixLineSlot (l : Fin 16) (cur : List (BitVec 8)) (leak : List (BitVec 8))
  /-- STAGE_OPEN (R177) -/
  | stageOpen (n : Fin 32)
  /-- STAGE_SHORT (R177) -/
  | stageShort (n : Fin 32)
  /-- STAGE_OCP (R177) -/
  | stageOcp (n : Fin 32)
  /-- STAGE_THERMAL (R177) -/
  | stageThermal (n : Fin 32)
  /-- STAGE_THERMAL_CLEAR (R177) -/
  | stageThermalClear (n : Fin 32)
  /-- STAGE_UVLO (R177) -/
  | stageUvlo (b : Fin 2) (ov : Bool)
  /-- STAGE_UVLO_CLEAR (R177) -/
  | stageUvloClear (b : Fin 2)
  /-- FAULT_CLEAR (R178) -/
  | faultClear (m : BitVec 32)
  /-- LMP_APPLY (R166) -/
  | lmpApply (m : BitVec 32)
  /-- MATRIX_APPLY (R175) -/
  | matrixApply
  /-- THERMAL_DERATE_TICK (R171) -/
  | thermalDerateTick (codes : List (BitVec 14)) (vdd : BitVec 14) (die : List (BitVec 8))
  /-- POWER_DERATE_TICK (R171) -/
  | powerDerateTick (banks : List (BitVec 16 × BitVec 16)) (strs : List (BitVec 16 × BitVec 16)) (sinks : BitVec 32) (scans : BitVec 32)
  /-- BANK_DERATE_TICK (R171) -/
  | bankDerateTick (i0 : BitVec 16) (i1 : BitVec 16)
  /-- ASPECT_REQUEST (R189) -/
  | aspectRequest
  /-- HEAD_SELECT (R190) -/
  | headSelect (h : Fin 32) (a : BitVec 8)
  /-- HEAD_APPLY (R190) -/
  | headApply (m : BitVec 32)
  /-- HEAD_CLR (R206) -/
  | headClr (m : BitVec 32)
  /-- COMMIT_GO (R192) -/
  | commitGo (send : Bool)
  /-- SAFE_FRAME_TX (R216) -/
  | safeFrameTx
  /-- SAFE_WINDOW (R218) -/
  | safeWindow
  /-- SAFE_FRAME (R219) -/
  | safeFrame (p : Fin 3) (f : SafeFrame) (fcs : Bool)
  /-- OBJECT_FRAME (R220) -/
  | objectFrame (p : Fin 3) (f : ObjFrame) (fcs : Bool)
  /-- COMMIT_FRAME (R220) -/
  | commitFrame (p : Fin 3) (f : CommitFrame) (fcs : Bool)
  /-- FOREIGN_FRAME (R213) -/
  | foreignFrame (p : Fin 3)
  /-- TIME_SYNC (R229) -/
  | timeSync (p : Fin 3) (f : TimeFrame) (fcs : Bool) (sub : Fin 10)
  /-- SYNC_SEND (R229) -/
  | syncSend
  /-- DELAY_MEASURE (R229) -/
  | delayMeasure (p : Fin 3)
  /-- TIME_DREQ (R229) -/
  | timeDreq (p : Fin 3) (f : TimeFrame) (fcs : Bool) (sub : Fin 10)
  /-- TIME_DRESP (R229) -/
  | timeDresp (p : Fin 3) (f : TimeFrame) (fcs : Bool) (sub : Fin 10)
  /-- ROOT_TAKEOVER (R229) -/
  | rootTakeover
  /-- TIME_UNLOCKED (R230) -/
  | timeUnlocked
  /-- PCS_SYNC_LOST (R227) -/
  | pcsSyncLost (p : Fin 3)
  /-- LINK_SILENCE (R227) -/
  | linkSilence (p : Fin 3)
  /-- RING_BREAK (R227) -/
  | ringBreak (p : Fin 3) (f : RingFrame) (fcs : Bool)
  /-- LINK_REPAIRED (R228) -/
  | linkRepaired (p : Fin 3)
  /-- RING_RESTORED (R228) -/
  | ringRestored (p : Fin 3) (f : RingFrame) (fcs : Bool)
  /-- SUB_EXPIRED (R224) -/
  | subExpired (k : Fin 256)
  /-- ROPE_PORT_ERR_READ (R4) -/
  | ropePortErrRead (p : Fin 3)
  /-- LINK_TRAINED (R239) -/
  | linkTrained
  /-- HELLO (R256) -/
  | hello (h : BlyHead) (m : Hello)
  /-- PAIR_FORM (R256) -/
  | pairForm (peer : Bool)
  /-- SOLO_START (R256) -/
  | soloStart
  /-- IMAGE (R249) -/
  | image (h : BlyHead) (m : ImageMsg) (stall : Bool)
  /-- IMAGE_MISS (R251) -/
  | imageMiss
  /-- OUTIMG (R253) -/
  | outimg (h : BlyHead) (m : OutImg)
  /-- SAFE_COPY (R237) -/
  | safeCopy (h : BlyHead) (f : SafeFrame)
  /-- HEARTBEAT (R257) -/
  | heartbeat (h : BlyHead) (m : Heartbeat)
  /-- HEARTBEAT_TX (R242) -/
  | heartbeatTx
  /-- ADOPT_REQ (R264) -/
  | adoptReq (h : BlyHead) (c : CtlArgs)
  /-- STREAM_START (R261) -/
  | streamStart (h : BlyHead) (c : CtlArgs)
  /-- STREAM (R262) -/
  | stream (h : BlyHead) (d : StreamData)
  /-- STREAM_END (R261) -/
  | streamEnd (h : BlyHead) (c : CtlArgs)
  /-- CAUGHT_UP (R261) -/
  | caughtUp (h : BlyHead) (c : CtlArgs)
  /-- RELEASE (R261) -/
  | release (h : BlyHead) (c : CtlArgs)
  /-- ABORT (R265) -/
  | abort (h : BlyHead) (c : CtlArgs)
  /-- CONTROL_SWAP (R254) -/
  | controlSwap (h : BlyHead) (c : CtlArgs)
  /-- IDIFF (R252) -/
  | idiff (i : Fin 128)
  /-- PARTNER_LOST (R257) -/
  | partnerLost
  /-- ARBITRATION_END (R258) -/
  | arbitrationEnd
  /-- BP_FAIL (R259) -/
  | bpFail
  /-- HOLD_EXP (R260) -/
  | holdExp
  /-- RESYNC_TIMEOUT (R265) -/
  | resyncTimeout
  /-- RESYNC_RETRY (R265) -/
  | resyncRetry
  /-- BLY_LINK_ERR_READ (R4) -/
  | blyLinkErrRead
  /-- READ (R274) -/
  | read
  /-- WRITE (R274) -/
  | write
  /-- DESCRIBE (R274) -/
  | describe
  /-- SET_OPEN (R283) -/
  | setOpen
  /-- SET_ADD (R283) -/
  | setAdd
  /-- SET_APPLY (R285) -/
  | setApply
  /-- SET_DROP (R274) -/
  | setDrop
  /-- SET_APPLICATION (R285) -/
  | setApplication
  /-- SET_TIMEOUT (R283) -/
  | setTimeout (src : BitVec 16)
  /-- ODX_GO (R282) -/
  | odxGo
  /-- SLOT_COMMIT (R294) -/
  | slotCommit
  /-- SLOT_CANCEL (R296) -/
  | slotCancel
  /-- CHECK_DONE (R294) -/
  | checkDone
  /-- WRITE_DONE (R294) -/
  | writeDone (ok : Bool) (left : List Byte)
  /-- CONFIRM_TIMEOUT (R294) -/
  | confirmTimeout
  /-- FINAL_DONE (R294) -/
  | finalDone (ok : Bool)
  /-- COMMISSION_PRESS (R295) -/
  | commissionPress (hold : Nat)
  /-- TRIAL_REVERT (R287) -/
  | trialRevert
  /-- TRIAL_RESTORE (R287) -/
  | trialRestore
  /-- TRIAL_IMAGE (R288) -/
  | trialImage (bs : List Byte)
  /-- JOURNAL_WRITE (R309) -/
  | journalWrite
  /-- MIRROR_WRITE (R311) -/
  | mirrorWrite (ok : Bool)
  /-- MGMT_MISMATCH (R315) -/
  | mgmtMismatch (sig : Word)
  /-- MGMT_RECOVERED (R315) -/
  | mgmtRecovered
  /-- LIMITS_EXCEEDED (R462) -/
  | limitsExceeded (q : Fin 9) (lo : BitVec 16) (hi : BitVec 16)
  /-- LIMITS_RESTORED (R462) -/
  | limitsRestored (vs : List (BitVec 16 × BitVec 16))
  /-- CONVERSION_DONE (R321) -/
  | conversionDone (n : Fin 4) (v : Int) (mux : BitVec 9) (g : Fin 4)
  /-- ADC_TRIGGER (R335) -/
  | adcTrigger (n : Fin 4)
  /-- SWTRIG (R335) -/
  | swtrig (n : Fin 4)
  /-- FLUSH (R328) -/
  | flush (n : Fin 4)
  /-- TRIGGER_DELAY_END (R335) -/
  | triggerDelayEnd (n : Fin 4)
  /-- ENTRY_DELAY_END (R333) -/
  | entryDelayEnd (n : Fin 4)
  /-- ADC_URGENT_GO (R337) -/
  | adcUrgentGo (n : Fin 4)
  /-- ADC_ENABLE (R338) -/
  | adcEnable (n : Fin 4) (w : Word)
  /-- ADC_DISABLE (R338) -/
  | adcDisable (n : Fin 4)
  /-- ADC_RES_READ (R328) -/
  | adcResRead (n : Fin 4)
  /-- ADC_URGENT_DROP_READ (R4) -/
  | adcUrgentDropRead
  /-- ADC_CNT_READ (R4) -/
  | adcCntRead (n : Fin 4)
  /-- TIMER_PERIOD_EVENT (R346) -/
  | timerPeriodEvent (n : Fin 16)
  /-- TIMER_COMPARE_EVENT (R346) -/
  | timerCompareEvent (n : Fin 16)
  /-- TIMER_ENABLE (R347) -/
  | timerEnable (n : Fin 16) (w : Word)
  /-- TMR_PERIOD_WRITE (R349) -/
  | tmrPeriodWrite (n : Fin 16) (v : Word)
  /-- TIMER_CAPTURE (R350) -/
  | timerCapture (n : Fin 16) (rising : Bool)
  /-- CAPTURE_READ (R350) -/
  | captureRead (n : Fin 16)
  /-- SHADOW_ARM (R359) -/
  | shadowArm (n : Fin 16)
  /-- MRC_STOP (R367) -/
  | mrcStop (n : Fin 16)
  /-- DESCRIPTOR_FETCH (R358) -/
  | descriptorFetch (n : Fin 16)
  /-- DESCRIPTOR_DONE (R365) -/
  | descriptorDone (n : Fin 16)
  /-- DESCRIPTOR_BUS_ERROR (R366) -/
  | descriptorBusError (n : Fin 16)
  /-- TQ_TAIL_WRITE (R364) -/
  | tqTailWrite (n : Fin 16) (w : Word)
  /-- MRC_EN_WRITE (R367) -/
  | mrcEnWrite (w : Word)
  /-- MRC_BADCNT_READ (R4) -/
  | mrcBadcntRead (n : Fin 16)
  /-- CRC_INIT (R368) -/
  | crcInit (n : Fin 4)
  /-- CRC_DATA8 (R369) -/
  | crcData8 (n : Fin 4) (w : BitVec 8)
  /-- CRC_DATA16 (R369) -/
  | crcData16 (n : Fin 4) (w : BitVec 16)
  /-- CRC_DATA32 (R369) -/
  | crcData32 (n : Fin 4) (w : Word)
  /-- CRC_VAL_WRITE (R370) -/
  | crcValWrite (n : Fin 4) (w : Word)
  /-- COLD_START (R375) -/
  | coldStart (resetN : Bool) (aon : Fin 3) (n : Sense) (c : Cut)
  /-- RESET_ASSERT (R374) -/
  | resetAssert (c : Cut)
  /-- BIST_RETRY (R378) -/
  | bistRetry
  /-- BIST_COMPLETE (R381) -/
  | bistComplete (mv : BitVec 16) (err : BitVec 16) (time : BitVec 16) (ess : BitVec 8) (vled0 : BitVec 16) (vled1 : BitVec 16) (vscn : BitVec 16) (g : Gaps) (m : Marks)
  /-- STARTUP_COMPLETE (R375) -/
  | startupComplete (equal : Bool) (pinLow : Bool) (patch : Fin 3) (left : List Byte) (n : Sense)
  /-- DEFERRED_LAMP_TEST (R380) -/
  | deferredLampTest (k : Fin 3) (lo : BitVec 16) (hi : BitVec 16) (strs : BitVec 32) (mtx : Bool)
  /-- BG_SLICE (R385) -/
  | bgSlice (k : Slice) (fails : Bool)
  /-- SCAN_REQ (R392) -/
  | scanReq
  /-- WIPE_COMPLETE (R392) -/
  | wipeComplete
  /-- IDCODE (R439) -/
  | idcode
  /-- BYPASS (R439) -/
  | bypass
  /-- SAMPLE_PRELOAD (R439) -/
  | samplePreload
  /-- EXTEST (R439) -/
  | extest
  /-- MGMT_DBG (R439) -/
  | mgmtDbg
  /-- FUSE_PROG (R439) -/
  | fuseProg
  /-- LC_REQUEST (R390) -/
  | lcRequest (target : Fin 8)
  /-- LC_CONFIRM_TIMEOUT (R390) -/
  | lcConfirmTimeout
  /-- LC_PROGRAM_DONE (R390) -/
  | lcProgramDone (n : Sense)
  /-- OTP_PROGRAM (R401) -/
  | otpProgram
  /-- WLOCK (R401) -/
  | wlock
  /-- RLOCK (R401) -/
  | rlock
  /-- ODO_INC (R407) -/
  | odoInc
  /-- MSCAN (R404) -/
  | mscan
  /-- OTP_COMMAND_DONE (R402) -/
  | otpCommandDone (okA : Word) (okB : Word) (wkA : Word) (wkB : Word)
  /-- REQ_DOZE (R412) -/
  | reqDoze (spi : Bool) (src : BitVec 16)
  /-- REQ_RUN (R412) -/
  | reqRun (spi : Bool) (src : BitVec 16)
  /-- REQ_SLEEP (R413) -/
  | reqSleep (spi : Bool) (us : Nat) (page : Bool) (ack : Bool)
  /-- REQ_HIBERNATE (R425) -/
  | reqHibernate (spi : Bool) (us : Nat) (page : Bool) (ack : Bool)
  /-- REGULATOR_ACK_TIMEOUT (R413) -/
  | regulatorAckTimeout (ack : Bool)
  /-- CLOCK_GATE (R412) -/
  | clockGate (b : Fin 62)
  /-- WAKE_EVENT (R418) -/
  | wakeEvent (code : Fin 11)
  /-- WAKE_STEP_READY (R421) -/
  | wakeStepReady (flips : List (Fin 32768 × Byte)) (chkBad : Bool) (n : Sense)
  /-- WAKE_STEP_TIMEOUT (R421) -/
  | wakeStepTimeout
  /-- WAKE_RETRY (R421) -/
  | wakeRetry
  /-- CORE_SUPPLY (R438) -/
  | coreSupply (low : Bool) (mv : BitVec 16)
  /-- PMBUS_STATUS_POLL (R437) -/
  | pmbusStatusPoll (w : Option (BitVec 16))
  /-- SPI_READ (R431) -/
  | spiRead (c : Byte) (a : Word) (n : Nat)
  /-- SPI_QREAD (R430) -/
  | spiQread (c : Byte) (a : Word) (n : Nat)
  /-- SPI_WRITE (R432) -/
  | spiWrite (c : Byte) (a : Word) (ws : List (Nat × Word))
  /-- SPI_QWRITE (R430) -/
  | spiQwrite (c : Byte) (a : Word) (ws : List (Nat × Word))
  /-- SPI_STATUS (R430) -/
  | spiStatus (c : Byte)
  /-- SPI_ABORT (R432) -/
  | spiAbort (c : Byte) (a : Word) (n : Nat) (marked : Bool) (ws : List (Nat × Word))
  /-- SPI_TIMEOUT (R431) -/
  | spiTimeout
  /-- FLASH_READ (R436) -/
  | flashRead
  /-- FLASH_PROG (R436) -/
  | flashProg
  /-- FLASH_ERASE (R436) -/
  | flashErase
  /-- FLASH_DONE (R436) -/
  | flashDone (ok : Bool)
  /-- BYPASS_RELEASE_TIMEOUT (R259) -/
  | bypassReleaseTimeout (own : Bool)
  /-- IDIFF_CLEAR (R252) -/
  | idiffClear (i : Fin 128)
  /-- PORT_UP (R229) -/
  | portUp (p : Fin 3)
  /-- PAIR_SWAP_CANCEL (R297) -/
  | pairSwapCancel
  /-- IDX_ALIGN (R358) -/
  | idxAlign (n : Fin 16)
  /-- SUPPLY_BELOW_RANGE (R452) -/
  | supplyBelowRange (below : Bool)
  deriving DecidableEq, Repr

end Sys2Proof
end

