-- ==== Sys2Proof/Config.lean ====
section
/-!
DEFINITION. What one part fixes and the spec does not state, and the free values: opaque constants without a body, so that no
proof can see a value of one.
-/
namespace Sys2Proof.Config

/-- ROM firmware version, `0x1000:04` (R298): no value stated. -/
opaque romVersion : BitVec 32

/-- A byte of the boot ROM (R30): its content is the vendor's. -/
opaque romByte (addr : Nat) : Byte

/-- A byte of a memory whose content is undefined (R480): one value for each epoch (each loss of content) and address. -/
opaque undefByte (epoch addr : Nat) : Byte

/-- A word of a lane's state memory (kind 0) or registers (kind 1), or of an image bank beyond its image (kind 2), as the debugger
reads it at TB `tb` after `ver` halts and steps: the layout is not stated (R127). -/
opaque laneWord (lane kind addr tb ver : Nat) : Word

/-- The first block whose state record a word of state memory covers (R127): the layout is not stated. -/
opaque stateBlock (lane addr : Nat) : BitVec 13

/-- What block `block`'s state record holds in field `field` after the debugger has written `w` at `addr` (R127). -/
opaque stateField (lane addr block field : Nat) (w : Word) : BitVec 64

/-- What of the lane context a word of state memory covers: 1 the scan number, 2 the SAFE bits, 3 a ROPE_IN watchdog count, else none of
them; and the block of that count (R110, R127). -/
opaque contextPart (lane addr : Nat) : BitVec 3
opaque contextBlock (lane addr : Nat) : BitVec 13

/-- Bits 31:4 of the SRAM address at which the pair's firmware has put an image at TB `tb` (R124): not stated. -/
opaque imageSrc (tb : Nat) : BitVec 28

/-- Which code of class 0x8, of those that R306 does not list, the entry with the values of a proving failure carries (R204, R305): not
stated. -/
opaque provingCode : BitVec 16

/-- Whether running channel `n` of Millrace moves, reads back or writes its record at TB `tb`, how many transactions are outstanding, and
how many words behind a failing write (R361, R362, R366): not stated. -/
opaque mrcPhase (n tb : Nat) : BitVec 8
opaque mrcOutstanding (tb : Nat) : BitVec 8
opaque wordsBehind (n tb : Nat) : BitVec 8

/-- Width in bits of comparator group `g` (R107): not stated. -/
opaque groupWidth (g : Nat) : BitVec 16

/-- Where the spec gives a quotient `num / den` without a rounding rule (R164, R167, R169): is it rounded up? -/
opaque roundUp (num den : Nat) : Bool

/-- Weight of a sail engine with a TYPE or PERIOD outside R169's table, in 1/65536. -/
opaque reservedWeight (cfg lvl phase : Nat) : Nat

/-- Phase of the spread-spectrum triangle of LED bank `b`, in ticks (R159): not stated. -/
opaque spreadPhase (b : Nat) : BitVec 14

/-- Bits 11:0 of the code of a journaled event for which R306 lists none; `kind` numbers the events in the assumption log. -/
opaque openCode (kind : Nat) : BitVec 12

/-- Rate correction in ppb after a SYNC with this offset (ns) and number of corrections (R229): no algorithm is stated. -/
opaque rateCorrection (offset : Int) (n : Nat) : BitVec 32

/-- IDX of a conversion that the supervision scheduled, whose core uses no table (R328, R339). -/
opaque supvIdx (core mux : Nat) : BitVec 6

/-- Level from outside on GPIO pin `k` at TB `tb`, while no timer captures its edges (R440). -/
opaque gpioPin (tb k : Nat) : Bool

/-- Silicon version, the top four bits of the IDCODE (R439). -/
opaque siliconVersion : BitVec 4

/-- Place of the entry with this SEQ among the 8192 of the mirror area (R311): the place of the first entry is not stated. -/
opaque mirrorSlot (seq : Nat) : Nat

/-- The boundary-scan cells as SAMPLE/PRELOAD captures them at TB `tb` (R439): their order is not stated. -/
opaque boundaryCells (tb : Nat) : Nat

/-- Default of an object dictionary entry whose table states none, as DESCRIBE reports it (R274, R298). -/
opaque odDefault (index sub : Nat) : BitVec 64

/-- Number under which CONFIG_REFUSED reports a failing configuration check of the rule `rule` (R306): R100 numbers the image
checks, and no rule numbers the others. -/
opaque checkNumber (rule : Nat) : BitVec 32

/-- P1 and P2 of decision 8 (R306, R319): instance and new value of slice kind `kind` at count `n` are not stated. -/
opaque sliceInstance (kind : Nat) : BitVec 32
opaque sliceValue (kind n : Nat) : BitVec 32

/-- Measured evaluation cycles of scan `scan` in a lane, of which `SLE_CYC0_MAX` and `SLE_CYC1_MAX` hold the largest (R129). -/
opaque scanCycles (lane scan : Nat) : BitVec 20

end Sys2Proof.Config
end

