-- ==== Sys2Proof/Machine/Tab.lean ====
section
/-!
DEFINITION. Sparse tables: an association list in one canonical form (keys strictly rising, no entry equal to what an
unlisted key reads as). Register files, memories and the per-input, per-channel, per-string tables of State are such
tables, so that equal contents are equal data and reset is the empty list.
-/
namespace Sys2Proof.Machine

/-- A sparse table from numbers (an address, a channel, an input) to values. -/
abbrev Tab (α : Type) := List (Nat × α)

/-- The listed value at `k`, if there is one. -/
def tabFind {α : Type} : Tab α → Nat → Option α
  | [], _ => none
  | (j, v) :: t, k => if j = k then some v else tabFind t k

/-- List `v` at `k`, in the place that keeps the keys rising. -/
def tabIns {α : Type} : Tab α → Nat → α → Tab α
  | [], k, v => [(k, v)]
  | (j, w) :: t, k, v =>
    if j = k then (k, v) :: t
    else if k < j then (k, v) :: (j, w) :: t
    else (j, w) :: tabIns t k v

/-- Unlist `k`. -/
def tabErase {α : Type} : Tab α → Nat → Tab α
  | [], _ => []
  | (j, w) :: t, k => if j = k then tabErase t k else (j, w) :: tabErase t k

/-- The value at `k`: the listed one, else `d`. -/
def tabGet {α : Type} (d : α) (t : Tab α) (k : Nat) : α := (tabFind t k).getD d

/-- Write `v` at `k`: a value equal to the default `d` is unlisted. -/
def tabPut {α : Type} [DecidableEq α] (d : α) (t : Tab α) (k : Nat) (v : α) : Tab α :=
  if v = d then tabErase t k else tabIns t k v

/-- The canonical form: keys strictly rising above `lo`, and no entry equal to `dflt` of its key. -/
def tabWfFrom {α : Type} [DecidableEq α] (dflt : Nat → α) : Nat → Tab α → Bool
  | _, [] => true
  | lo, (k, v) :: t => decide (lo ≤ k) && !(decide (v = dflt k)) && tabWfFrom dflt (k + 1) t

/-- The canonical form of a whole table. -/
def tabWf {α : Type} [DecidableEq α] (dflt : Nat → α) (t : Tab α) : Bool := tabWfFrom dflt 0 t

end Sys2Proof.Machine
end

