-- ==== Sys2Proof/Machine/Regs.lean ====
section
/-!
DEFINITION. The register map: every register of the spec's register tables (R24, R61, R129, R156, R180, R208, R233, R266,
R282, R340, R353, R372, R394, R408, R427, R441) with its address, access code (R4), reset value (R3) and write mask (R2),
and the bit fields of the registers under the names of their field tables.
-/
namespace Sys2Proof.Machine

/-- The access codes of R4. -/
inductive Access where
  | ro | rw | wo | w1c | w1p | rc
  deriving DecidableEq, Repr

/-- One row of a register table: `n1` windows `s1` bytes apart, each with `n2` registers `s2` bytes apart, from `base`. -/
structure RegRow where
  base : Nat
  n1 : Nat
  s1 : Nat
  n2 : Nat
  s2 : Nat
  acc : Access
  rst : Nat
  /-- bits a write can set (RW registers) -/
  wm : Nat
  /-- bits a written 1 clears -/
  w1c : Nat
  deriving DecidableEq, Repr

/-- A bit field [hi:lo] of a register. -/
structure Fld where
  hi : Nat
  lo : Nat
  deriving DecidableEq, Repr

namespace Reg

/-- Clock status (R24). -/
def SYS_CLK_STATUS : Nat := 0x40000040
/-- Crossing status (R24). -/
def SYS_XING_STATUS : Nat := 0x40000044
/-- Input types (R61). -/
def FIO_CTRL : Nat := 0x40040000
/-- Raw values of the last sample (R61). -/
def FIO_RAW (n : Nat) : Nat := 0x40040010 + 4 * n
/-- Filtered values (R61). -/
def FIO_FILT (n : Nat) : Nat := 0x40040020 + 4 * n
/-- Supply levels (R61). -/
def FIO_SUPPLY_STATUS : Nat := 0x40040040
/-- Bits 31:16 VFIELD1, bits 15:0 VFIELD0, in mV (R61). -/
def FIO_VFIELD : Nat := 0x40040044
/-- Skipped pulses (R61). -/
def FIO_TP_SKIP : Nat := 0x40040048
/-- Pair configuration (R61). -/
def FIO_PAIR_CFG (n : Nat) : Nat := 0x40040100 + 4 * n
/-- Test period (R61). -/
def FIO_TP_PERIOD : Nat := 0x40040200
/-- Source limits (R61). -/
def FIO_TP_CFG (n : Nat) : Nat := 0x40040240 + 4 * n
/-- Source width and response (R61). -/
def FIO_TP_STAT (n : Nat) : Nat := 0x40040280 + 4 * n
/-- Latched NO_PULSE (R61). -/
def FIO_NOPULSE (n : Nat) : Nat := 0x40040300 + 4 * n
/-- Latched CROSS_SHORT (R61). -/
def FIO_XSHORT (n : Nat) : Nat := 0x40040310 + 4 * n
/-- SLOW_PATH (R61). -/
def FIO_SLOW (n : Nat) : Nat := 0x40040320 + 4 * n
/-- Leakage watch settings (R61). -/
def FIO_LEAK_CFG : Nat := 0x40040400
/-- UNDEFINED flags (R61). -/
def FIO_LEAK_UNDEF (n : Nat) : Nat := 0x40040480 + 4 * n
/-- LEAK_WARN flags (R61). -/
def FIO_LEAK_WARN (n : Nat) : Nat := 0x40040490 + 4 * n
/-- Last voltages of inputs 4k to 4k + 3: input 4k in bits 7:0, input 4k + (R61). -/
def FIO_LEAK_V (n : Nat) : Nat := 0x40040500 + 4 * n
/-- Time stamp of the last filtered change, in µs (R61). -/
def FIO_TS (n : Nat) : Nat := 0x40040800 + 4 * n
/-- Lanes, banks, mode, recovery (R129). -/
def SLE_STATUS : Nat := 0x40050000
/-- Recovery limit (R129). -/
def SLE_CFG : Nat := 0x40050004
/-- Mismatches of source 0x1 and 0x3 (R129). -/
def SLE_MIS_CNT : Nat := 0x40050010
/-- Mismatches of source 0x2 (R129). -/
def SLE_LATENT_CNT : Nat := 0x40050014
/-- Completed recoveries (R129). -/
def SLE_RECOV_CNT : Nat := 0x40050018
/-- Skipped scans (R129). -/
def SLE_SKIP_CNT : Nat := 0x4005001C
/-- Signature of the last mismatch (R129). -/
def SLE_MIS_SIG : Nat := 0x40050020
/-- Bits 31:16 lane 1, bits 15:0 lane 0; passed injections, wrapping (R129). -/
def SLE_HB_PASS : Nat := 0x40050028
/-- Bits 19:0: largest measured scan cycles, lane 0 (R129). -/
def SLE_CYC_MAX (n : Nat) : Nat := 0x40050030 + 4 * n
/-- Corrected errors (R129). -/
def SLE_ECC_CNT : Nat := 0x40050038
/-- Load and swap requests (R129). -/
def SLE_IMG_CTRL : Nat := 0x40050040
/-- SRAM address of the image, 16-byte aligned (R129). -/
def SLE_IMG_SRC : Nat := 0x40050044
/-- Image length in bytes (R129). -/
def SLE_IMG_LEN : Nat := 0x40050048
/-- Loader status (R129). -/
def SLE_IMG_STAT : Nat := 0x4005004C
/-- Image CRC held in bank A (R129). -/
def SLE_IMG_CRC_A : Nat := 0x40050050
/-- Image CRC held in bank B (R129). -/
def SLE_IMG_CRC_B : Nat := 0x40050054
/-- Debug control (R129). -/
def SLE_DBG_CTRL : Nat := 0x40050100
/-- Debug address (R129). -/
def SLE_DBG_ADDR : Nat := 0x40050104
/-- Debug data (R129). -/
def SLE_DBG_DATA : Nat := 0x40050108
/-- Breakpoint: bit 31 enable, bits 11:0 table index (R129). -/
def SLE_DBG_BP : Nat := 0x4005010C
/-- Kill line, banks, groups, direct stop (R156). -/
def SOUT_STATUS : Nat := 0x40060000
/-- Global settings (R156). -/
def SOUT_CFG : Nat := 0x40060004
/-- Bits 9:0: T_OP in ms, 10–1000 (R156). -/
def SOUT_OP_PERIOD : Nat := 0x40060008
/-- Bits 23:0: commanded by the last applied image (R156). -/
def SOUT_IMG : Nat := 0x40060010
/-- Bits 23:0: applied state under R134 (R156). -/
def SOUT_APPLIED : Nat := 0x40060014
/-- Scan number of the last applied image (R156). -/
def SOUT_IMG_SCAN : Nat := 0x40060018
/-- Bits 23:0: RB_H (R156). -/
def SOUT_RB_H : Nat := 0x4006001C
/-- Bits 23:0: RB_L (R156). -/
def SOUT_RB_L : Nat := 0x40060020
/-- Bits 23:0: fault latched (R156). -/
def SOUT_FAULT : Nat := 0x40060024
/-- Bits 23:0: on-command held under R149 (R156). -/
def SOUT_SAG_HOLD : Nat := 0x40060028
/-- Bits 31:16 field bank 1, bits 15:0 field bank 0: pulses skipped for an (R156). -/
def SOUT_OP_SKIP : Nat := 0x4006002C
/-- Bits 31:16 field bank 1, bits 15:0 field bank 0: feed current in mA (R156). -/
def SOUT_BANK_I : Nat := 0x40060030
/-- Bits 15:0: discarded images under R135 (R156). -/
def SOUT_STALE_CNT : Nat := 0x40060034
/-- Channel configuration (R156). -/
def SOUT_CH_CFG (n : Nat) : Nat := 0x40060100 + 4 * n
/-- Off-pulse limits (R156). -/
def SOUT_CH_OW (n : Nat) : Nat := 0x40060180 + 4 * n
/-- Channel status (R156). -/
def SOUT_CH_STAT (n : Nat) : Nat := 0x40060200 + 4 * n
/-- Measurements; valid with IDIAG = 1 (R156). -/
def SOUT_CH_MEAS (n : Nat) : Nat := 0x40060300 + 4 * n
/-- Limits and bank states (R180). -/
def LMP_STATUS : Nat := 0x40070000
/-- LED bank 0 PWM and switching (R180). -/
def LMP_BANK_CFG (n : Nat) : Nat := 0x40070004 + 4 * n
/-- Thermal derating (R180). -/
def LMP_DERATE_CFG : Nat := 0x40070010
/-- Bits 7:0: P_LIMIT, 0.1 W, 60–110 (R180). -/
def LMP_PLIMIT : Nat := 0x40070014
/-- Bits 31:16 ft, bits 15:0 fp, u1.15 (R180). -/
def LMP_DERATE_STAT : Nat := 0x40070018
/-- Bits 15:8 hottest enabled NTC, bits 7:0 hottest die sensor; signed °C (R180). -/
def LMP_TEMP : Nat := 0x4007001C
/-- Bits 31:16 P_allow, bits 15:0 P_lamp; mW (R180). -/
def LMP_PLOSS : Nat := 0x40070020
/-- Bits 31:16 LED bank 1, bits 15:0 LED bank 0: output current, mA (R180). -/
def LMP_BANK_I : Nat := 0x40070024
/-- Latched stage faults under R178 (R180). -/
def LMP_FAULT : Nat := 0x40070028
/-- Mark staged string values under R166 (R180). -/
def LMP_APPLY : Nat := 0x4007002C
/-- Staged values not yet latched (R180). -/
def LMP_PEND : Nat := 0x40070030
/-- NTC conversion: B in bits 31:24 (250 K units), R_PU in bits 23:16 (100 (R180). -/
def LMP_NTC_CFG : Nat := 0x40070034
/-- Bits 31:16 LED bank 1, bits 15:0 LED bank 0: fbank, u1.15 (R180). -/
def LMP_FBANK : Nat := 0x40070038
/-- String configuration (R180). -/
def LMP_STR_CFG (n : Nat) : Nat := 0x40070100 + 4 * n
/-- Bits 15:0: flux coefficient k, u1.15 (R180). -/
def LMP_STR_CAL (n : Nat) : Nat := 0x40070180 + 4 * n
/-- Staged duty and current (R180). -/
def LMP_STR_RUN (n : Nat) : Nat := 0x40070200 + 4 * n
/-- Bits 12:8 engine (0x00–0x0F; 0x1F none), bits 7:0 SPHASE (R180). -/
def LMP_STR_SAIL (n : Nat) : Nat := 0x40070280 + 4 * n
/-- Bits 31:16 applied duty, bits 15:7 applied current in mA (R180). -/
def LMP_STR_ACT (n : Nat) : Nat := 0x40070300 + 4 * n
/-- Bits 31:24 string voltage in 0.125 V, bits 8:0 on-current in mA (R180). -/
def LMP_STR_MEAS (n : Nat) : Nat := 0x40070380 + 4 * n
/-- String status (R180). -/
def LMP_STR_STAT (n : Nat) : Nat := 0x40070400 + 4 * n
/-- Matrix configuration (R180). -/
def LMP_MTX_CFG : Nat := 0x40070500
/-- Bit 0: mark staged matrix values for the next frame (R180). -/
def LMP_MTX_CTRL : Nat := 0x40070504
/-- Bit 0: matrix values pending (R180). -/
def LMP_MTX_STAT : Nat := 0x40070508
/-- Column currents in mA; column 4k + j in bits 8j + 7:8j of register k (R180). -/
def LMP_MTX_COL (n : Nat) : Nat := 0x40070520 + 4 * n
/-- Dot duties; dot (l, c) in byte 32l + c, 4 bytes per register, low byte (R180). -/
def LMP_MTX_DOT (n : Nat) : Nat := 0x40070600 + 4 * n
/-- 8 words per head, at 0x800 + 0x20 × h (R180). -/
def LMP_RGB (n : Nat) : Nat := 0x40070800 + 4 * n
/-- Engine type and period (R180). -/
def LMP_SAIL_CFG (n : Nat) : Nat := 0x40070900 + 4 * n
/-- Engine levels (R180). -/
def LMP_SAIL_LVL (n : Nat) : Nat := 0x40070940 + 4 * n
/-- Cuts and pending commits (R208). -/
def ASP_STATUS : Nat := 0x40080000
/-- Proving settings (R208). -/
def ASP_CFG : Nat := 0x40080004
/-- Number of the last applied commit (R208). -/
def ASP_COMMIT_LAST : Nat := 0x40080010
/-- N for a local commit (R208). -/
def ASP_COMMIT_NUM : Nat := 0x40080014
/-- T_A bits 31:0, TB units (R208). -/
def ASP_COMMIT_TA_LO : Nat := 0x40080018
/-- T_A bits 63:32 (R208). -/
def ASP_COMMIT_TA_HI : Nat := 0x4008001C
/-- Local commit (R208). -/
def ASP_COMMIT_CTRL : Nat := 0x40080020
/-- Commit counters (R208). -/
def ASP_COMMIT_CNT : Nat := 0x40080024
/-- Strings with DARK or a latching stage fault (R208). -/
def ASP_DARK_FAIL : Nat := 0x40080030
/-- Strings with LIT or LIT_STUCK (R208). -/
def ASP_LIT_FAIL : Nat := 0x40080034
/-- Heads holding PFAIL (R208). -/
def ASP_HEAD_FB : Nat := 0x40080038
/-- Clear PFAIL under R206 (R208). -/
def ASP_HEAD_CLR : Nat := 0x4008003C
/-- Apply staged selections under R190 (R208). -/
def ASP_HEAD_APPLY : Nat := 0x40080040
/-- Head configuration (R208). -/
def ASP_HEAD_CFG (n : Nat) : Nat := 0x40080100 + 4 * n
/-- Bits 7:0: staged operational aspect (R208). -/
def ASP_HEAD_SEL (n : Nat) : Nat := 0x40080180 + 4 * n
/-- Head status (R208). -/
def ASP_HEAD_STAT (n : Nat) : Nat := 0x40080200 + 4 * n
/-- Strings of the head (R208). -/
def ASP_HEAD_MAP (n : Nat) : Nat := 0x40080280 + 4 * n
/-- Bits 7:0: VS_LO, 0.125 V; 0 disables the voltage checks (R208). -/
def ASP_STR_PRV (n : Nat) : Nat := 0x40080300 + 4 * n
/-- String proving status (R208). -/
def ASP_STR_PSTAT (n : Nat) : Nat := 0x40080380 + 4 * n
/-- Descriptors under R185 (R208). -/
def ASP_ASPECT (n : Nat) : Nat := 0x40081000 + 4 * n
/-- Elements under R186 (R208). -/
def ASP_ELEMENT (n : Nat) : Nat := 0x40082000 + 4 * n
/-- Pattern k at 0x4000 + 0x220 × k (R208). -/
def ASP_PATTERN (n : Nat) : Nat := 0x40084000 + 4 * n
/-- Ring and time status (R233). -/
def ROPE_STATUS : Nat := 0x400D0000
/-- Topology and hop limits (R233). -/
def ROPE_CFG : Nat := 0x400D0004
/-- Bits 15:0: node number (R233). -/
def ROPE_NODE : Nat := 0x400D0008
/-- Bits 31:16 backup root, bits 15:0 root (R233). -/
def ROPE_TIMECFG : Nat := 0x400D000C
/-- Bits 15:0: W in ns (R233). -/
def ROPE_WIN : Nat := 0x400D0010
/-- Offset from the active root at the last SYNC, ns, signed (R233). -/
def ROPE_TIME_OFS : Nat := 0x400D0014
/-- Bits 31:16 CHK failures, bits 15:0 WD expiries (R233). -/
def ROPE_SAFE_CNT : Nat := 0x400D0018
/-- Bits 31:16 STALE, bits 15:0 FOREIGN (R233). -/
def ROPE_DISCARD_CNT : Nat := 0x400D001C
/-- Bits 31:16 standby openings, bits 15:0 breaks on own ports (R233). -/
def ROPE_HEAL_CNT : Nat := 0x400D0020
/-- Port status (R233). -/
def ROPE_PORT_STAT (n : Nat) : Nat := 0x400D0040 + 4 * n
/-- Bits 15:0: link delay, ns (R233). -/
def ROPE_PORT_DELAY (n : Nat) : Nat := 0x400D0050 + 4 * n
/-- Bits 15:0: asymmetry, ns, signed (R233). -/
def ROPE_PORT_ASYM (n : Nat) : Nat := 0x400D0060 + 4 * n
/-- Bits 31:16 FCS, bits 15:0 DROP (R233). -/
def ROPE_PORT_ERR (n : Nat) : Nat := 0x400D0070 + 4 * n
/-- Subscriptions (R233). -/
def ROPE_SUB (n : Nat) : Nat := 0x400D0100 + 4 * n
/-- Pair status (R266). -/
def BLY_STATUS : Nat := 0x400E0000
/-- Pair settings (R266). -/
def BLY_CFG : Nat := 0x400E0004
/-- Bypass feedback (R266). -/
def BLY_BYPASS_CFG : Nat := 0x400E0008
/-- Own serial number, bits 31:0 (R266). -/
def BLY_SN_LO : Nat := 0x400E0010
/-- Own serial number, bits 63:32 (R266). -/
def BLY_SN_HI : Nat := 0x400E0014
/-- Partner serial number from HELLO, bits 31:0 (R266). -/
def BLY_PSN_LO : Nat := 0x400E0018
/-- Partner serial number, bits 63:32 (R266). -/
def BLY_PSN_HI : Nat := 0x400E001C
/-- Bits 15:0: hold time left, s; 0xFFFF not running (R266). -/
def BLY_HOLD_LEFT : Nat := 0x400E0020
/-- Pair counters (R266). -/
def BLY_CNT : Nat := 0x400E0024
/-- Link errors (R266). -/
def BLY_LINK_ERR : Nat := 0x400E0028
/-- Replacements (R266). -/
def BLY_RESYNC : Nat := 0x400E002C
/-- Input difference flags under R252 (R266). -/
def BLY_IDIFF (n : Nat) : Nat := 0x400E0040 + 4 * n
/-- Bit 0 GO (R282). -/
def ODX_CTRL : Nat := 0x400F0000
/-- Mailbox status (R282). -/
def ODX_STATUS : Nat := 0x400F0004
/-- Bits 7:0: request length, bytes (R282). -/
def ODX_REQ_LEN : Nat := 0x400F0008
/-- Bits 7:0: response length, bytes (R282). -/
def ODX_RSP_LEN : Nat := 0x400F000C
/-- Request bytes, 4 per register, low byte first (R282). -/
def ODX_REQ (n : Nat) : Nat := 0x400F0100 + 4 * n
/-- Response bytes, as ODX_REQ (R282). -/
def ODX_RSP (n : Nat) : Nat := 0x400F0200 + 4 * n
/-- Supervision, unusable cores, pairs (R340). -/
def ADC_STATUS : Nat := 0x40090000
/-- Bit 31 LOADED: trim applied under R329 (R340). -/
def ADC_TRIM : Nat := 0x40090004
/-- Bits 8n + 7:8n: urgent requests dropped on core n (R340). -/
def ADC_URGENT_DROP : Nat := 0x40090010
/-- Core configuration (R340). -/
def ADC_CFG (n : Nat) : Nat := 0x40091000 + 0x400 * n
/-- Bits 20:16 SRC, bits 15:0 DELAY (R340). -/
def ADC_TRIG (n : Nat) : Nat := 0x40091004 + 0x400 * n
/-- Bit 1 FLUSH, bit 0 SWTRIG (R340). -/
def ADC_CTRL (n : Nat) : Nat := 0x40091008 + 0x400 * n
/-- Core status (R340). -/
def ADC_STAT (n : Nat) : Nat := 0x4009100C + 0x400 * n
/-- Oldest FIFO result; a read removes it under R328 (R340). -/
def ADC_RES (n : Nat) : Nat := 0x40091010 + 0x400 * n
/-- Last result of the core (R340). -/
def ADC_LAST (n : Nat) : Nat := 0x40091014 + 0x400 * n
/-- Urgent request, step-entry layout (R340). -/
def ADC_URG (n : Nat) : Nat := 0x40091018 + 0x400 * n
/-- Bit 0 GO (R340). -/
def ADC_URG_CTRL (n : Nat) : Nat := 0x4009101C + 0x400 * n
/-- Urgent result (R340). -/
def ADC_URG_RES (n : Nat) : Nat := 0x40091020 + 0x400 * n
/-- Bits 31:16 TRIG_MISS, bits 15:0 SEQ_WAIT (R340). -/
def ADC_CNT (n : Nat) : Nat := 0x40091024 + 0x400 * n
/-- Loop table word A (R340). -/
def ADC_LOOP_A (n j : Nat) : Nat := 0x40091100 + 0x400 * n + 8 * j
/-- Loop table word B (R340). -/
def ADC_LOOP_B (n j : Nat) : Nat := 0x40091104 + 0x400 * n + 8 * j
/-- Entry e at 0x300 + 4e (R340). -/
def ADC_STEP (n j : Nat) : Nat := 0x40091300 + 0x400 * n + 4 * j
/-- TB bits 31:0 (R353). -/
def TMR_TB_LO : Nat := 0x400A0000
/-- TB bits 63:32 (R353). -/
def TMR_TB_HI : Nat := 0x400A0004
/-- Correction status (R353). -/
def TMR_TB_STAT : Nat := 0x400A0008
/-- Applied rate correction, ppb, signed (R353). -/
def TMR_TB_RATE : Nat := 0x400A000C
/-- Timer configuration (R353). -/
def TMR_CFG (n : Nat) : Nat := 0x400A0100 + 0x20 * n
/-- Bits 15:0: PRESC; 0 means 65 536 (R353). -/
def TMR_PRESC (n : Nat) : Nat := 0x400A0104 + 0x20 * n
/-- PERIOD (R353). -/
def TMR_PERIOD (n : Nat) : Nat := 0x400A0108 + 0x20 * n
/-- CMP (R353). -/
def TMR_CMP (n : Nat) : Nat := 0x400A010C + 0x20 * n
/-- PHASE, timer ticks (R353). -/
def TMR_PHASE (n : Nat) : Nat := 0x400A0110 + 0x20 * n
/-- Counter (R353). -/
def TMR_CNT (n : Nat) : Nat := 0x400A0114 + 0x20 * n
/-- Captured value; a read clears NEW (R353). -/
def TMR_CAP (n : Nat) : Nat := 0x400A0118 + 0x20 * n
/-- Timer status (R353). -/
def TMR_STAT (n : Nat) : Nat := 0x400A011C + 0x20 * n
/-- Bits 15:0: channel enabled (R372). -/
def MRC_EN : Nat := 0x400B0000
/-- Bits 31:16 ARMED, bits 15:0 busy (R372). -/
def MRC_STATUS : Nat := 0x400B0004
/-- Bits 15:0: a record with INT was written (R372). -/
def MRC_DONE : Nat := 0x400B0008
/-- Bits 6:0: outstanding transactions, 0–64 (R372). -/
def MRC_OUTST : Nat := 0x400B000C
/-- Bit 1 STOP, bit 0 SHADOW_ARM (R372). -/
def MRC_CH_CTRL (n : Nat) : Nat := 0x400B0100 + 0x40 * n
/-- Channel status (R372). -/
def MRC_CH_STAT (n : Nat) : Nat := 0x400B0104 + 0x40 * n
/-- Bit 31 PRIO; bits 4:0 OUTMAX, 1–16 (R372). -/
def MRC_CH_CFG (n : Nat) : Nat := 0x400B0108 + 0x40 * n
/-- Bits 15:0: BAD descriptors (R372). -/
def MRC_CH_BADCNT (n : Nat) : Nat := 0x400B010C + 0x40 * n
/-- Tailrace queue base (R372). -/
def MRC_CH_TQ_BASE (n : Nat) : Nat := 0x400B0110 + 0x40 * n
/-- Bits 8:0: records, 2–256, power of two (R372). -/
def MRC_CH_TQ_SIZE (n : Nat) : Nat := 0x400B0114 + 0x40 * n
/-- Bits 7:0: next slot Millrace writes (R372). -/
def MRC_CH_TQ_HEAD (n : Nat) : Nat := 0x400B0118 + 0x40 * n
/-- Bits 7:0: next record host firmware reads (R372). -/
def MRC_CH_TQ_TAIL (n : Nat) : Nat := 0x400B011C + 0x40 * n
/-- Shadow descriptor under R356 (R372). -/
def MRC_CH_SH (n j : Nat) : Nat := 0x400B0120 + 0x40 * n + 4 * j
/-- Descriptor abandoned at a stop under R367 (R372). -/
def MRC_CH_NEXT (n : Nat) : Nat := 0x400B0138 + 0x40 * n
/-- Bits 15:0: TAG in progress (R372). -/
def MRC_CH_ACT_TAG (n : Nat) : Nat := 0x400B013C + 0x40 * n
/-- Unit configuration (R372). -/
def CRC_CFG (n : Nat) : Nat := 0x400C0000 + 0x40 * n
/-- POLY (R372). -/
def CRC_POLY (n : Nat) : Nat := 0x400C0004 + 0x40 * n
/-- INIT (R372). -/
def CRC_INIT (n : Nat) : Nat := 0x400C0008 + 0x40 * n
/-- XOROUT (R372). -/
def CRC_XOROUT (n : Nat) : Nat := 0x400C000C + 0x40 * n
/-- Running value under R370 (R372). -/
def CRC_VAL (n : Nat) : Nat := 0x400C0010 + 0x40 * n
/-- Result under R370 (R372). -/
def CRC_RES (n : Nat) : Nat := 0x400C0014 + 0x40 * n
/-- Bit 0 INIT: load INIT into the running value (R372). -/
def CRC_CTRL (n : Nat) : Nat := 0x400C0018 + 0x40 * n
/-- Bits 7:0 processed (R372). -/
def CRC_DATA8 (n : Nat) : Nat := 0x400C001C + 0x40 * n
/-- Bits 15:0 processed (R372). -/
def CRC_DATA16 (n : Nat) : Nat := 0x400C0020 + 0x40 * n
/-- Bits 31:0 processed (R372). -/
def CRC_DATA32 (n : Nat) : Nat := 0x400C0024 + 0x40 * n
/-- Start-up result (R394). -/
def BIST_STATUS : Nat := 0x40030000
/-- Blocks marked unusable (R394). -/
def BIST_UNUSABLE : Nat := 0x40030004
/-- Bits 7:0: input bank k (R394). -/
def BIST_IN_UNUSABLE : Nat := 0x40030008
/-- Bits 23:0: channel c (R394). -/
def BIST_OUT_UNUSABLE : Nat := 0x4003000C
/-- Bits 31:0: string s (R394). -/
def BIST_STR_UNUSABLE : Nat := 0x40030010
/-- Bits 31:16 VDD_CORE in mV; bits 15:0 SYS clock error in 0.01 %, signed (R394). -/
def BIST_COND : Nat := 0x40030014
/-- Bits 15:0: duration of the last attempt, 10 µs (R394). -/
def BIST_TIME : Nat := 0x40030018
/-- Background settings (R394). -/
def BIST_BG_CFG : Nat := 0x40030020
/-- Bits 31:16 completed cycles; bits 15:8 failed slices; bits 7:0 progres (R394). -/
def BIST_BG_STAT : Nat := 0x40030024
/-- Life cycle and scan (R394). -/
def BIST_LC : Nat := 0x40030030
/-- Bit 31 BUSY; bit 30 MSCAN running; bit 29 KEY_SENSED (R408). -/
def OTP_STATUS : Nat := 0x40020000
/-- Bit 17 CRIT_PARITY; bit 16 MAP_BAD; bits 15:0 region r (R408). -/
def OTP_ALARM : Nat := 0x40020004
/-- Bits 31:16 regions with marginal words; bits 15:0 marginal words, satu (R408). -/
def OTP_MARGIN : Nat := 0x40020008
/-- Bits 31:16 RLOCK, bits 15:0 WLOCK of region r (R408). -/
def OTP_LOCK : Nat := 0x4002000C
/-- Map in force under R406 (R408). -/
def OTP_RELOC : Nat := 0x40020010
/-- Bits 4r + 3:4r: state of region r, r = 0–7 (R408). -/
def OTP_REGSTATE (n : Nat) : Nat := 0x40020014 + 4 * n
/-- Target of the next command (R408). -/
def OTP_PROG_ADDR : Nat := 0x40020020
/-- Bits to set (R408). -/
def OTP_PROG_DATA : Nat := 0x40020024
/-- Commands (R408). -/
def OTP_PROG_CTRL : Nat := 0x40020028
/-- Result of the last command (R408). -/
def OTP_PROG_STAT : Nat := 0x4002002C
/-- Bit 31 EN; bits 25:16 LEN; bits 9:0 value (R408). -/
def OTP_ODO (n : Nat) : Nat := 0x40020040 + 4 * n
/-- Normal-margin values (R408). -/
def OTP_DATA (n : Nat) : Nat := 0x40020800 + 4 * n
/-- Power status (R427). -/
def PWR_STATUS : Nat := 0x40010000
/-- Bits 2:0: request code under R411 (R427). -/
def PWR_REQ : Nat := 0x40010004
/-- Wake source enables and polarities (R427). -/
def PWR_WAKE_CFG : Nat := 0x40010008
/-- Bit c − 1: wake source code c latched, c = 1–10 (R427). -/
def PWR_WAKE_STAT : Nat := 0x4001000C
/-- Bits 7:0: code under R419 (R427). -/
def PWR_LAST_WAKE : Nat := 0x40010010
/-- Bits 31:16 refusals, saturating; bits 7:0 last refusing block code (R427). -/
def PWR_SLEEP_ABORT : Nat := 0x40010014
/-- Bit b: bank b failed at the last wake (R427). -/
def PWR_RET_FAIL : Nat := 0x40010018
/-- Regulator settings (R427). -/
def PWR_PMB_CFG : Nat := 0x4001001C
/-- RTC bits 31:0, AON ticks (R427). -/
def PWR_RTC_LO : Nat := 0x40010020
/-- Bits 15:0: RTC bits 47:32 (R427). -/
def PWR_RTC_HI : Nat := 0x40010024
/-- Alarm bits 31:0 (R427). -/
def PWR_RTC_ALM_LO : Nat := 0x40010028
/-- Bits 15:0: alarm bits 47:32 (R427). -/
def PWR_RTC_ALM_HI : Nat := 0x4001002C
/-- Bits 31:16 last wake, 10 µs; bits 15:0 last entry, µs (R427). -/
def PWR_TIMES : Nat := 0x40010030
/-- Summit log under R426, 4 bytes per register, low byte first (R427). -/
def PWR_SUMMIT (n : Nat) : Nat := 0x40010100 + 4 * n
/-- Host SPI status (R441). -/
def HOST_SPI_STAT : Nat := 0x40100000
/-- Bits 23:0: flash address (R441). -/
def HOST_FLASH_ADDR : Nat := 0x40100010
/-- Bits 8:0: bytes, 1–256 (R441). -/
def HOST_FLASH_LEN : Nat := 0x40100014
/-- Bit 2 ERASE (64 KiB), bit 1 PROG, bit 0 READ (R441). -/
def HOST_FLASH_CTRL : Nat := 0x40100018
/-- Bit 31 BUSY; bit 30 QUAD strap; bit 29 REFUSED (W1C); bits 3:0 RESULT: (R441). -/
def HOST_FLASH_STAT : Nat := 0x4010001C
/-- Bit 0 FAST: 1 MHz (R441). -/
def HOST_PMB_CTRL : Nat := 0x40100030
/-- Bits 31:16 last STATUS_WORD; bits 15:0 missing acknowledgements, satur (R441). -/
def HOST_PMB_STAT : Nat := 0x40100034
/-- IDCODE under R439 (R441). -/
def HOST_JTAG_ID : Nat := 0x40100040
/-- Pin configuration (R441). -/
def HOST_GPIO_CFG (n : Nat) : Nat := 0x40100080 + 4 * n
/-- Bits 15:0: pin levels (R441). -/
def HOST_GPIO_IN : Nat := 0x401000C0
/-- Bits 15:0: output levels (R441). -/
def HOST_GPIO_OUT : Nat := 0x401000C4
/-- Buffer, 4 bytes per register, low byte first (R441). -/
def HOST_FLASH_BUF (n : Nat) : Nat := 0x40100100 + 4 * n

end Reg

/-- The registers of one block window (R24).-/
def regRowsSys : List RegRow := [
  ⟨0x40000040, 1, 0x0, 1, 4, .w1c, 0x0, 0x0, 0xF00⟩, /- SYS_CLK_STATUS -/
  ⟨0x40000044, 1, 0x0, 1, 4, .w1c, 0x0, 0x0, 0x1FFE⟩ /- SYS_XING_STATUS -/]

/-- The registers of one block window (R61).-/
def regRowsFio : List RegRow := [
  ⟨0x40040000, 1, 0x0, 1, 4, .ro, 0x0, 0x0, 0x0⟩, /- FIO_CTRL -/
  ⟨0x40040010, 1, 0x0, 4, 4, .ro, 0x0, 0x0, 0x0⟩, /- FIO_RAW -/
  ⟨0x40040020, 1, 0x0, 4, 4, .ro, 0x0, 0x0, 0x0⟩, /- FIO_FILT -/
  ⟨0x40040040, 1, 0x0, 1, 4, .ro, 0x0, 0x0, 0x0⟩, /- FIO_SUPPLY_STATUS -/
  ⟨0x40040044, 1, 0x0, 1, 4, .ro, 0x0, 0x0, 0x0⟩, /- FIO_VFIELD -/
  ⟨0x40040048, 1, 0x0, 1, 4, .rc, 0x0, 0x0, 0x0⟩, /- FIO_TP_SKIP -/
  ⟨0x40040100, 1, 0x0, 64, 4, .ro, 0xFFF001F4, 0x0, 0x0⟩, /- FIO_PAIR_CFG -/
  ⟨0x40040200, 1, 0x0, 1, 4, .ro, 0x64, 0x0, 0x0⟩, /- FIO_TP_PERIOD -/
  ⟨0x40040240, 1, 0x0, 16, 4, .ro, 0xC990050, 0x0, 0x0⟩, /- FIO_TP_CFG -/
  ⟨0x40040280, 1, 0x0, 16, 4, .ro, 0x1900000, 0x0, 0x0⟩, /- FIO_TP_STAT -/
  ⟨0x40040300, 1, 0x0, 4, 4, .ro, 0x0, 0x0, 0x0⟩, /- FIO_NOPULSE -/
  ⟨0x40040310, 1, 0x0, 4, 4, .ro, 0x0, 0x0, 0x0⟩, /- FIO_XSHORT -/
  ⟨0x40040320, 1, 0x0, 4, 4, .ro, 0x0, 0x0, 0x0⟩, /- FIO_SLOW -/
  ⟨0x40040400, 1, 0x0, 1, 4, .rw, 0x80001803, 0x8000FF0F, 0x0⟩, /- FIO_LEAK_CFG -/
  ⟨0x40040480, 1, 0x0, 4, 4, .ro, 0x0, 0x0, 0x0⟩, /- FIO_LEAK_UNDEF -/
  ⟨0x40040490, 1, 0x0, 4, 4, .ro, 0x0, 0x0, 0x0⟩, /- FIO_LEAK_WARN -/
  ⟨0x40040500, 1, 0x0, 32, 4, .ro, 0xFFFFFFFF, 0x0, 0x0⟩, /- FIO_LEAK_V -/
  ⟨0x40040800, 1, 0x0, 128, 4, .ro, 0x0, 0x0, 0x0⟩ /- FIO_TS -/]

/-- The registers of one block window (R129).-/
def regRowsSle : List RegRow := [
  ⟨0x40050000, 1, 0x0, 1, 4, .ro, 0x0, 0x0, 0x0⟩, /- SLE_STATUS -/
  ⟨0x40050004, 1, 0x0, 1, 4, .ro, 0x2, 0x0, 0x0⟩, /- SLE_CFG -/
  ⟨0x40050010, 1, 0x0, 1, 4, .ro, 0x0, 0x0, 0x0⟩, /- SLE_MIS_CNT -/
  ⟨0x40050014, 1, 0x0, 1, 4, .ro, 0x0, 0x0, 0x0⟩, /- SLE_LATENT_CNT -/
  ⟨0x40050018, 1, 0x0, 1, 4, .ro, 0x0, 0x0, 0x0⟩, /- SLE_RECOV_CNT -/
  ⟨0x4005001C, 1, 0x0, 1, 4, .ro, 0x0, 0x0, 0x0⟩, /- SLE_SKIP_CNT -/
  ⟨0x40050020, 1, 0x0, 1, 4, .ro, 0x0, 0x0, 0x0⟩, /- SLE_MIS_SIG -/
  ⟨0x40050028, 1, 0x0, 1, 4, .ro, 0x0, 0x0, 0x0⟩, /- SLE_HB_PASS -/
  ⟨0x40050030, 1, 0x0, 2, 4, .ro, 0x0, 0x0, 0x0⟩, /- SLE_CYC_MAX -/
  ⟨0x40050038, 1, 0x0, 1, 4, .ro, 0x0, 0x0, 0x0⟩, /- SLE_ECC_CNT -/
  ⟨0x40050040, 1, 0x0, 1, 4, .w1p, 0x0, 0x0, 0x0⟩, /- SLE_IMG_CTRL -/
  ⟨0x40050044, 1, 0x0, 1, 4, .rw, 0x20000000, 0xFFFFFFFF, 0x0⟩, /- SLE_IMG_SRC -/
  ⟨0x40050048, 1, 0x0, 1, 4, .rw, 0x0, 0xFFFFFFFF, 0x0⟩, /- SLE_IMG_LEN -/
  ⟨0x4005004C, 1, 0x0, 1, 4, .ro, 0x0, 0x0, 0x10⟩, /- SLE_IMG_STAT -/
  ⟨0x40050050, 1, 0x0, 1, 4, .ro, 0x0, 0x0, 0x0⟩, /- SLE_IMG_CRC_A -/
  ⟨0x40050054, 1, 0x0, 1, 4, .ro, 0x0, 0x0, 0x0⟩, /- SLE_IMG_CRC_B -/
  ⟨0x40050100, 1, 0x0, 1, 4, .rw, 0x0, 0x1300, 0x20000⟩, /- SLE_DBG_CTRL -/
  ⟨0x40050104, 1, 0x0, 1, 4, .rw, 0x0, 0xFFFFFFFF, 0x0⟩, /- SLE_DBG_ADDR -/
  ⟨0x40050108, 1, 0x0, 1, 4, .rw, 0x0, 0xFFFFFFFF, 0x0⟩, /- SLE_DBG_DATA -/
  ⟨0x4005010C, 1, 0x0, 1, 4, .rw, 0x0, 0x80000FFF, 0x0⟩ /- SLE_DBG_BP -/]

/-- The registers of one block window (R156).-/
def regRowsSout : List RegRow := [
  ⟨0x40060000, 1, 0x0, 1, 4, .ro, 0x100, 0x0, 0x0⟩, /- SOUT_STATUS -/
  ⟨0x40060004, 1, 0x0, 1, 4, .ro, 0x1401, 0x0, 0x0⟩, /- SOUT_CFG -/
  ⟨0x40060008, 1, 0x0, 1, 4, .ro, 0x64, 0x0, 0x0⟩, /- SOUT_OP_PERIOD -/
  ⟨0x40060010, 1, 0x0, 1, 4, .ro, 0x0, 0x0, 0x0⟩, /- SOUT_IMG -/
  ⟨0x40060014, 1, 0x0, 1, 4, .ro, 0x0, 0x0, 0x0⟩, /- SOUT_APPLIED -/
  ⟨0x40060018, 1, 0x0, 1, 4, .ro, 0x0, 0x0, 0x0⟩, /- SOUT_IMG_SCAN -/
  ⟨0x4006001C, 1, 0x0, 1, 4, .ro, 0x0, 0x0, 0x0⟩, /- SOUT_RB_H -/
  ⟨0x40060020, 1, 0x0, 1, 4, .ro, 0x0, 0x0, 0x0⟩, /- SOUT_RB_L -/
  ⟨0x40060024, 1, 0x0, 1, 4, .ro, 0x0, 0x0, 0x0⟩, /- SOUT_FAULT -/
  ⟨0x40060028, 1, 0x0, 1, 4, .ro, 0x0, 0x0, 0x0⟩, /- SOUT_SAG_HOLD -/
  ⟨0x4006002C, 1, 0x0, 1, 4, .rc, 0x0, 0x0, 0x0⟩, /- SOUT_OP_SKIP -/
  ⟨0x40060030, 1, 0x0, 1, 4, .ro, 0x0, 0x0, 0x0⟩, /- SOUT_BANK_I -/
  ⟨0x40060034, 1, 0x0, 1, 4, .ro, 0x0, 0x0, 0x0⟩, /- SOUT_STALE_CNT -/
  ⟨0x40060100, 1, 0x0, 24, 4, .ro, 0xA00, 0x0, 0x0⟩, /- SOUT_CH_CFG -/
  ⟨0x40060180, 1, 0x0, 24, 4, .ro, 0x80064064, 0x0, 0x0⟩, /- SOUT_CH_OW -/
  ⟨0x40060200, 1, 0x0, 24, 4, .ro, 0x190F800, 0x0, 0x0⟩, /- SOUT_CH_STAT -/
  ⟨0x40060300, 1, 0x0, 24, 4, .ro, 0x0, 0x0, 0x0⟩ /- SOUT_CH_MEAS -/]

/-- The registers of one block window (R180).-/
def regRowsLmp : List RegRow := [
  ⟨0x40070000, 1, 0x0, 1, 4, .ro, 0x0, 0x0, 0x0⟩, /- LMP_STATUS -/
  ⟨0x40070004, 1, 0x0, 2, 4, .ro, 0x8010110, 0x0, 0x0⟩, /- LMP_BANK_CFG -/
  ⟨0x40070010, 1, 0x0, 1, 4, .ro, 0x55280010, 0x0, 0x0⟩, /- LMP_DERATE_CFG -/
  ⟨0x40070014, 1, 0x0, 1, 4, .ro, 0x6E, 0x0, 0x0⟩, /- LMP_PLIMIT -/
  ⟨0x40070018, 1, 0x0, 1, 4, .ro, 0x80008000, 0x0, 0x0⟩, /- LMP_DERATE_STAT -/
  ⟨0x4007001C, 1, 0x0, 1, 4, .ro, 0x0, 0x0, 0x0⟩, /- LMP_TEMP -/
  ⟨0x40070020, 1, 0x0, 1, 4, .ro, 0x0, 0x0, 0x0⟩, /- LMP_PLOSS -/
  ⟨0x40070024, 1, 0x0, 1, 4, .ro, 0x0, 0x0, 0x0⟩, /- LMP_BANK_I -/
  ⟨0x40070028, 1, 0x0, 1, 4, .w1c, 0x0, 0x0, 0xFFFFFFFF⟩, /- LMP_FAULT -/
  ⟨0x4007002C, 1, 0x0, 1, 4, .w1p, 0x0, 0x0, 0x0⟩, /- LMP_APPLY -/
  ⟨0x40070030, 1, 0x0, 1, 4, .ro, 0x0, 0x0, 0x0⟩, /- LMP_PEND -/
  ⟨0x40070034, 1, 0x0, 1, 4, .ro, 0xF6E2710, 0x0, 0x0⟩, /- LMP_NTC_CFG -/
  ⟨0x40070038, 1, 0x0, 1, 4, .ro, 0x80008000, 0x0, 0x0⟩, /- LMP_FBANK -/
  ⟨0x40070100, 1, 0x0, 32, 4, .ro, 0x210014, 0x0, 0x0⟩, /- LMP_STR_CFG -/
  ⟨0x40070180, 1, 0x0, 32, 4, .ro, 0x8000, 0x0, 0x0⟩, /- LMP_STR_CAL -/
  ⟨0x40070200, 1, 0x0, 32, 4, .rw, 0x0, 0xFFFFFF80, 0x0⟩, /- LMP_STR_RUN -/
  ⟨0x40070280, 1, 0x0, 32, 4, .rw, 0x1F00, 0x1FFF, 0x0⟩, /- LMP_STR_SAIL -/
  ⟨0x40070300, 1, 0x0, 32, 4, .ro, 0x0, 0x0, 0x0⟩, /- LMP_STR_ACT -/
  ⟨0x40070380, 1, 0x0, 32, 4, .ro, 0x0, 0x0, 0x0⟩, /- LMP_STR_MEAS -/
  ⟨0x40070400, 1, 0x0, 32, 4, .ro, 0x0, 0x0, 0x0⟩, /- LMP_STR_STAT -/
  ⟨0x40070500, 1, 0x0, 1, 4, .ro, 0xF102119, 0x0, 0x0⟩, /- LMP_MTX_CFG -/
  ⟨0x40070504, 1, 0x0, 1, 4, .w1p, 0x0, 0x0, 0x0⟩, /- LMP_MTX_CTRL -/
  ⟨0x40070508, 1, 0x0, 1, 4, .ro, 0x0, 0x0, 0x0⟩, /- LMP_MTX_STAT -/
  ⟨0x40070520, 1, 0x0, 8, 4, .rw, 0x0, 0xFFFFFFFF, 0x0⟩, /- LMP_MTX_COL -/
  ⟨0x40070600, 1, 0x0, 128, 4, .rw, 0x0, 0xFFFFFFFF, 0x0⟩, /- LMP_MTX_DOT -/
  ⟨0x40070800, 1, 0x0, 64, 4, .ro, 0x0, 0x0, 0x0⟩, /- LMP_RGB -/
  ⟨0x40070900, 1, 0x0, 16, 4, .rw, 0x3E8, 0xE000FFFF, 0x0⟩, /- LMP_SAIL_CFG -/
  ⟨0x40070940, 1, 0x0, 16, 4, .rw, 0x80FF00, 0xFFFFFF, 0x0⟩ /- LMP_SAIL_LVL -/]

/-- The registers of one block window (R208).-/
def regRowsAsp : List RegRow := [
  ⟨0x40080000, 1, 0x0, 1, 4, .ro, 0x0, 0x0, 0x0⟩, /- ASP_STATUS -/
  ⟨0x40080004, 1, 0x0, 1, 4, .ro, 0x30103200, 0x0, 0x0⟩, /- ASP_CFG -/
  ⟨0x40080010, 1, 0x0, 1, 4, .ro, 0x0, 0x0, 0x0⟩, /- ASP_COMMIT_LAST -/
  ⟨0x40080014, 1, 0x0, 1, 4, .rw, 0x0, 0xFFFFFFFF, 0x0⟩, /- ASP_COMMIT_NUM -/
  ⟨0x40080018, 1, 0x0, 1, 4, .rw, 0x0, 0xFFFFFFFF, 0x0⟩, /- ASP_COMMIT_TA_LO -/
  ⟨0x4008001C, 1, 0x0, 1, 4, .rw, 0x0, 0xFFFFFFFF, 0x0⟩, /- ASP_COMMIT_TA_HI -/
  ⟨0x40080020, 1, 0x0, 1, 4, .w1p, 0x0, 0x0, 0x0⟩, /- ASP_COMMIT_CTRL -/
  ⟨0x40080024, 1, 0x0, 1, 4, .ro, 0x0, 0x0, 0x0⟩, /- ASP_COMMIT_CNT -/
  ⟨0x40080030, 1, 0x0, 1, 4, .ro, 0x0, 0x0, 0x0⟩, /- ASP_DARK_FAIL -/
  ⟨0x40080034, 1, 0x0, 1, 4, .ro, 0x0, 0x0, 0x0⟩, /- ASP_LIT_FAIL -/
  ⟨0x40080038, 1, 0x0, 1, 4, .ro, 0x0, 0x0, 0x0⟩, /- ASP_HEAD_FB -/
  ⟨0x4008003C, 1, 0x0, 1, 4, .w1p, 0x0, 0x0, 0x0⟩, /- ASP_HEAD_CLR -/
  ⟨0x40080040, 1, 0x0, 1, 4, .w1p, 0x0, 0x0, 0x0⟩, /- ASP_HEAD_APPLY -/
  ⟨0x40080100, 1, 0x0, 32, 4, .ro, 0x0, 0x0, 0x0⟩, /- ASP_HEAD_CFG -/
  ⟨0x40080180, 1, 0x0, 32, 4, .rw, 0x0, 0xFF, 0x0⟩, /- ASP_HEAD_SEL -/
  ⟨0x40080200, 1, 0x0, 32, 4, .ro, 0x0, 0x0, 0x0⟩, /- ASP_HEAD_STAT -/
  ⟨0x40080280, 1, 0x0, 32, 4, .ro, 0x0, 0x0, 0x0⟩, /- ASP_HEAD_MAP -/
  ⟨0x40080300, 1, 0x0, 32, 4, .ro, 0x0, 0x0, 0x0⟩, /- ASP_STR_PRV -/
  ⟨0x40080380, 1, 0x0, 32, 4, .ro, 0x0, 0x0, 0x0⟩, /- ASP_STR_PSTAT -/
  ⟨0x40081000, 1, 0x0, 512, 4, .ro, 0x0, 0x0, 0x0⟩, /- ASP_ASPECT -/
  ⟨0x40082000, 1, 0x0, 2048, 4, .ro, 0x0, 0x0, 0x0⟩, /- ASP_ELEMENT -/
  ⟨0x40084000, 1, 0x0, 1088, 4, .ro, 0x0, 0x0, 0x0⟩ /- ASP_PATTERN -/]

/-- The registers of one block window (R233).-/
def regRowsRope : List RegRow := [
  ⟨0x400D0000, 1, 0x0, 1, 4, .ro, 0x0, 0x0, 0x0⟩, /- ROPE_STATUS -/
  ⟨0x400D0004, 1, 0x0, 1, 4, .ro, 0x100801, 0x0, 0x0⟩, /- ROPE_CFG -/
  ⟨0x400D0008, 1, 0x0, 1, 4, .ro, 0x0, 0x0, 0x0⟩, /- ROPE_NODE -/
  ⟨0x400D000C, 1, 0x0, 1, 4, .ro, 0x0, 0x0, 0x0⟩, /- ROPE_TIMECFG -/
  ⟨0x400D0010, 1, 0x0, 1, 4, .ro, 0x6A40, 0x0, 0x0⟩, /- ROPE_WIN -/
  ⟨0x400D0014, 1, 0x0, 1, 4, .ro, 0x0, 0x0, 0x0⟩, /- ROPE_TIME_OFS -/
  ⟨0x400D0018, 1, 0x0, 1, 4, .ro, 0x0, 0x0, 0x0⟩, /- ROPE_SAFE_CNT -/
  ⟨0x400D001C, 1, 0x0, 1, 4, .ro, 0x0, 0x0, 0x0⟩, /- ROPE_DISCARD_CNT -/
  ⟨0x400D0020, 1, 0x0, 1, 4, .ro, 0x0, 0x0, 0x0⟩, /- ROPE_HEAL_CNT -/
  ⟨0x400D0040, 1, 0x0, 3, 4, .ro, 0x0, 0x0, 0x0⟩, /- ROPE_PORT_STAT -/
  ⟨0x400D0050, 1, 0x0, 3, 4, .ro, 0x0, 0x0, 0x0⟩, /- ROPE_PORT_DELAY -/
  ⟨0x400D0060, 1, 0x0, 3, 4, .ro, 0x0, 0x0, 0x0⟩, /- ROPE_PORT_ASYM -/
  ⟨0x400D0070, 1, 0x0, 3, 4, .rc, 0x0, 0x0, 0x0⟩, /- ROPE_PORT_ERR -/
  ⟨0x400D0100, 1, 0x0, 256, 4, .ro, 0x0, 0x0, 0x0⟩ /- ROPE_SUB -/]

/-- The registers of one block window (R266).-/
def regRowsBly : List RegRow := [
  ⟨0x400E0000, 1, 0x0, 1, 4, .ro, 0x0, 0x0, 0x0⟩, /- BLY_STATUS -/
  ⟨0x400E0004, 1, 0x0, 1, 4, .ro, 0x1E0014, 0x0, 0x0⟩, /- BLY_CFG -/
  ⟨0x400E0008, 1, 0x0, 1, 4, .ro, 0x1EFFFF, 0x0, 0x0⟩, /- BLY_BYPASS_CFG -/
  ⟨0x400E0010, 1, 0x0, 1, 4, .ro, 0x0, 0x0, 0x0⟩, /- BLY_SN_LO -/
  ⟨0x400E0014, 1, 0x0, 1, 4, .ro, 0x0, 0x0, 0x0⟩, /- BLY_SN_HI -/
  ⟨0x400E0018, 1, 0x0, 1, 4, .ro, 0x0, 0x0, 0x0⟩, /- BLY_PSN_LO -/
  ⟨0x400E001C, 1, 0x0, 1, 4, .ro, 0x0, 0x0, 0x0⟩, /- BLY_PSN_HI -/
  ⟨0x400E0020, 1, 0x0, 1, 4, .ro, 0xFFFF, 0x0, 0x0⟩, /- BLY_HOLD_LEFT -/
  ⟨0x400E0024, 1, 0x0, 1, 4, .ro, 0x0, 0x0, 0x0⟩, /- BLY_CNT -/
  ⟨0x400E0028, 1, 0x0, 1, 4, .rc, 0x0, 0x0, 0x0⟩, /- BLY_LINK_ERR -/
  ⟨0x400E002C, 1, 0x0, 1, 4, .ro, 0x0, 0x0, 0x0⟩, /- BLY_RESYNC -/
  ⟨0x400E0040, 1, 0x0, 4, 4, .ro, 0x0, 0x0, 0x0⟩ /- BLY_IDIFF -/]

/-- The registers of one block window (R282).-/
def regRowsOdx : List RegRow := [
  ⟨0x400F0000, 1, 0x0, 1, 4, .w1p, 0x0, 0x0, 0x0⟩, /- ODX_CTRL -/
  ⟨0x400F0004, 1, 0x0, 1, 4, .ro, 0x0, 0x0, 0x2⟩, /- ODX_STATUS -/
  ⟨0x400F0008, 1, 0x0, 1, 4, .rw, 0x10, 0xFF, 0x0⟩, /- ODX_REQ_LEN -/
  ⟨0x400F000C, 1, 0x0, 1, 4, .ro, 0x0, 0x0, 0x0⟩, /- ODX_RSP_LEN -/
  ⟨0x400F0100, 1, 0x0, 57, 4, .rw, 0x0, 0xFFFFFFFF, 0x0⟩, /- ODX_REQ -/
  ⟨0x400F0200, 1, 0x0, 57, 4, .ro, 0x0, 0x0, 0x0⟩ /- ODX_RSP -/]

/-- The registers of one block window (R340).-/
def regRowsAdc : List RegRow := [
  ⟨0x40090000, 1, 0x0, 1, 4, .ro, 0x0, 0x0, 0x0⟩, /- ADC_STATUS -/
  ⟨0x40090004, 1, 0x0, 1, 4, .ro, 0x0, 0x0, 0x0⟩, /- ADC_TRIM -/
  ⟨0x40090010, 1, 0x0, 1, 4, .rc, 0x0, 0x0, 0x0⟩, /- ADC_URGENT_DROP -/
  ⟨0x40091000, 4, 0x400, 1, 4, .rw, 0x7C00, 0xFFFFFFFF, 0x0⟩, /- ADC_CFG -/
  ⟨0x40091004, 4, 0x400, 1, 4, .rw, 0x0, 0x1FFFFF, 0x0⟩, /- ADC_TRIG -/
  ⟨0x40091008, 4, 0x400, 1, 4, .w1p, 0x0, 0x0, 0x0⟩, /- ADC_CTRL -/
  ⟨0x4009100C, 4, 0x400, 1, 4, .ro, 0x0, 0x0, 0x1500⟩, /- ADC_STAT -/
  ⟨0x40091010, 4, 0x400, 1, 4, .ro, 0xFFFFFFFF, 0x0, 0x0⟩, /- ADC_RES -/
  ⟨0x40091014, 4, 0x400, 1, 4, .ro, 0x0, 0x0, 0x0⟩, /- ADC_LAST -/
  ⟨0x40091018, 4, 0x400, 1, 4, .rw, 0x0, 0xFF07FF, 0x0⟩, /- ADC_URG -/
  ⟨0x4009101C, 4, 0x400, 1, 4, .w1p, 0x0, 0x0, 0x0⟩, /- ADC_URG_CTRL -/
  ⟨0x40091020, 4, 0x400, 1, 4, .ro, 0x0, 0x0, 0x0⟩, /- ADC_URG_RES -/
  ⟨0x40091024, 4, 0x400, 1, 4, .rc, 0x0, 0x0, 0x0⟩, /- ADC_CNT -/
  ⟨0x40091100, 4, 0x400, 64, 8, .rw, 0x0, 0xFF0001FF, 0x0⟩, /- ADC_LOOP_A -/
  ⟨0x40091104, 4, 0x400, 64, 8, .rw, 0x0, 0xFFFF, 0x0⟩, /- ADC_LOOP_B -/
  ⟨0x40091300, 4, 0x400, 16, 4, .rw, 0x0, 0xFF07FF, 0x0⟩ /- ADC_STEP -/]

/-- The registers of one block window (R353).-/
def regRowsTmr : List RegRow := [
  ⟨0x400A0000, 1, 0x0, 1, 4, .ro, 0x0, 0x0, 0x0⟩, /- TMR_TB_LO -/
  ⟨0x400A0004, 1, 0x0, 1, 4, .ro, 0x0, 0x0, 0x0⟩, /- TMR_TB_HI -/
  ⟨0x400A0008, 1, 0x0, 1, 4, .ro, 0x0, 0x0, 0x0⟩, /- TMR_TB_STAT -/
  ⟨0x400A000C, 1, 0x0, 1, 4, .ro, 0x0, 0x0, 0x0⟩, /- TMR_TB_RATE -/
  ⟨0x400A0100, 16, 0x20, 1, 4, .rw, 0x0, 0xFFE00000, 0x0⟩, /- TMR_CFG -/
  ⟨0x400A0104, 16, 0x20, 1, 4, .rw, 0x1, 0xFFFF, 0x0⟩, /- TMR_PRESC -/
  ⟨0x400A0108, 16, 0x20, 1, 4, .rw, 0xFFFFFFFF, 0xFFFFFFFF, 0x0⟩, /- TMR_PERIOD -/
  ⟨0x400A010C, 16, 0x20, 1, 4, .rw, 0xFFFFFFFF, 0xFFFFFFFF, 0x0⟩, /- TMR_CMP -/
  ⟨0x400A0110, 16, 0x20, 1, 4, .rw, 0x0, 0xFFFFFFFF, 0x0⟩, /- TMR_PHASE -/
  ⟨0x400A0114, 16, 0x20, 1, 4, .ro, 0x0, 0x0, 0x0⟩, /- TMR_CNT -/
  ⟨0x400A0118, 16, 0x20, 1, 4, .ro, 0x0, 0x0, 0x0⟩, /- TMR_CAP -/
  ⟨0x400A011C, 16, 0x20, 1, 4, .ro, 0x0, 0x0, 0x27B⟩ /- TMR_STAT -/]

/-- The registers of one block window (R372).-/
def regRowsMrc : List RegRow := [
  ⟨0x400B0000, 1, 0x0, 1, 4, .rw, 0x0, 0xFFFF, 0x0⟩, /- MRC_EN -/
  ⟨0x400B0004, 1, 0x0, 1, 4, .ro, 0x0, 0x0, 0x0⟩, /- MRC_STATUS -/
  ⟨0x400B0008, 1, 0x0, 1, 4, .w1c, 0x0, 0x0, 0xFFFF⟩, /- MRC_DONE -/
  ⟨0x400B000C, 1, 0x0, 1, 4, .ro, 0x0, 0x0, 0x0⟩, /- MRC_OUTST -/
  ⟨0x400B0100, 16, 0x40, 1, 4, .w1p, 0x0, 0x0, 0x0⟩, /- MRC_CH_CTRL -/
  ⟨0x400B0104, 16, 0x40, 1, 4, .ro, 0x0, 0x0, 0xF000000⟩, /- MRC_CH_STAT -/
  ⟨0x400B0108, 16, 0x40, 1, 4, .rw, 0x8, 0x8000001F, 0x0⟩, /- MRC_CH_CFG -/
  ⟨0x400B010C, 16, 0x40, 1, 4, .rc, 0x0, 0x0, 0x0⟩, /- MRC_CH_BADCNT -/
  ⟨0x400B0110, 16, 0x40, 1, 4, .rw, 0x20000000, 0xFFFFFFFF, 0x0⟩, /- MRC_CH_TQ_BASE -/
  ⟨0x400B0114, 16, 0x40, 1, 4, .rw, 0x10, 0x1FF, 0x0⟩, /- MRC_CH_TQ_SIZE -/
  ⟨0x400B0118, 16, 0x40, 1, 4, .ro, 0x0, 0x0, 0x0⟩, /- MRC_CH_TQ_HEAD -/
  ⟨0x400B011C, 16, 0x40, 1, 4, .rw, 0x0, 0xFF, 0x0⟩, /- MRC_CH_TQ_TAIL -/
  ⟨0x400B0120, 16, 0x40, 6, 4, .rw, 0x0, 0xFFFFFFFF, 0x0⟩, /- MRC_CH_SH -/
  ⟨0x400B0138, 16, 0x40, 1, 4, .ro, 0x0, 0x0, 0x0⟩, /- MRC_CH_NEXT -/
  ⟨0x400B013C, 16, 0x40, 1, 4, .ro, 0x0, 0x0, 0x0⟩ /- MRC_CH_ACT_TAG -/]

/-- The registers of one block window (R372).-/
def regRowsCrc : List RegRow := [
  ⟨0x400C0000, 4, 0x40, 1, 4, .rw, 0x6000001F, 0xE000001F, 0x0⟩, /- CRC_CFG -/
  ⟨0x400C0004, 4, 0x40, 1, 4, .rw, 0x4C11DB7, 0xFFFFFFFF, 0x0⟩, /- CRC_POLY -/
  ⟨0x400C0008, 4, 0x40, 1, 4, .rw, 0xFFFFFFFF, 0xFFFFFFFF, 0x0⟩, /- CRC_INIT -/
  ⟨0x400C000C, 4, 0x40, 1, 4, .rw, 0xFFFFFFFF, 0xFFFFFFFF, 0x0⟩, /- CRC_XOROUT -/
  ⟨0x400C0010, 4, 0x40, 1, 4, .rw, 0xFFFFFFFF, 0xFFFFFFFF, 0x0⟩, /- CRC_VAL -/
  ⟨0x400C0014, 4, 0x40, 1, 4, .ro, 0x0, 0x0, 0x0⟩, /- CRC_RES -/
  ⟨0x400C0018, 4, 0x40, 1, 4, .w1p, 0x0, 0x0, 0x0⟩, /- CRC_CTRL -/
  ⟨0x400C001C, 4, 0x40, 1, 4, .wo, 0x0, 0x0, 0x0⟩, /- CRC_DATA8 -/
  ⟨0x400C0020, 4, 0x40, 1, 4, .wo, 0x0, 0x0, 0x0⟩, /- CRC_DATA16 -/
  ⟨0x400C0024, 4, 0x40, 1, 4, .wo, 0x0, 0x0, 0x0⟩ /- CRC_DATA32 -/]

/-- The registers of one block window (R394).-/
def regRowsBist : List RegRow := [
  ⟨0x40030000, 1, 0x0, 1, 4, .ro, 0x0, 0x0, 0x0⟩, /- BIST_STATUS -/
  ⟨0x40030004, 1, 0x0, 1, 4, .ro, 0x0, 0x0, 0x0⟩, /- BIST_UNUSABLE -/
  ⟨0x40030008, 1, 0x0, 1, 4, .ro, 0x0, 0x0, 0x0⟩, /- BIST_IN_UNUSABLE -/
  ⟨0x4003000C, 1, 0x0, 1, 4, .ro, 0x0, 0x0, 0x0⟩, /- BIST_OUT_UNUSABLE -/
  ⟨0x40030010, 1, 0x0, 1, 4, .ro, 0x0, 0x0, 0x0⟩, /- BIST_STR_UNUSABLE -/
  ⟨0x40030014, 1, 0x0, 1, 4, .ro, 0x0, 0x0, 0x0⟩, /- BIST_COND -/
  ⟨0x40030018, 1, 0x0, 1, 4, .ro, 0x0, 0x0, 0x0⟩, /- BIST_TIME -/
  ⟨0x40030020, 1, 0x0, 1, 4, .ro, 0x80000018, 0x0, 0x0⟩, /- BIST_BG_CFG -/
  ⟨0x40030024, 1, 0x0, 1, 4, .ro, 0x0, 0x0, 0x0⟩, /- BIST_BG_STAT -/
  ⟨0x40030030, 1, 0x0, 1, 4, .ro, 0x0, 0x0, 0x0⟩ /- BIST_LC -/]

/-- The registers of one block window (R408).-/
def regRowsOtp : List RegRow := [
  ⟨0x40020000, 1, 0x0, 1, 4, .ro, 0x0, 0x0, 0x0⟩, /- OTP_STATUS -/
  ⟨0x40020004, 1, 0x0, 1, 4, .ro, 0x0, 0x0, 0x0⟩, /- OTP_ALARM -/
  ⟨0x40020008, 1, 0x0, 1, 4, .ro, 0x0, 0x0, 0x0⟩, /- OTP_MARGIN -/
  ⟨0x4002000C, 1, 0x0, 1, 4, .ro, 0x0, 0x0, 0x0⟩, /- OTP_LOCK -/
  ⟨0x40020010, 1, 0x0, 1, 4, .ro, 0x0, 0x0, 0x0⟩, /- OTP_RELOC -/
  ⟨0x40020014, 1, 0x0, 2, 4, .ro, 0x0, 0x0, 0x0⟩, /- OTP_REGSTATE -/
  ⟨0x40020020, 1, 0x0, 1, 4, .rw, 0x0, 0xF1F, 0x0⟩, /- OTP_PROG_ADDR -/
  ⟨0x40020024, 1, 0x0, 1, 4, .rw, 0x0, 0xFFFFFFFF, 0x0⟩, /- OTP_PROG_DATA -/
  ⟨0x40020028, 1, 0x0, 1, 4, .w1p, 0x0, 0x0, 0x0⟩, /- OTP_PROG_CTRL -/
  ⟨0x4002002C, 1, 0x0, 1, 4, .ro, 0x0, 0x0, 0x8000000⟩, /- OTP_PROG_STAT -/
  ⟨0x40020040, 1, 0x0, 4, 4, .ro, 0x0, 0x0, 0x0⟩, /- OTP_ODO -/
  ⟨0x40020800, 1, 0x0, 512, 4, .ro, 0x0, 0x0, 0x0⟩ /- OTP_DATA -/]

/-- The registers of one block window (R427).-/
def regRowsPwr : List RegRow := [
  ⟨0x40010000, 1, 0x0, 1, 4, .ro, 0x0, 0x0, 0xF0⟩, /- PWR_STATUS -/
  ⟨0x40010004, 1, 0x0, 1, 4, .wo, 0x0, 0x0, 0x0⟩, /- PWR_REQ -/
  ⟨0x40010008, 1, 0x0, 1, 4, .rw, 0x0, 0x3FFFF, 0x0⟩, /- PWR_WAKE_CFG -/
  ⟨0x4001000C, 1, 0x0, 1, 4, .w1c, 0x0, 0x0, 0x3FF⟩, /- PWR_WAKE_STAT -/
  ⟨0x40010010, 1, 0x0, 1, 4, .ro, 0x0, 0x0, 0x0⟩, /- PWR_LAST_WAKE -/
  ⟨0x40010014, 1, 0x0, 1, 4, .ro, 0x0, 0x0, 0x0⟩, /- PWR_SLEEP_ABORT -/
  ⟨0x40010018, 1, 0x0, 1, 4, .w1c, 0x0, 0x0, 0xF⟩, /- PWR_RET_FAIL -/
  ⟨0x4001001C, 1, 0x0, 1, 4, .ro, 0x0, 0x0, 0x0⟩, /- PWR_PMB_CFG -/
  ⟨0x40010020, 1, 0x0, 1, 4, .ro, 0x0, 0x0, 0x0⟩, /- PWR_RTC_LO -/
  ⟨0x40010024, 1, 0x0, 1, 4, .ro, 0x0, 0x0, 0x0⟩, /- PWR_RTC_HI -/
  ⟨0x40010028, 1, 0x0, 1, 4, .rw, 0xFFFFFFFF, 0xFFFFFFFF, 0x0⟩, /- PWR_RTC_ALM_LO -/
  ⟨0x4001002C, 1, 0x0, 1, 4, .rw, 0xFFFF, 0xFFFF, 0x0⟩, /- PWR_RTC_ALM_HI -/
  ⟨0x40010030, 1, 0x0, 1, 4, .ro, 0x0, 0x0, 0x0⟩, /- PWR_TIMES -/
  ⟨0x40010100, 1, 0x0, 64, 4, .ro, 0x0, 0x0, 0x0⟩ /- PWR_SUMMIT -/]

/-- The registers of one block window (R441).-/
def regRowsHost : List RegRow := [
  ⟨0x40100000, 1, 0x0, 1, 4, .w1c, 0x0, 0x0, 0x3E⟩, /- HOST_SPI_STAT -/
  ⟨0x40100010, 1, 0x0, 1, 4, .rw, 0x280000, 0xFFFFFF, 0x0⟩, /- HOST_FLASH_ADDR -/
  ⟨0x40100014, 1, 0x0, 1, 4, .rw, 0x100, 0x1FF, 0x0⟩, /- HOST_FLASH_LEN -/
  ⟨0x40100018, 1, 0x0, 1, 4, .w1p, 0x0, 0x0, 0x0⟩, /- HOST_FLASH_CTRL -/
  ⟨0x4010001C, 1, 0x0, 1, 4, .ro, 0x0, 0x0, 0x20000000⟩, /- HOST_FLASH_STAT -/
  ⟨0x40100030, 1, 0x0, 1, 4, .rw, 0x0, 0x1, 0x0⟩, /- HOST_PMB_CTRL -/
  ⟨0x40100034, 1, 0x0, 1, 4, .ro, 0x0, 0x0, 0x0⟩, /- HOST_PMB_STAT -/
  ⟨0x40100040, 1, 0x0, 1, 4, .ro, 0x0, 0x0, 0x0⟩, /- HOST_JTAG_ID -/
  ⟨0x40100080, 1, 0x0, 16, 4, .rw, 0x0, 0xF7, 0x0⟩, /- HOST_GPIO_CFG -/
  ⟨0x401000C0, 1, 0x0, 1, 4, .ro, 0x0, 0x0, 0x0⟩, /- HOST_GPIO_IN -/
  ⟨0x401000C4, 1, 0x0, 1, 4, .rw, 0x0, 0xFFFF, 0x0⟩, /- HOST_GPIO_OUT -/
  ⟨0x40100100, 1, 0x0, 64, 4, .rw, 0x0, 0xFFFFFFFF, 0x0⟩ /- HOST_FLASH_BUF -/]

/-- The rows of the block window at `w` (address bits 31:16), under R30. -/
def regRowsOf (w : Nat) : List RegRow :=
  if w = 0x4000 then regRowsSys
  else if w = 0x4001 then regRowsPwr
  else if w = 0x4002 then regRowsOtp
  else if w = 0x4003 then regRowsBist
  else if w = 0x4004 then regRowsFio
  else if w = 0x4005 then regRowsSle
  else if w = 0x4006 then regRowsSout
  else if w = 0x4007 then regRowsLmp
  else if w = 0x4008 then regRowsAsp
  else if w = 0x4009 then regRowsAdc
  else if w = 0x400A then regRowsTmr
  else if w = 0x400B then regRowsMrc
  else if w = 0x400C then regRowsCrc
  else if w = 0x400D then regRowsRope
  else if w = 0x400E then regRowsBly
  else if w = 0x400F then regRowsOdx
  else if w = 0x4010 then regRowsHost
  else []

/-- The reset values the tables leave to the text: `LMP_RGBh` words (the identity matrix, R167), the HEAD byte 0xFF of an unused
aspect descriptor (R185) and the IDCODE (R439) less its version; every other register has the value of its row. -/
def resetText (a rst : Nat) : Nat :=
  if decide (0x40070800 ≤ a) && decide (a < 0x40070900) then
    (if a % 32 = 4 then 0x4000 else if a % 32 = 12 then 0x4000 else if a % 32 = 20 then 0x4000 else 0)
  else if decide (0x40081000 ≤ a) && decide (a < 0x40081800) then (if a % 8 = 0 then 0xFF else 0)
  else if a = 0x40100040 then 0x064325AD
  else rst

/-! The bit fields of the registers, named as in their field tables. -/
namespace F
def SYS_CLK_STATUS_REF_FAULT : Fld := ⟨11, 11⟩
def SYS_CLK_STATUS_PLL_FAULT : Fld := ⟨10, 8⟩
def SYS_CLK_STATUS_BLY_LOCK : Fld := ⟨6, 6⟩
def SYS_CLK_STATUS_RX_LOCK : Fld := ⟨5, 3⟩
def SYS_CLK_STATUS_PLL_LOCK : Fld := ⟨2, 0⟩
def SYS_XING_STATUS_ADC_OVF : Fld := ⟨12, 9⟩
def SYS_XING_STATUS_RX_OVF : Fld := ⟨8, 6⟩
def SYS_XING_STATUS_ASP_OVF : Fld := ⟨5, 5⟩
def SYS_XING_STATUS_BLY_TX_OVF : Fld := ⟨4, 4⟩
def SYS_XING_STATUS_BLY_RX_OVF : Fld := ⟨3, 3⟩
def SYS_XING_STATUS_OUT_OVF : Fld := ⟨2, 2⟩
def SYS_XING_STATUS_IN_OVF : Fld := ⟨1, 1⟩
def FIO_CTRL_ITYPE : Fld := ⟨7, 0⟩
def FIO_PAIR_CFG_MODE : Fld := ⟨31, 30⟩
def FIO_PAIR_CFG_SRC_B : Fld := ⟨29, 25⟩
def FIO_PAIR_CFG_SRC_A : Fld := ⟨24, 20⟩
def FIO_PAIR_CFG_FILTER : Fld := ⟨14, 0⟩
def FIO_TP_PERIOD_PERIOD : Fld := ⟨9, 0⟩
def FIO_TP_CFG_EN : Fld := ⟨31, 31⟩
def FIO_TP_CFG_RESP_MAX : Fld := ⟨30, 22⟩
def FIO_TP_CFG_PW_MAX : Fld := ⟨21, 12⟩
def FIO_TP_CFG_PW_MIN : Fld := ⟨11, 2⟩
def FIO_TP_STAT_WIDTH : Fld := ⟨25, 16⟩
def FIO_TP_STAT_RESP : Fld := ⟨9, 0⟩
def FIO_LEAK_CFG_EN : Fld := ⟨31, 31⟩
def FIO_LEAK_CFG_WARN_V : Fld := ⟨15, 8⟩
def FIO_LEAK_CFG_COUNT : Fld := ⟨3, 0⟩
def FIO_SUPPLY_STATUS_BO1 : Fld := ⟨10, 10⟩
def FIO_SUPPLY_STATUS_SAG1 : Fld := ⟨9, 9⟩
def FIO_SUPPLY_STATUS_WARN1 : Fld := ⟨8, 8⟩
def FIO_SUPPLY_STATUS_BO0 : Fld := ⟨2, 2⟩
def FIO_SUPPLY_STATUS_SAG0 : Fld := ⟨1, 1⟩
def FIO_SUPPLY_STATUS_WARN0 : Fld := ⟨0, 0⟩
def FIO_TP_SKIP_SKIP1 : Fld := ⟨31, 16⟩
def FIO_TP_SKIP_SKIP0 : Fld := ⟨15, 0⟩
def BLK_Q2 : Fld := ⟨15, 15⟩
def BLK_Q : Fld := ⟨14, 14⟩
def BLK_WAIT_RESET : Fld := ⟨11, 11⟩
def BLK_TIMING : Fld := ⟨10, 10⟩
def BLK_TPF : Fld := ⟨9, 9⟩
def BLK_DISC : Fld := ⟨8, 8⟩
def BLK_EDM_FAULT : Fld := ⟨7, 7⟩
def BLK_SYNC_FAULT : Fld := ⟨6, 6⟩
def BLK_RELEASE_WAIT : Fld := ⟨5, 5⟩
def BLK_WATCHDOG : Fld := ⟨4, 4⟩
def BLK_RESET_STUCK : Fld := ⟨3, 3⟩
def BLK_SAFE_SEEN : Fld := ⟨2, 2⟩
def SLE_STATUS_DEBUG_SPLIT : Fld := ⟨31, 31⟩
def SLE_STATUS_DEBUG_HALT : Fld := ⟨30, 30⟩
def SLE_STATUS_LANE1 : Fld := ⟨27, 26⟩
def SLE_STATUS_LANE0 : Fld := ⟨25, 24⟩
def SLE_STATUS_RECOVERING : Fld := ⟨23, 23⟩
def SLE_STATUS_IMG_BANK : Fld := ⟨22, 22⟩
def SLE_STATUS_CAIRN_BANK : Fld := ⟨21, 21⟩
def SLE_STATUS_MODE : Fld := ⟨20, 20⟩
def SLE_STATUS_MIS_LANE : Fld := ⟨19, 19⟩
def SLE_STATUS_SCAN : Fld := ⟨6, 0⟩
def SLE_CFG_RLIM : Fld := ⟨3, 0⟩
def SLE_MIS_SIG_SRC : Fld := ⟨31, 28⟩
def SLE_MIS_SIG_GROUP : Fld := ⟨27, 24⟩
def SLE_MIS_SIG_TABLE : Fld := ⟨23, 12⟩
def SLE_MIS_SIG_MAP : Fld := ⟨11, 11⟩
def SLE_MIS_SIG_FOLD : Fld := ⟨10, 0⟩
def SLE_ECC_CNT_IMAGE : Fld := ⟨31, 16⟩
def SLE_ECC_CNT_STATE : Fld := ⟨15, 0⟩
def SLE_IMG_CTRL_SWAP : Fld := ⟨1, 1⟩
def SLE_IMG_CTRL_LOAD : Fld := ⟨0, 0⟩
def SLE_IMG_STAT_REFUSED : Fld := ⟨4, 4⟩
def SLE_IMG_STAT_SWAP_PEND : Fld := ⟨3, 3⟩
def SLE_IMG_STAT_RESULT : Fld := ⟨1, 0⟩
def SLE_DBG_CTRL_ERR : Fld := ⟨17, 17⟩
def SLE_DBG_CTRL_HALTED : Fld := ⟨16, 16⟩
def SLE_DBG_CTRL_LANE : Fld := ⟨12, 12⟩
def SLE_DBG_CTRL_SEL : Fld := ⟨9, 8⟩
def SLE_DBG_CTRL_WR : Fld := ⟨4, 4⟩
def SLE_DBG_CTRL_RD : Fld := ⟨3, 3⟩
def SLE_DBG_CTRL_RESUME : Fld := ⟨2, 2⟩
def SLE_DBG_CTRL_STEP : Fld := ⟨1, 1⟩
def SLE_DBG_CTRL_HALT : Fld := ⟨0, 0⟩
def SOUT_STATUS_EXT_B : Fld := ⟨25, 25⟩
def SOUT_STATUS_EXT_A : Fld := ⟨24, 24⟩
def SOUT_STATUS_GSTOP : Fld := ⟨23, 16⟩
def SOUT_STATUS_EXT_DISC : Fld := ⟨9, 9⟩
def SOUT_STATUS_KILL : Fld := ⟨8, 8⟩
def SOUT_STATUS_BOVL1 : Fld := ⟨5, 5⟩
def SOUT_STATUS_BOVL0 : Fld := ⟨4, 4⟩
def SOUT_STATUS_BO1 : Fld := ⟨3, 3⟩
def SOUT_STATUS_BO0 : Fld := ⟨2, 2⟩
def SOUT_STATUS_SUSP1 : Fld := ⟨1, 1⟩
def SOUT_STATUS_SUSP0 : Fld := ⟨0, 0⟩
def SOUT_CFG_EXTD : Fld := ⟨15, 8⟩
def SOUT_CFG_IDIAG : Fld := ⟨0, 0⟩
def SOUT_CH_CFG_MODE : Fld := ⟨31, 29⟩
def SOUT_CH_CFG_ROLE : Fld := ⟨28, 27⟩
def SOUT_CH_CFG_GROUP : Fld := ⟨26, 24⟩
def SOUT_CH_CFG_IOPEN : Fld := ⟨15, 8⟩
def SOUT_CH_OW_EN : Fld := ⟨31, 31⟩
def SOUT_CH_OW_OW_MAX : Fld := ⟨19, 10⟩
def SOUT_CH_OW_OW_MIN : Fld := ⟨9, 0⟩
def SOUT_CH_STAT_FAULT : Fld := ⟨31, 28⟩
def SOUT_CH_STAT_UNREM : Fld := ⟨27, 27⟩
def SOUT_CH_STAT_SLOW : Fld := ⟨26, 26⟩
def SOUT_CH_STAT_WIDTH : Fld := ⟨25, 16⟩
def SOUT_CH_STAT_PARTNER : Fld := ⟨15, 11⟩
def SOUT_CH_STAT_OPEN : Fld := ⟨10, 10⟩
def SOUT_CH_STAT_RESP : Fld := ⟨9, 0⟩
def SOUT_CH_MEAS_VH : Fld := ⟨31, 24⟩
def SOUT_CH_MEAS_VL : Fld := ⟨23, 16⟩
def SOUT_CH_MEAS_I : Fld := ⟨15, 0⟩
def LMP_NTC_CFG_B : Fld := ⟨31, 24⟩
def LMP_NTC_CFG_R_PU : Fld := ⟨23, 16⟩
def LMP_NTC_CFG_R_NOM : Fld := ⟨15, 0⟩
def LMP_STATUS_NTC_FAULT : Fld := ⟨11, 11⟩
def LMP_STATUS_MTX_RUN : Fld := ⟨10, 10⟩
def LMP_STATUS_PWR_LIM : Fld := ⟨9, 9⟩
def LMP_STATUS_THERM_LIM : Fld := ⟨8, 8⟩
def LMP_STATUS_BLIM : Fld := ⟨7, 6⟩
def LMP_STATUS_OV : Fld := ⟨5, 4⟩
def LMP_STATUS_UV : Fld := ⟨3, 2⟩
def LMP_BANK_CFG_BITS : Fld := ⟨27, 24⟩
def LMP_BANK_CFG_PRESC : Fld := ⟨23, 16⟩
def LMP_BANK_CFG_SSC : Fld := ⟨9, 8⟩
def LMP_BANK_CFG_FSW : Fld := ⟨7, 0⟩
def LMP_DERATE_CFG_KNEE : Fld := ⟨31, 24⟩
def LMP_DERATE_CFG_SLOPE : Fld := ⟨23, 16⟩
def LMP_DERATE_CFG_NTC_EN : Fld := ⟨7, 4⟩
def LMP_STR_CFG_EN : Fld := ⟨31, 31⟩
def LMP_STR_CFG_OWNER : Fld := ⟨30, 30⟩
def LMP_STR_CFG_LVAL : Fld := ⟨23, 16⟩
def LMP_STR_CFG_FLOOR : Fld := ⟨8, 0⟩
def LMP_STR_RUN_DUTY : Fld := ⟨31, 16⟩
def LMP_STR_RUN_ISET : Fld := ⟨15, 7⟩
def LMP_STR_STAT_FAULT : Fld := ⟨31, 28⟩
def LMP_STR_STAT_HEADROOM : Fld := ⟨27, 27⟩
def LMP_STR_STAT_CLIP : Fld := ⟨26, 26⟩
def LMP_MTX_CFG_EN : Fld := ⟨31, 31⟩
def LMP_MTX_CFG_OWNER : Fld := ⟨30, 30⟩
def LMP_MTX_CFG_NLINES : Fld := ⟨27, 24⟩
def LMP_MTX_CFG_SLOT : Fld := ⟨23, 16⟩
def LMP_MTX_CFG_MFLOOR : Fld := ⟨15, 12⟩
def LMP_MTX_CFG_BLANK : Fld := ⟨11, 8⟩
def LMP_MTX_CFG_VTH : Fld := ⟨5, 0⟩
def LMP_SAIL_CFG_TYPE : Fld := ⟨31, 29⟩
def LMP_SAIL_CFG_PERIOD : Fld := ⟨15, 0⟩
def LMP_SAIL_LVL_DUTY : Fld := ⟨23, 16⟩
def LMP_SAIL_LVL_HIGH : Fld := ⟨15, 8⟩
def LMP_SAIL_LVL_LOW : Fld := ⟨7, 0⟩
def ASP_STATUS_PEND : Fld := ⟨15, 13⟩
def ASP_STATUS_UNCUT1 : Fld := ⟨3, 3⟩
def ASP_STATUS_UNCUT0 : Fld := ⟨2, 2⟩
def ASP_STATUS_CUT1 : Fld := ⟨1, 1⟩
def ASP_STATUS_CUT0 : Fld := ⟨0, 0⟩
def ASP_CFG_NDARK : Fld := ⟨31, 28⟩
def ASP_CFG_PROBEN : Fld := ⟨22, 16⟩
def ASP_CFG_PLO : Fld := ⟨15, 8⟩
def ASP_COMMIT_CTRL_SEND : Fld := ⟨1, 1⟩
def ASP_COMMIT_CTRL_GO : Fld := ⟨0, 0⟩
def ASP_COMMIT_CNT_LATE : Fld := ⟨31, 16⟩
def ASP_COMMIT_CNT_STALE : Fld := ⟨15, 8⟩
def ASP_COMMIT_CNT_FULL : Fld := ⟨7, 0⟩
def ASP_HEAD_CFG_EN : Fld := ⟨31, 31⟩
def ASP_HEAD_CFG_SR : Fld := ⟨30, 30⟩
def ASP_HEAD_CFG_MTX : Fld := ⟨29, 29⟩
def ASP_HEAD_CFG_FALLBACK : Fld := ⟨23, 16⟩
def ASP_HEAD_CFG_IDLE : Fld := ⟨15, 8⟩
def ASP_HEAD_STAT_SRC : Fld := ⟨31, 30⟩
def ASP_HEAD_STAT_STAGED : Fld := ⟨29, 29⟩
def ASP_HEAD_STAT_PFAIL : Fld := ⟨28, 28⟩
def ASP_HEAD_STAT_DEAD : Fld := ⟨27, 27⟩
def ASP_HEAD_STAT_CUT : Fld := ⟨26, 26⟩
def ASP_HEAD_STAT_SHOWN : Fld := ⟨15, 8⟩
def ASP_HEAD_STAT_SEL : Fld := ⟨7, 0⟩
def ASP_STR_PSTAT_RESULT : Fld := ⟨31, 28⟩
def ASP_STR_PSTAT_PROBE : Fld := ⟨27, 27⟩
def ASP_STR_PSTAT_DCNT : Fld := ⟨26, 24⟩
def ASP_STR_PSTAT_UNMEAS : Fld := ⟨20, 16⟩
def ASP_STR_PSTAT_DEBT : Fld := ⟨15, 0⟩
def SAFE_STATE_STOP : Fld := ⟨7, 7⟩
def SAFE_STATE_PAIR : Fld := ⟨6, 6⟩
def SAFE_STATE_UNLOCKED : Fld := ⟨5, 5⟩
def SAFE_STATE_DSTATE : Fld := ⟨2, 0⟩
def ROPE_STATUS_DUP_NODE : Fld := ⟨31, 31⟩
def ROPE_STATUS_TIME_LOCKED : Fld := ⟨30, 30⟩
def ROPE_STATUS_ROOT_ACTIVE : Fld := ⟨29, 29⟩
def ROPE_STATUS_STBY_OPEN : Fld := ⟨28, 28⟩
def ROPE_STATUS_STBY_HELD : Fld := ⟨27, 27⟩
def ROPE_STATUS_BROKEN : Fld := ⟨26, 24⟩
def ROPE_STATUS_ACT_ROOT : Fld := ⟨15, 0⟩
def ROPE_CFG_TOPO : Fld := ⟨31, 30⟩
def ROPE_CFG_P2EN : Fld := ⟨29, 29⟩
def ROPE_CFG_STBY : Fld := ⟨28, 28⟩
def ROPE_CFG_STBY_PORT : Fld := ⟨27, 27⟩
def ROPE_CFG_MERGES : Fld := ⟨25, 24⟩
def ROPE_CFG_HMAX : Fld := ⟨20, 16⟩
def ROPE_CFG_HLIM : Fld := ⟨12, 8⟩
def ROPE_CFG_AN : Fld := ⟨0, 0⟩
def ROPE_PORT_STAT_LINK : Fld := ⟨31, 31⟩
def ROPE_PORT_STAT_ALIVE : Fld := ⟨30, 30⟩
def ROPE_PORT_STAT_STBY : Fld := ⟨29, 29⟩
def ROPE_PORT_STAT_BROKEN : Fld := ⟨28, 28⟩
def ROPE_PORT_STAT_NEIGH : Fld := ⟨15, 0⟩
def ROPE_SUB_NODE : Fld := ⟨31, 16⟩
def ROPE_SUB_USED : Fld := ⟨15, 15⟩
def ROPE_SUB_EXPIRED : Fld := ⟨14, 14⟩
def ROPE_SUB_DIST : Fld := ⟨4, 0⟩
def BLY_STATUS_PSTATE : Fld := ⟨31, 28⟩
def BLY_STATUS_LEADER : Fld := ⟨27, 27⟩
def BLY_STATUS_POS : Fld := ⟨26, 26⟩
def BLY_STATUS_BYPASS_ON : Fld := ⟨25, 25⟩
def BLY_STATUS_BRIDGED : Fld := ⟨24, 24⟩
def BLY_STATUS_LINK : Fld := ⟨23, 23⟩
def BLY_STATUS_IMG_MIS : Fld := ⟨22, 22⟩
def BLY_STATUS_HOLD_EXP : Fld := ⟨21, 21⟩
def BLY_STATUS_BP_FAIL : Fld := ⟨20, 20⟩
def BLY_STATUS_BP_WELD : Fld := ⟨19, 19⟩
def BLY_STATUS_SLOT_DIFF : Fld := ⟨18, 18⟩
def BLY_STATUS_POS_CLASH : Fld := ⟨17, 17⟩
def BLY_STATUS_ADOPT_FAIL : Fld := ⟨16, 16⟩
def BLY_STATUS_PDSTATE : Fld := ⟨2, 0⟩
def BLY_CFG_EN : Fld := ⟨31, 31⟩
def BLY_CFG_SOLO : Fld := ⟨30, 30⟩
def BLY_CFG_LAMP_POS : Fld := ⟨29, 29⟩
def BLY_CFG_HOLD : Fld := ⟨24, 16⟩
def BLY_CFG_IDIFF : Fld := ⟨9, 0⟩
def BLY_BYPASS_CFG_TBP : Fld := ⟨23, 16⟩
def BLY_BYPASS_CFG_FB_P : Fld := ⟨15, 8⟩
def BLY_BYPASS_CFG_FB_Q : Fld := ⟨7, 0⟩
def BLY_CNT_LOSS : Fld := ⟨31, 24⟩
def BLY_CNT_MIS : Fld := ⟨23, 16⟩
def BLY_CNT_CMPSKIP : Fld := ⟨15, 8⟩
def BLY_CNT_RESTART : Fld := ⟨7, 0⟩
def BLY_LINK_ERR_CRC : Fld := ⟨31, 16⟩
def BLY_LINK_ERR_MISS : Fld := ⟨15, 0⟩
def BLY_RESYNC_DUR : Fld := ⟨31, 16⟩
def BLY_RESYNC_DONE : Fld := ⟨15, 0⟩
def ODX_STATUS_LAST : Fld := ⟨31, 16⟩
def ODX_STATUS_DONE : Fld := ⟨1, 1⟩
def ODX_STATUS_BUSY : Fld := ⟨0, 0⟩
def ADC_RESULT_OVR : Fld := ⟨31, 31⟩
def ADC_RESULT_MUX : Fld := ⟨30, 22⟩
def ADC_RESULT_IDX : Fld := ⟨21, 16⟩
def ADC_RESULT_DATA : Fld := ⟨15, 0⟩
def ADC_STATUS_UNUSABLE : Fld := ⟨11, 8⟩
def ADC_STATUS_SUPV : Fld := ⟨7, 4⟩
def ADC_STATUS_ILV23 : Fld := ⟨1, 1⟩
def ADC_STATUS_ILV01 : Fld := ⟨0, 0⟩
def ADC_CFG_EN : Fld := ⟨31, 31⟩
def ADC_CFG_SEQMODE : Fld := ⟨30, 29⟩
def ADC_CFG_LP : Fld := ⟨28, 28⟩
def ADC_CFG_ILV : Fld := ⟨27, 27⟩
def ADC_CFG_ALIGN : Fld := ⟨26, 26⟩
def ADC_CFG_GAIN : Fld := ⟨25, 24⟩
def ADC_CFG_SAMPLE : Fld := ⟨23, 16⟩
def ADC_CFG_THR : Fld := ⟨15, 10⟩
def ADC_CFG_LOOPLEN : Fld := ⟨9, 4⟩
def ADC_CFG_STEPLEN : Fld := ⟨3, 0⟩
def ADC_STAT_LEVEL : Fld := ⟨22, 16⟩
def ADC_STAT_CFG_ERR : Fld := ⟨12, 12⟩
def ADC_STAT_BUSY : Fld := ⟨11, 11⟩
def ADC_STAT_URG_DONE : Fld := ⟨10, 10⟩
def ADC_STAT_THR : Fld := ⟨9, 9⟩
def ADC_STAT_EMPTY_RD : Fld := ⟨8, 8⟩
def ADC_STAT_IDX : Fld := ⟨5, 0⟩
def ADC_LOOP_A_REPEAT : Fld := ⟨31, 24⟩
def ADC_LOOP_A_MUX : Fld := ⟨8, 0⟩
def ADC_LOOP_B_DELAY : Fld := ⟨15, 0⟩
def ADC_STEP_SAMPLE : Fld := ⟨23, 16⟩
def ADC_STEP_GAIN : Fld := ⟨10, 9⟩
def ADC_STEP_MUX : Fld := ⟨8, 0⟩
def TMR_TB_STAT_LOCKED : Fld := ⟨31, 31⟩
def TMR_TB_STAT_SLEWING : Fld := ⟨30, 30⟩
def TMR_TB_STAT_STEPS : Fld := ⟨15, 0⟩
def TMR_CFG_EN : Fld := ⟨31, 31⟩
def TMR_CFG_MODE : Fld := ⟨30, 30⟩
def TMR_CFG_ALIGN : Fld := ⟨29, 29⟩
def TMR_CFG_CAPSEL : Fld := ⟨28, 28⟩
def TMR_CFG_CAPEDGE : Fld := ⟨27, 26⟩
def TMR_CFG_CAPSRC : Fld := ⟨25, 21⟩
def TMR_STAT_PHASE_WRAP : Fld := ⟨9, 9⟩
def TMR_STAT_RUN : Fld := ⟨8, 8⟩
def TMR_STAT_CMP_OUT : Fld := ⟨7, 7⟩
def TMR_STAT_CFG_ERR : Fld := ⟨6, 6⟩
def TMR_STAT_RESYNC : Fld := ⟨5, 5⟩
def TMR_STAT_LATE_PERIOD : Fld := ⟨4, 4⟩
def TMR_STAT_OVR : Fld := ⟨3, 3⟩
def TMR_STAT_NEW : Fld := ⟨2, 2⟩
def TMR_STAT_CMP_EVT : Fld := ⟨1, 1⟩
def TMR_STAT_PERIOD_EVT : Fld := ⟨0, 0⟩
def MRC_CH_STAT_STATE : Fld := ⟨31, 29⟩
def MRC_CH_STAT_ARMED : Fld := ⟨28, 28⟩
def MRC_CH_STAT_ARM_DUP : Fld := ⟨27, 27⟩
def MRC_CH_STAT_CFG_ERR : Fld := ⟨26, 26⟩
def MRC_CH_STAT_STOPPED : Fld := ⟨25, 25⟩
def MRC_CH_STAT_FETCH_ERR : Fld := ⟨24, 24⟩
def MRC_CH_STAT_LAST : Fld := ⟨19, 16⟩
def MRC_CH_STAT_DESC : Fld := ⟨15, 0⟩
def CRC_CFG_EN : Fld := ⟨31, 31⟩
def CRC_CFG_REFIN : Fld := ⟨30, 30⟩
def CRC_CFG_REFOUT : Fld := ⟨29, 29⟩
def CRC_CFG_WIDTH : Fld := ⟨4, 0⟩
def BIST_STATUS_ESSENTIAL : Fld := ⟨15, 10⟩
def BIST_STATUS_POLICY : Fld := ⟨9, 9⟩
def BIST_STATUS_DEFER : Fld := ⟨8, 8⟩
def BIST_STATUS_RETRIES : Fld := ⟨5, 4⟩
def BIST_STATUS_RESULT : Fld := ⟨2, 0⟩
def BIST_UNUSABLE_RET : Fld := ⟨19, 16⟩
def BIST_UNUSABLE_SRAM : Fld := ⟨15, 9⟩
def BIST_UNUSABLE_MTX : Fld := ⟨5, 5⟩
def BIST_UNUSABLE_ADC : Fld := ⟨4, 1⟩
def BIST_UNUSABLE_LANE1 : Fld := ⟨0, 0⟩
def BIST_BG_CFG_EN : Fld := ⟨31, 31⟩
def BIST_BG_CFG_CYCLE : Fld := ⟨4, 0⟩
def BIST_LC_SCAN_USED : Fld := ⟨9, 9⟩
def BIST_LC_WIPED : Fld := ⟨8, 8⟩
def BIST_LC_STEPS : Fld := ⟨7, 3⟩
def BIST_LC_STATE : Fld := ⟨2, 0⟩
def OTP_PROG_ADDR_REGION : Fld := ⟨11, 8⟩
def OTP_PROG_ADDR_WORD : Fld := ⟨4, 0⟩
def OTP_PROG_CTRL_MSCAN : Fld := ⟨4, 4⟩
def OTP_PROG_CTRL_ODO_INC : Fld := ⟨3, 3⟩
def OTP_PROG_CTRL_RLOCK : Fld := ⟨2, 2⟩
def OTP_PROG_CTRL_WLOCK : Fld := ⟨1, 1⟩
def OTP_PROG_CTRL_GO : Fld := ⟨0, 0⟩
def OTP_PROG_STAT_RESULT : Fld := ⟨31, 28⟩
def OTP_PROG_STAT_REFUSED : Fld := ⟨27, 27⟩
def OTP_PROG_STAT_WEAK : Fld := ⟨15, 8⟩
def OTP_PROG_STAT_MARG : Fld := ⟨7, 0⟩
def PWR_STATUS_SUMMIT_RST : Fld := ⟨7, 7⟩
def PWR_STATUS_WAKE_FAIL : Fld := ⟨6, 6⟩
def PWR_STATUS_ABORT : Fld := ⟨5, 5⟩
def PWR_STATUS_REQ_REF : Fld := ⟨4, 4⟩
def PWR_STATUS_TRANS : Fld := ⟨3, 3⟩
def PWR_STATUS_STATE : Fld := ⟨1, 0⟩
def PWR_WAKE_CFG_ROPE_EN : Fld := ⟨17, 17⟩
def PWR_WAKE_CFG_RTC_EN : Fld := ⟨16, 16⟩
def PWR_WAKE_CFG_POL : Fld := ⟨15, 8⟩
def PWR_WAKE_CFG_EN : Fld := ⟨7, 0⟩
def PWR_PMB_CFG_VOUT : Fld := ⟨31, 16⟩
def PWR_PMB_CFG_PEC : Fld := ⟨8, 8⟩
def PWR_PMB_CFG_ADDR : Fld := ⟨6, 0⟩
def HOST_SPI_STAT_TMO : Fld := ⟨5, 5⟩
def HOST_SPI_STAT_ABORT : Fld := ⟨4, 4⟩
def HOST_SPI_STAT_FORMAT : Fld := ⟨3, 3⟩
def HOST_SPI_STAT_OVF : Fld := ⟨2, 2⟩
def HOST_SPI_STAT_ERR : Fld := ⟨1, 1⟩
def HOST_SPI_STAT_BUSY : Fld := ⟨0, 0⟩
def HOST_GPIO_CFG_SEL : Fld := ⟨7, 4⟩
def HOST_GPIO_CFG_FUNC : Fld := ⟨2, 0⟩
def FIO_VFIELD_V1 : Fld := ⟨31, 16⟩
def FIO_VFIELD_V0 : Fld := ⟨15, 0⟩
def SLE_HB_PASS_LANE1 : Fld := ⟨31, 16⟩
def SLE_HB_PASS_LANE0 : Fld := ⟨15, 0⟩
def SLE_DBG_BP_EN : Fld := ⟨31, 31⟩
def SLE_DBG_BP_INDEX : Fld := ⟨11, 0⟩
def SOUT_OP_PERIOD_PERIOD : Fld := ⟨9, 0⟩
def SOUT_OP_SKIP_SKIP1 : Fld := ⟨31, 16⟩
def SOUT_OP_SKIP_SKIP0 : Fld := ⟨15, 0⟩
def SOUT_BANK_I_B1 : Fld := ⟨31, 16⟩
def SOUT_BANK_I_B0 : Fld := ⟨15, 0⟩
def SOUT_STALE_CNT_CNT : Fld := ⟨15, 0⟩
def LMP_PLIMIT_P : Fld := ⟨7, 0⟩
def LMP_DERATE_STAT_FT : Fld := ⟨31, 16⟩
def LMP_DERATE_STAT_FP : Fld := ⟨15, 0⟩
def LMP_TEMP_NTC : Fld := ⟨15, 8⟩
def LMP_TEMP_DIE : Fld := ⟨7, 0⟩
def LMP_PLOSS_ALLOW : Fld := ⟨31, 16⟩
def LMP_PLOSS_LAMP : Fld := ⟨15, 0⟩
def LMP_BANK_I_B1 : Fld := ⟨31, 16⟩
def LMP_BANK_I_B0 : Fld := ⟨15, 0⟩
def LMP_FBANK_B1 : Fld := ⟨31, 16⟩
def LMP_FBANK_B0 : Fld := ⟨15, 0⟩
def LMP_STR_CAL_K : Fld := ⟨15, 0⟩
def LMP_STR_SAIL_ENGINE : Fld := ⟨12, 8⟩
def LMP_STR_SAIL_SPHASE : Fld := ⟨7, 0⟩
def LMP_STR_ACT_DUTY : Fld := ⟨31, 16⟩
def LMP_STR_ACT_I : Fld := ⟨15, 7⟩
def LMP_STR_MEAS_V : Fld := ⟨31, 24⟩
def LMP_STR_MEAS_I : Fld := ⟨8, 0⟩
def ASP_STR_PRV_VS_LO : Fld := ⟨7, 0⟩
def ROPE_NODE_NODE : Fld := ⟨15, 0⟩
def ROPE_TIMECFG_BACKUP : Fld := ⟨31, 16⟩
def ROPE_TIMECFG_ROOT : Fld := ⟨15, 0⟩
def ROPE_WIN_W : Fld := ⟨15, 0⟩
def ROPE_SAFE_CNT_CHK : Fld := ⟨31, 16⟩
def ROPE_SAFE_CNT_WD : Fld := ⟨15, 0⟩
def ROPE_DISCARD_CNT_STALE : Fld := ⟨31, 16⟩
def ROPE_DISCARD_CNT_FOREIGN : Fld := ⟨15, 0⟩
def ROPE_HEAL_CNT_OPEN : Fld := ⟨31, 16⟩
def ROPE_HEAL_CNT_BREAKS : Fld := ⟨15, 0⟩
def ROPE_PORT_DELAY_D : Fld := ⟨15, 0⟩
def ROPE_PORT_ASYM_A : Fld := ⟨15, 0⟩
def ROPE_PORT_ERR_FCS : Fld := ⟨31, 16⟩
def ROPE_PORT_ERR_DROP : Fld := ⟨15, 0⟩
def ADC_TRIG_SRC : Fld := ⟨20, 16⟩
def ADC_TRIG_DELAY : Fld := ⟨15, 0⟩
def ADC_CNT_TRIG_MISS : Fld := ⟨31, 16⟩
def ADC_CNT_SEQ_WAIT : Fld := ⟨15, 0⟩
def MRC_CH_CFG_PRIO : Fld := ⟨31, 31⟩
def MRC_CH_CFG_OUTMAX : Fld := ⟨4, 0⟩
def BIST_COND_VDD : Fld := ⟨31, 16⟩
def BIST_COND_ERR : Fld := ⟨15, 0⟩
def BIST_BG_STAT_CYCLES : Fld := ⟨31, 16⟩
def BIST_BG_STAT_FAILED : Fld := ⟨15, 8⟩
def BIST_BG_STAT_PROGRESS : Fld := ⟨7, 0⟩
def OTP_STATUS_BUSY : Fld := ⟨31, 31⟩
def OTP_STATUS_MSCAN : Fld := ⟨30, 30⟩
def OTP_STATUS_KEY_SENSED : Fld := ⟨29, 29⟩
def OTP_ALARM_CRIT_PARITY : Fld := ⟨17, 17⟩
def OTP_ALARM_MAP_BAD : Fld := ⟨16, 16⟩
def OTP_ALARM_REGIONS : Fld := ⟨15, 0⟩
def OTP_MARGIN_REGIONS : Fld := ⟨31, 16⟩
def OTP_MARGIN_WORDS : Fld := ⟨15, 0⟩
def OTP_LOCK_RLOCK : Fld := ⟨31, 16⟩
def OTP_LOCK_WLOCK : Fld := ⟨15, 0⟩
def OTP_ODO_EN : Fld := ⟨31, 31⟩
def OTP_ODO_LEN : Fld := ⟨25, 16⟩
def OTP_ODO_VALUE : Fld := ⟨9, 0⟩
def PWR_SLEEP_ABORT_CNT : Fld := ⟨31, 16⟩
def PWR_SLEEP_ABORT_BLOCK : Fld := ⟨7, 0⟩
def PWR_TIMES_WAKE : Fld := ⟨31, 16⟩
def PWR_TIMES_ENTRY : Fld := ⟨15, 0⟩
def HOST_FLASH_STAT_BUSY : Fld := ⟨31, 31⟩
def HOST_FLASH_STAT_QUAD : Fld := ⟨30, 30⟩
def HOST_FLASH_STAT_REFUSED : Fld := ⟨29, 29⟩
def HOST_FLASH_STAT_RESULT : Fld := ⟨3, 0⟩
def HOST_PMB_STAT_WORD : Fld := ⟨31, 16⟩
def HOST_PMB_STAT_NACK : Fld := ⟨15, 0⟩
def ADC_TRIM_LOADED : Fld := ⟨31, 31⟩
end F

/-- Does the row hold the address `a`? -/
def rowHas (r : RegRow) (a : Nat) : Bool :=
  decide (r.base ≤ a) &&
    (let d := a - r.base
     if r.n1 = 1 then decide (d / r.s2 < r.n2) && decide (d % r.s2 = 0)
     else decide (d / r.s1 < r.n1) && decide (d % r.s1 / r.s2 < r.n2) && decide (d % r.s1 % r.s2 = 0))

/-- The row of the register at address `a`; none where the offset is unassigned (R31). -/
def regRow (a : Nat) : Option RegRow := (regRowsOf (a / 65536)).find? (rowHas · a)

/-- The reset value of the register at `a` (R3): the table's value; where the table refers to the text (the RGB matrices,
HEAD of an aspect descriptor, the IDCODE) the value the text gives. -/
def resetWord (a : Nat) : Word :=
  match regRow a with
  | none => 0
  | some r => BitVec.ofNat 32 (resetText a r.rst)

end Sys2Proof.Machine
end

