-- ==== Sys2Proof/Machine/State.lean ====
section
/-!
DEFINITION. The state of the VXK-6432 as plain data, its faults and refusals, and State.reset.
Registers are kept in one table by address (R30, R31); the state the spec gives a block beside its registers stands in that
block's structure. Sparse tables (Tab) list only what differs from the default given beside them.
-/
namespace Sys2Proof.Machine

/-- The device states (R9), in the coding of `0x2001:01`. -/
inductive DevState where
  | powerUp | selfTest | safeStopped | run | recovering | degraded | faulted
  deriving DecidableEq, Repr

/-- The supply levels of a field bank (R58). -/
inductive Level where
  | ok | warn | sag | brownOut
  deriving DecidableEq, Repr

/-- An event on its way to the journal (R309): TB at detection, code and parameters under R306. -/
structure Event where
  tb : Nat
  /-- the instant of detection as TB counts now, for the merge delay -/
  since : Nat
  code : Nat
  p0 : Nat
  p1 : Nat
  p2 : Nat
  partner : Bool
  /-- raised by a replay (R308) -/
  replay : Bool
  deriving DecidableEq, Repr

/-- A journal entry (R308) but for its CHK, which is computed from the other bytes. -/
structure Entry where
  seq : Nat
  tb : Nat
  code : Nat
  dstate : Nat
  flags : Nat
  p0 : Nat
  p1 : Nat
  p2 : Nat
  deriving DecidableEq, Repr

/-- The event queue, the journal ring in SRAM and its flash mirror (R308 to R312). -/
structure Journal where
  /-- events taken up and not yet written, oldest first, at most 64 (R309) -/
  queue : List Event
  /-- events lost since the last 0xE002 entry (R309) -/
  lostSince : Nat
  /-- `0x8002:03` -/
  lost : Nat
  /-- the ring, oldest first, at most 4096 entries (R308) -/
  ring : List Entry
  nextSeq : Nat
  /-- TB of the last entry of this start (R309) -/
  lastTb : Option Nat
  /-- SEQ of the next entry to mirror (R311) -/
  mirrorNext : Nat
  /-- TB at which the entries not yet mirrored were written, oldest first (R311) -/
  pend : List Nat
  /-- a mirror program or read-back failed since the last reset (R311) -/
  mirrorStopped : Bool
  /-- `0x8000:05` -/
  mirrorLost : Nat
  /-- `0x8000:02` -/
  selector : Nat
  deriving DecidableEq, Repr

/-- One transition record of the summit log (R426). -/
structure SumRec where
  frm : Nat
  dst : Nat
  result : Nat
  arg : Nat
  dur : Nat
  rtc : Nat
  deriving DecidableEq, Repr

/-- The summit log in always-on flops (R426), but for its CHK, which every write keeps right. -/
structure Summit where
  boot : Nat
  /-- last fatal code (R307) -/
  fatal : Nat
  wake : Nat
  /-- index of the newest record -/
  newest : Nat
  tbEntry : Nat
  /-- records 0 to 7 -/
  recs : Tab SumRec
  rtcEntry : Nat
  deriving DecidableEq, Repr

def sumRec0 : SumRec := ⟨0, 0, 0, 0, 0, 0⟩
def summit0 : Summit := ⟨0, 0, 0, 0, 0, [], 0⟩

/-- One field input (R38 to R56). -/
structure InSt where
  /-- output of the filter (R40) -/
  filt : Bool
  /-- time stamp of the last filtered change, TB div 100 (R39) -/
  ts : Nat
  noPulse : Bool
  xshort : Bool
  slow : Bool
  /-- consecutive good pulses of the own source (R52) -/
  good : Nat
  /-- consecutive responses of at most RESP_MAX (R52) -/
  goodResp : Nat
  /-- lows in foreign windows: source and test period (R51) -/
  cross : List (Nat × Nat)
  undef : Bool
  warn : Bool
  /-- consecutive measurements that speak against the flag (R56) -/
  undefRun : Nat
  warnRun : Nat
  /-- last leakage voltage, 0.125 V; 255 none (R56) -/
  leakV : Nat
  /-- the 100 ms interval, TB div 10^7, in which the input was last measured (R55) -/
  leakIv : Option Nat
  deriving DecidableEq, Repr

def inSt0 : InSt := ⟨false, 0, false, false, false, 0, 0, [], false, false, 0, 0, 255, none⟩

/-- One test-pulse source (R45 to R50). -/
structure SrcSt where
  /-- TB of the start and of the end of the open window (R45) -/
  win : Option (Nat × Nat)
  /-- the off-pulse is running -/
  off : Bool
  /-- width of the running or last pulse, µs -/
  width : Nat
  /-- responses of this pulse are discarded (R60) -/
  discard : Bool
  /-- inputs of the source whose filtered value was ON at the pulse start (R47) -/
  onAt : List Nat
  /-- response history, newest first, at most 8 values (R47) -/
  hist : List Nat
  /-- width last journaled (R48) -/
  lastJ : Nat
  deriving DecidableEq, Repr

def srcSt0 : SrcSt := ⟨none, false, 400, false, [], [], 400⟩

/-- The field input block. -/
structure Fio where
  /-- raw values of the last sample that a command has reported, as a bitmap (R42) -/
  raw : Nat
  ins : Tab InSt
  srcs : Tab SrcSt
  lvl0 : Level
  lvl1 : Level
  /-- TB at which the bank last left SAG or BROWN-OUT (R59) -/
  exit0 : Nat
  exit1 : Nat
  /-- the input whose comparator was tested last in a background slice, and the TB of its step (R386) -/
  slice : Option (Nat × Nat)
  deriving DecidableEq, Repr

def fio0 : Fio := ⟨0, [], [], .ok, .ok, 0, 0, none⟩

/-- A journaled snapshot (R42, R112): bitmaps over the 128 inputs, time stamps in µs, the sagging banks, signal 0x0104, and for
each ROPE_IN block in block order its bit (1) and its expiry (2). -/
structure Snap where
  start : Nat
  filt : Nat
  raw : Nat
  tpf : Nat
  ts : Tab Nat
  sag : Nat
  ext : Bool
  rope : Tab Nat
  deriving DecidableEq, Repr

/-- What a scan has computed and holds until its release (R65, R110, R310). -/
structure ScanRes where
  scan : Nat
  blk : Tab BlkSt
  image : Nat
  /-- aspect requests: head and aspect -/
  aspects : List (Nat × Nat)
  /-- outgoing SAFE bits before STOP -/
  safe : Nat
  /-- a start reset has accepted a reset -/
  startReset : Bool
  /-- the conditions of R89 hold in this scan -/
  leave : Bool
  /-- held events (R310) -/
  events : List Event
  /-- counters of `0x2002` to advance, by subindex -/
  counts : List Nat
  deriving DecidableEq, Repr

/-- A recovery in progress (R114 to R116, R121). -/
structure Recov where
  /-- TB of the detection -/
  at_ : Nat
  /-- lane in which the mismatch was detected -/
  lane : Nat
  sig : Nat
  /-- 0 resetting and restoring, 1 re-running, 2 complete -/
  phase : Nat
  skipped : Nat
  /-- lane 1 takes over from lane 0 -/
  takeover : Bool
  /-- no scan was in progress at the detection, so none is re-run -/
  idle : Bool
  deriving DecidableEq, Repr

/-- The evaluation engine (R104 to R128). -/
structure Sle where
  /-- lane states, coded as in `SLE_STATUS` -/
  lane0 : Nat
  lane1 : Nat
  /-- content of the image banks; empty: no image -/
  bankA : List Byte
  bankB : List Byte
  /-- active bank; false A -/
  active : Bool
  /-- the active bank holds the image that runs -/
  hasImage : Bool
  /-- an undefined image bank: a wake from SLEEP has left it unpowered, and nothing has been loaded since (R124) -/
  undefA : Bool
  undefB : Bool
  /-- the most recent cairn, read by the next scan (R110) -/
  cairn : Tab BlkSt
  /-- the cairn before it, in the other bank until the next scan writes there (R110) -/
  older : Tab BlkSt
  /-- bank of that cairn -/
  cairnBank : Bool
  /-- scan number (R119) -/
  scan : Nat
  /-- TB of the last scan start -/
  lastStart : Option Nat
  /-- released SAFE bits (R65) -/
  safe : Nat
  /-- the input journal, oldest first, by scan number (R112) -/
  snaps : List (Nat × Snap)
  /-- snapshots that a stalled SLE has left in the FIO→SLE FIFO, oldest first, at most 4 (R19, R20) -/
  inQ : List Snap
  /-- results of the scan in progress -/
  res : Option ScanRes
  recov : Option Recov
  /-- recovered mismatches: lane, signature, TB (R120) -/
  misHist : List (Nat × Nat × Nat)
  /-- heartbeat bit positions, by 16 × unit + group (R107) -/
  hbPos : Tab Nat
  /-- a load is running (R124) -/
  loading : Bool
  /-- the bytes that load copies, and whether they could be read -/
  stream : List Byte
  streamOk : Bool
  /-- that load restores the booted slot's image, and the swap follows it (R287) -/
  restore : Bool
  swapPend : Bool
  /-- the debugger has halted the lane (R127) -/
  halted : Bool
  /-- Wide mode: resumed, and the first equal scan clears the split (R128) -/
  resumed : Bool
  /-- table index at which the next debug step of each lane executes, and the states so far -/
  dbgNext0 : Nat
  dbgNext1 : Nat
  dbgCur : Tab BlkSt
  /-- debug actions in the replay FIFO: tick and number (R127) -/
  replayAt : Nat
  replay : Nat
  /-- words of state memory and registers written by the debugger, by lane, kind and address -/
  dbgMem : Tab Word
  /-- how often halts and steps have changed those memories -/
  dbgVer : Nat
  /-- `0x2002:01` to `:06`, by subindex -/
  resets : Tab Nat
  /-- `0x2001:03` -/
  overruns : Nat
  /-- TB at which the background self-test slice of lane 1 began that runs now (R386) -/
  spareTest : Option Nat
  deriving DecidableEq, Repr

def sle0 : Sle :=
  ⟨0, 0, [], [], false, false, false, false, [], [], false, 0, none, 0, [], [], none, none, [], [], false, [], true, false, false, false, false,
   0, 0, [], 0, 0, [], 0, [], 0, none⟩

/-- One safe output channel (R133 to R149). -/
structure ChSt where
  /-- code latched under R144, 0 none -/
  fault : Nat
  /-- TB at which it was latched: of two faults of one FIO cycle the lower code stays (R147) -/
  faultAt : Nat
  unrem : Bool
  slow : Bool
  opn : Bool
  /-- partner of a CROSS, 31 none -/
  partner : Nat
  /-- codes journaled since the latch last cleared, one bit each (R147) -/
  seen : Nat
  /-- TB of the last change of the switch state -/
  changed : Nat
  /-- end of the readback mask (R139) -/
  mask : Option Nat
  /-- end of the last mask: the readback comparison runs from there on -/
  cmpFrom : Nat
  /-- start of the running off-pulse (R140) -/
  pulse : Option Nat
  /-- the running pulse tests the high side -/
  hi : Bool
  /-- width of the running pulse, µs -/
  pw : Nat
  /-- the response of the running pulse is discarded (R143, R149) -/
  discard : Bool
  /-- end of the hold and of the window after the last pulse (R139, R146) -/
  hold : Option Nat
  /-- a skipped switch, tested again in the next period (R143) -/
  redo : Option Bool
  /-- responses of the high side and of the low side, newest first, at most 8 (R142) -/
  histH : List Nat
  histL : List Nat
  /-- r of the last judged pulse, µs -/
  resp : Nat
  /-- width of the next pulse of the channel, µs; none: OW_MAX -/
  width : Option Nat
  /-- consecutive responses of at most OW_MAX / 2 -/
  goodResp : Nat
  /-- widths last journaled for the two switches; none: OW_MAX -/
  lastH : Option Nat
  lastL : Option Nat
  /-- the off pattern has held for 100 ms (R148) -/
  offHeld : Bool
  deriving DecidableEq, Repr

def chSt0 : ChSt :=
  ⟨0, 0, false, false, false, 31, 0, 0, none, 0, none, false, 0, false, none, none, [], [], 0, none, 0, none, none, false⟩

/-- The safe output block (R131 to R155). -/
structure Sout where
  /-- the last applied image (R135) -/
  img : Nat
  /-- it was released in a scan that drives the outputs (R89) -/
  drive : Bool
  /-- its scan number; none before the first image -/
  scan : Option Nat
  /-- applied state of the channels (R134) -/
  applied : Nat
  /-- on-commands held under R149 -/
  sagHold : Nat
  ch : Tab ChSt
  /-- groups held under R145 -/
  gstop : Nat
  /-- brown-out latches (R90) and bank overload latches (R144) -/
  bo0 : Bool
  bo1 : Bool
  bovl0 : Bool
  bovl1 : Bool
  /-- cut requests that have reached SOUT (R151) -/
  cut0 : Bool
  cut1 : Bool
  /-- the bypass request from BLY (R134) -/
  bypassReq : Bool
  /-- released images on their way (R19), oldest first, at most 4: scan number, image, and whether it drives the outputs (R89) -/
  fifo : List (Nat × Nat × Bool)
  /-- the channel whose readback comparator was tested last in a background slice, and the TB of its step (R386) -/
  slice : Option (Nat × Nat)
  deriving DecidableEq, Repr

def sout0 : Sout := ⟨0, false, none, 0, 0, [], 0, false, false, false, false, false, false, false, [], none⟩

/-- What asserts the kill line beside the device state (R12, R24, R128, R154, R155, R383, R392, R452, R455). -/
structure Kill where
  /-- level of `EXT_STOP_A_N` and `EXT_STOP_B_N`; true is high -/
  extA : Bool
  extB : Bool
  /-- TB of the last change of either pin -/
  extAt : Nat
  extDisc : Bool
  debugSplit : Bool
  /-- a JTAG scan was requested or used since reset (R392) -/
  scan : Bool
  /-- a supply is below its operating range (R452) -/
  supply : Bool
  /-- a PLL or the reference has failed (R24) -/
  clock : Bool
  /-- PLL_B is among the faulted clocks (R24, R179) -/
  pllB : Bool
  /-- start-up holds the line: an essential failure or TMODE (R381, R455) -/
  hold : Bool
  deriving DecidableEq, Repr

def kill0 : Kill := ⟨false, false, 0, false, false, false, false, false, false, false⟩


/-- One LED string: latched values of LMP (R164 to R166) and the proving of ASP (R196 to R204). -/
structure StrSt where
  /-- `LMP_STR_RUNn` and `LMP_STR_SAILn` as latched at the last boundary -/
  run : Nat
  sail : Nat
  /-- marked values: TB from which a boundary latches them, run and sail word (R165, R166) -/
  next : List (Nat × Nat × Nat)
  /-- staged and not yet marked, since this TB (R193) -/
  dirty : Option Nat
  /-- the run and sail word staged and not yet marked before the writes of that tick (R191) -/
  was : Option (Nat × Nat)
  /-- stopped by ASP (R204) -/
  stopped : Bool
  /-- consecutive periods below and within 90 % (R177) -/
  hrBad : Nat
  hrGood : Nat
  /-- on-edge of the present period (R162) -/
  edge : Option Nat
  /-- applied current and on-time in LPWM cycles of that period (R196, R207) -/
  winI : Nat
  winC : Nat
  /-- what that on-window is: 0 none, 1 window, 2 probe, 3 confirmation (R196, R199, R200) -/
  kind : Nat
  /-- end of the last on-window -/
  onEnd : Option Nat
  /-- periods since the last measured window or probe, up to 64 (R199) -/
  idle : Nat
  lastProbe : Option Nat
  /-- consecutive failed windows (R198) -/
  dcnt : Nat
  /-- the last window was unmeasured (R197) -/
  missed : Bool
  /-- start of the confirmation probe (R200) -/
  confirm : Option Nat
  /-- TB of the second check after LIT (R204) -/
  recheck : Option Nat
  /-- cycle offset that the last dark check belongs to (R202) -/
  darkAt : Option Nat
  /-- DARK or a latching stage fault, LIT or LIT_STUCK is latched (R208) -/
  darkFail : Bool
  litFail : Bool
  deriving DecidableEq, Repr

def strSt0 : StrSt :=
  ⟨0, 0x1F00, [], none, none, false, 0, 0, none, 0, 0, 0, none, 64, none, 0, false, none, none, none, false, false⟩

/-- The lamp drive beside its registers (R158 to R179). -/
structure Lmp where
  strs : Tab StrSt
  /-- `LMP_SAIL_CFGe` and `LMP_SAIL_LVLe` as each LED bank has latched them, by 16 × bank + e -/
  eng : Tab (Nat × Nat)
  /-- marked engine values: 16 × bank + e, TB from which a boundary latches them, both words -/
  engNext : List (Nat × Nat × Nat × Nat)
  /-- tick of the last write to an engine's words, and both words before it (R165) -/
  engWas : Tab (Nat × Nat × Nat)
  /-- latched column currents and dot duties, by register address (R175) -/
  mtx : Tab Word
  mtxNext : List (Nat × Tab Word)
  mtxDirty : Option Nat
  /-- the matrix values staged and not yet marked before the writes of that tick (R191) -/
  mtxWas : Option (Tab Word)
  /-- the factor latched at the frame start (R171, R175) -/
  mtxFac : Nat
  /-- blanked by a matrix proving failure (R204) -/
  mtxBlank : Bool
  /-- start of the running frame -/
  mtxFrame : Option Nat
  /-- line measured in this frame (R203) -/
  mtxLine : Nat
  /-- consecutive failed measurements by dot (R203) -/
  dotFail : Tab Nat
  /-- failed NTC inputs and their readings in range since (R172) -/
  ntc : Tab (Bool × Nat)
  /-- TB of the last change of a factor, and ft, fp, fbank0, fbank1 before it (R165) -/
  facAt : Nat
  facOld : Nat × Nat × Nat × Nat
  /-- governing factor last journaled (R174) -/
  facLog : Nat
  /-- VLED of the two LED banks as last measured, mV (R159, R171) -/
  vled0 : Nat
  vled1 : Nat
  /-- the stages of LED bank 0 and of LED bank 1 wait for the next bank boundary after a rollback (R414) -/
  wait0 : Bool
  wait1 : Bool
  deriving DecidableEq, Repr

def eng0 : Nat × Nat := (0x3E8, 0x80FF00)
def lmp0 : Lmp :=
  ⟨[], [], [], [], [], [], none, none, 0x8000, false, none, 0, [], [], 0, (0x8000, 0x8000, 0x8000, 0x8000), 0x8000, 0, 0, false, false⟩

/-- The aspect requests of one scan on their way to ASP (R19, R99): scan number, TB of the release, heads and aspects. -/
structure AspReq where
  scan : Nat
  at_ : Nat
  reqs : List (Nat × Nat)
  deriving DecidableEq, Repr

/-- A head: the operational selection in force on each LED bank and on the matrix (R188, R193), and when its selection was
staged. -/
structure HeadSt where
  op0 : Option Nat
  op1 : Option Nat
  opM : Option Nat
  selAt : Nat
  /-- the selection staged before the writes of that tick (R191) -/
  was : Option Nat
  deriving DecidableEq, Repr

def headSt0 : HeadSt := ⟨none, none, none, 0, none⟩

/-- An accepted commit that waits for its boundaries (R193). -/
structure Commit where
  num : Nat
  /-- earliest TB of a boundary at which it applies -/
  start : Nat
  heads : List (Nat × Nat)
  strs : List (Nat × Nat × Nat)
  mtx : Option (Tab Word)
  need0 : Bool
  need1 : Bool
  needM : Bool
  done0 : Bool
  done1 : Bool
  doneM : Bool
  deriving DecidableEq, Repr

/-- The aspect and proving block beside its registers (R182 to R207). -/
structure Asp where
  /-- SLE→ASP FIFO, oldest first (R19) -/
  fifo : List AspReq
  /-- SLE requests in force -/
  sle : List (Nat × Nat)
  /-- accepted requests not yet in force: TB from which they are, and the requests (R189) -/
  sleNext : Option (Nat × List (Nat × Nat))
  /-- scan number of the last accepted request (R317) -/
  sleScan : Option Nat
  heads : Tab HeadSt
  /-- pending commits in the order of their numbers, at most 4 (R192) -/
  commits : List Commit
  /-- number of the last accepted commit -/
  lastNum : Option Nat
  /-- the device has gone to the safe state and no scan has released an image since (R188) -/
  safeHold : Bool
  deriving DecidableEq, Repr

def asp0 : Asp := ⟨[], [], none, none, [], [], none, true⟩

/-- A frame on its way out of a port: for a TIME frame the TB in ns at which its residence began (R229). -/
structure TxItem where
  frame : RopeFrame
  stamp : Nat
  deriving DecidableEq, Repr

/-- A frame a port has begun to send; `bad`: its FCS is inverted (R219). -/
structure Sent where
  port : Nat
  frame : RopeFrame
  bad : Bool
  deriving DecidableEq, Repr

/-- A SAFE frame that waits for an egress (R217, R222); `own`: it is this node's own, and goes after those in transit. -/
structure SafeItem where
  frame : SafeFrame
  bad : Bool
  own : Bool
  deriving DecidableEq, Repr

/-- One Rope port beside its registers (R210 to R228). -/
structure PortSt where
  /-- TB until which the egress is busy with a frame and its gap -/
  busy : Nat
  /-- egress queues of the non-SAFE classes in arrival order, at most 8 frames per class (R217) -/
  queue : List TxItem
  /-- SAFE frames that wait for the egress, oldest first -/
  safeQ : List SafeItem
  /-- TB in ns at which the ROPE_RXn→switch FIFO is empty again (R19) -/
  rxEnd : Nat
  /-- TB of the last valid frame -/
  lastValid : Option Nat
  /-- TB since which a broken link hears valid frames again without a silence (R228) -/
  good : Option Nat
  /-- neighbour's scan code from its SAFE frames, 0 none (R227) -/
  nscan : Nat
  /-- TB in ns at which the last DREQ left -/
  dreqAt : Nat
  deriving DecidableEq, Repr

def portSt0 : PortSt := ⟨0, [], [], 0, none, none, 0, 0⟩

/-- A subscription, kept by publishing node (R223, R224). -/
structure SubSt where
  seq : Option Nat
  last : Nat
  bits : Nat
  scan : Nat
  hlim : Option Nat
  dist : Nat
  /-- not expired -/
  live : Bool
  /-- accepted frames with consecutive SEQ -/
  run : Nat
  deriving DecidableEq, Repr

def subSt0 : SubSt := ⟨none, 0, 0, 4, none, 0, false, 0⟩

/-- The Rope block beside its registers (R210 to R230, R343). -/
structure Rope where
  ports : Tab PortSt
  subs : Tab SubSt
  /-- SEQ of the next own SAFE frame -/
  seq : Nat
  ringSeq : Nat
  timeSeq : Nat
  /-- end of the reserved SAFE window (R218) -/
  winEnd : Nat
  /-- frames whose sending began at TB `outAt` -/
  outAt : Nat
  out : List Sent
  /-- STATE.UNLOCKED (R230) -/
  unlocked : Bool
  /-- TB since which the node is not locked -/
  lostLock : Nat
  /-- consecutive corrections within bound -/
  lockRun : Nat
  /-- STEPS of the last SYNC -/
  steps : Nat
  lastSync : Option Nat
  /-- TB at which the first port came up -/
  firstUp : Option Nat
  /-- phase correction still to slew, in 2.5 ns, and the TB of the last changed tick (R343) -/
  slew : Int
  slewAt : Nat
  /-- rate correction: whole changed ticks that are due, and what has gathered towards the next, in 10^-9 of 2.5 ns (R343) -/
  rateDue : Int
  rateAcc : Int
  /-- TB of the last arrival of a TIME SYNC frame (R350) -/
  syncAt : Option Nat
  /-- originated frames that wait in the management pair for the quota of R314, oldest first: their ports and the frame -/
  held : List (List Nat × RopeFrame)
  deriving DecidableEq, Repr

def rope0 : Rope := ⟨[], [], 0, 0, 0, 0, 0, [], false, 0, 0, 0, none, none, 0, 0, 0, 0, none, []⟩

/-- A Belay frame on the wire: SEQ, FLAGS bit 0 and content (R240). -/
structure BlySent where
  seq : Nat
  leader : Bool
  frame : BlyFrame
  deriving DecidableEq, Repr

/-- The Belay block beside its registers (R235 to R266). -/
structure Bly where
  /-- SEQ of the next own frame; SEQ expected from the partner, none before the first (R240) -/
  txSeq : Nat
  rxSeq : Option Nat
  /-- TB of the last valid frame (R257) -/
  lastValid : Nat
  /-- TB since which no training block has been seen (R256) -/
  quiet : Nat
  hello : Option Hello
  /-- released images: TBS, output image, SAFE bits; newest first, at most 8 (R253) -/
  images : List (Nat × Nat × Nat)
  /-- TBS of the partner's latest OUTIMG (R254) -/
  lastCmp : Option Nat
  /-- the partner's latest IMAGE -/
  peer : Option ImageMsg
  /-- output image of the partner's latest OUTIMG -/
  peerOut : Option Nat
  /-- OUTIMG frames of the partner whose own image is not released yet, newest first, at most 8 (R253) -/
  early : List OutImg
  /-- TBS for which the merge waits (R249, R250) -/
  waiting : Option Nat
  /-- the follower's latest SAFE_COPY (R237) -/
  copy : Option SafeFrame
  /-- leadership is decided at the next scan boundary (R236) -/
  decide : Bool
  /-- start of the arbitration (R258) -/
  arb : Option Nat
  /-- TB at which the hold timer expires (R260) -/
  holdEnd : Option Nat
  /-- last HEARTBEAT said the partner's bypass is energised -/
  peerBypass : Bool
  /-- PSTATE in that HEARTBEAT -/
  peerPstate : Nat
  /-- TB since which an input differs from the partner's, and since which it agrees (R252) -/
  diffAt : Tab Nat
  sameAt : Tab Nat
  /-- TB of the last own HEARTBEAT -/
  hbAt : Nat
  /-- start of the resynchronisation (R261) -/
  resyncAt : Option Nat
  /-- the cairn is frozen at the next boundary (step 3) -/
  freeze : Bool
  /-- TBS from which images are real-time ones: the survivor compares the newcomer's, the newcomer its own; and consecutive
  equal ones -/
  compareFrom : Option Nat
  equal : Nat
  /-- the newcomer has entered RUN in this replacement (step 7) -/
  ran : Bool
  /-- RELEASE sent or received (step 8) -/
  released : Bool
  /-- the newcomer has caught up (step 5) -/
  caughtUp : Bool
  /-- bytes of the stream received so far: the configuration slot, the operational record, the cairn, the ledger (R262) -/
  inSlot : List Byte
  inRecord : List Byte
  inCairn : List Byte
  inLedger : List Byte
  /-- the stream says that a start reset has accepted a reset (R263) -/
  mayRun : Bool
  /-- IMAGE frames since the stream started, oldest first -/
  backlog : List ImageMsg
  /-- retries of the newcomer and TB of the next one (R265) -/
  retries : Nat
  retryAt : Option Nat
  /-- TBS of a pair image swap (R254) -/
  swapAt : Option Nat
  /-- TB of a pair slot commit that waits for the follower's report (R294) -/
  swapWait : Option Nat
  /-- the survivor streams its slot for an adoption, or the newcomer receives one (R264) -/
  adopting : Bool
  /-- TB at which ADOPT_WAIT was entered (R264) -/
  waitFrom : Nat
  /-- HELLO, CONTROL and STREAM frames that wait for the transmitter, oldest first, and the STREAM_END that follows the stream
  (R242, R261) -/
  queue : List BlyFrame
  /-- what a stalled reader has left in the SLE→BLY FIFO and in the BLY→SLE FIFO, oldest first, at most 8 each (R19, R20) -/
  txQ : List BlyFrame
  rxQ : List ImageMsg
  tail : Option Control
  /-- TB until which the transmitter is busy -/
  busy : Nat
  /-- frames whose sending began at TB `outAt` -/
  outAt : Nat
  out : List BlySent
  deriving DecidableEq, Repr

def bly0 : Bly :=
  { txSeq := 0, rxSeq := none, lastValid := 0, quiet := 0, hello := none, images := [], lastCmp := none, peer := none, peerOut := none, early := [],
    waiting := none, copy := none, decide := false, arb := none, holdEnd := none, peerBypass := false, peerPstate := 0, diffAt := [],
    sameAt := [], hbAt := 0, resyncAt := none, freeze := false, compareFrom := none, equal := 0, ran := false, released := false,
    caughtUp := false, inSlot := [], inRecord := [], inCairn := [], inLedger := [], mayRun := false, backlog := [],
    retries := 0, retryAt := none, swapAt := none, swapWait := none, adopting := false, waitFrom := 0, queue := [], txQ := [], rxQ := [],
    tail := none, busy := 0, outAt := 0, out := [] }

/-- One timer beside its registers (R346 to R351): the count `cnt` is the one taken at the tick at TB `at_`. -/
structure TmrSt where
  cnt : Nat
  at_ : Nat
  /-- how that count came: 0 loaded or held, 1 returned from PERIOD, 2 forced to 0 (R346, R349) -/
  how : Nat
  /-- the aligned counter is loaded at the next tick (R347) -/
  load : Bool
  /-- EN was set at TB `at_` and no tick has come since -/
  start : Bool
  /-- TB at which PERIOD was set below the count: the next tick after it forces 0 (R349) -/
  late : Option Nat
  /-- TB of the last PERIOD and CMP write and the value before it (R349) -/
  perAt : Nat
  perOld : Nat
  cmpAt : Nat
  cmpOld : Nat
  /-- TB of the last capture (R350) -/
  capAt : Option Nat
  /-- TB of the last compare event (R440) -/
  evtAt : Option Nat
  deriving DecidableEq, Repr

def tmrSt0 : TmrSt := ⟨0, 0, 0, false, false, none, 0, 0xFFFFFFFF, 0, 0xFFFFFFFF, none, none⟩

/-- The result of a bus access (R31, R32): a bus error, and the value a read returned. -/
structure Bus where
  err : Bool
  data : Nat
  deriving DecidableEq, Repr

def bus0 : Bus := ⟨false, 0⟩

/-- A running OTP command (R401): kind 0 GO, 1 WLOCK, 2 RLOCK, 3 ODO_INC, 4 MSCAN; its region and word, and the bits to set. -/
structure OtpCmd where
  kind : Nat
  region : Nat
  word : Nat
  data : Nat
  deriving DecidableEq, Repr

/-- The fuses and their controller (R376, R393, R396 to R407): the cells, the wired row and what the start has sensed. -/
structure Otp where
  /-- the two cells of every bit, by physical row; 512 + i is spare row i -/
  cellA : Tab Word
  cellB : Tab Word
  /-- cells that read 1 at normal margin and 0 at strict margin -/
  weakA : Tab Word
  weakB : Tab Word
  /-- words whose value in use is kept until the next reset, by 32 × region + word (R404) -/
  held : Tab Word
  /-- words that are counted as marginal, by 32 × region + word; 544 to 547 the wired row (R404) -/
  known : List Nat
  /-- the wired row as the last reset has sensed it (R376): lock fields, two bits for each region (R400) -/
  wlock : Nat
  rlock : Nat
  /-- the LC field, two bits for each step, step 1 lowest (R389) -/
  lc : Nat
  /-- the two-bit fields of R376 -/
  native : Nat
  lane1 : Nat
  dbgPerm : Nat
  scanPerm : Nat
  bgTrim : Nat
  rcTrim : Nat
  /-- fields that failed parity at this start, in the order of R376, LC first -/
  parity : Nat
  cmd : Option OtpCmd
  /-- the seal key shadow (R393) -/
  key : List Byte
  /-- a life-cycle transition to this state is being programmed (R390) -/
  lcProg : Option Nat
  deriving DecidableEq, Repr

def otp0 : Otp := ⟨[], [], [], [], [], [], 0, 0, 0, 0, 0, 0, 0, 0, 0, 0, none, [], none⟩

/-- The QSPI flash (R433, R434): each area from its first byte, erased beyond; the journal mirror as entries, oldest first; host
data by flash address. -/
structure Flash where
  a : List Byte
  b : List Byte
  patch : List Byte
  mirror : List Entry
  host : Tab Byte
  deriving DecidableEq, Repr

def flash0 : Flash := ⟨[], [], [], [], []⟩

/-- Configuration slots and the commissioning handshake (R287 to R297). -/
structure Slots where
  /-- `0x1F00:01`: 0 A, 1 B, 255 none -/
  booted : Nat
  seqA : Nat
  seqB : Nat
  /-- `0x1F00:04`, `:05` -/
  stA : Nat
  stB : Nat
  /-- `0x1F00:06`, and the SEQ of that slot -/
  crc : Nat
  seq : Nat
  /-- `0x1F02:02`, `:03`, `:05`, `:07`, `:08` -/
  commit : Nat
  shown : Nat
  result : Nat
  rejected : Nat
  outside : Nat
  /-- start of the window of T_CONFIRM -/
  window : Option Nat
  /-- `0x1F02:04` T_CONFIRM, s -/
  tConfirm : Nat
  /-- the download buffer, as bytes from its start -/
  buf : List Byte
  /-- the slot that the commit writes: 0 A, 1 B (R294) -/
  target : Nat
  /-- the commit is of a trial image (R288), of an adopted slot (R264) -/
  trialImage : Bool
  adopt : Bool
  /-- the load that runs is of a trial image; CRC-32 of that image (R288) -/
  trialLoad : Bool
  trialCrc : Nat
  /-- presses count only after `COMMISSION_N` has been high (R295) -/
  needHigh : Bool
  deriving DecidableEq, Repr

def slots0 : Slots :=
  ⟨255, 0, 0, 1, 1, 0, 0, 0, 0, 0, 0, 0, none, 120, [], 0, false, false, false, 0, false⟩

/-- A record of the source table (R276). -/
structure TxnRec where
  src : Nat
  txn : Nat
  /-- TB of the last request -/
  seen : Nat
  /-- the response, once it exists -/
  resp : Option (List Byte)
  sent : Bool
  /-- a repeat is held -/
  held : Bool
  /-- TB at which the request was applied (R318) -/
  applied : Option Nat
  deriving DecidableEq, Repr

/-- An open set (R283): entries in the order of their addition. -/
structure OdSet where
  src : Nat
  /-- 0 atomic, 1 stop-apply -/
  mode : Nat
  opened : Nat
  items : List (Nat × Nat × List Byte)
  deriving DecidableEq, Repr

/-- An accepted write or set that waits for its boundary (R277, R285): the head of its response, and what it writes. -/
structure OdWait where
  src : Nat
  txn : Nat
  op : Nat
  index : Nat
  sub : Nat
  mode : Nat
  items : List (Nat × Nat × List Byte)
  /-- TB of the acceptance -/
  at_ : Nat
  /-- not answered (R278) -/
  silent : Bool
  /-- applied at this TB; a class L one waits for its latching boundary -/
  applied : Option Nat
  deriving DecidableEq, Repr

/-- A request on its way to the management pair (R280): source, TB, and whether it came by the mailbox or as a broadcast. -/
structure OdReq where
  src : Nat
  at_ : Nat
  mail : Bool
  cast : Bool
  msg : List Byte
  deriving DecidableEq, Repr

/-- The object service (R268 to R288, R314, R320). -/
structure Od where
  /-- requests that wait, in order of completion -/
  inbox : List OdReq
  table : List TxnRec
  sets : List OdSet
  waits : List OdWait
  /-- responses to waits that have been answered, until they have left on every path (R314) -/
  leaving : List (List Byte)
  /-- the entry whose segments are being received: source, index, subindex (R274) -/
  segment : Option (Nat × Nat × Nat)
  /-- `0x8002:01`, `:02`, `:04` -/
  tableFull : Nat
  quotaFull : Nat
  mgmtRecov : Nat
  /-- `0x2600:01` -/
  blkSel : Nat
  /-- a revert of the trial values is requested (R287) -/
  revert : Bool
  /-- values the management pair holds until they are loaded, by 256 × index + subindex (R130, R209) -/
  vals : Tab (List Byte)
  /-- a life-cycle request and its TB (R390) -/
  lcReq : Option (Nat × Nat)
  /-- recovered management-pair mismatches: signature and TB (R315) -/
  misHist : List (Nat × Nat)
  /-- the mismatch in recovery: signature and TB -/
  mgmt : Option (Nat × Nat)
  /-- a limit of `0x8003:01` bit 1 is exceeded; the value last journaled (R302) -/
  limits : Bool
  guarLog : Nat
  deriving DecidableEq, Repr

def od0 : Od := ⟨[], [], [], [], [], none, 0, 0, 0, 0, false, [], none, [], none, false, 0⟩

/-- A conversion that has started: the time it ends, in units of 2.5 ns, its request in the step-entry layout (R340), its table
index, and ALIGN. -/
structure Conv where
  end_ : Nat
  req : Word
  idx : Nat
  left : Bool
  deriving DecidableEq, Repr

/-- One converter core beside its registers (R321 to R339). -/
structure AdcSt where
  /-- the result FIFO, oldest first, at most 64 (R19) -/
  fifo : List Word
  /-- 0 waits for a trigger, 1 trigger delay, 2 entry conversions, 3 entry delay -/
  phase : Nat
  entry : Nat
  /-- the entry in progress or last completed, as `ADC_STATn.IDX` shows it (R340) -/
  idx : Nat
  /-- conversions of this entry delivered -/
  rep : Nat
  /-- TB of the last trigger (R336) -/
  trigAt : Option Nat
  /-- TB of the source event last taken as a trigger (R335) -/
  trigEvt : Option Nat
  /-- end of the running delay, 2.5 ns -/
  delayEnd : Nat
  /-- TB at which a delay last ended (R337) -/
  started : Option Nat
  /-- the running sequencer conversion; in phase 2 none: it waits for an urgent one (R337) -/
  conv : Option Conv
  urg : Option Conv
  /-- conversions still running after EN was cleared, in the order of their ends (R338) -/
  tail : List Conv
  deriving DecidableEq, Repr

def adcSt0 : AdcSt := ⟨[], 0, 0, 0, 0, none, none, 0, none, none, none, []⟩

/-- System SRAM and retention SRAM (R30, R415, R480): what has been written, by address. An unlisted byte reads 0, or a value of
an epoch of undefined content: of system SRAM, of retention bank 0, of retention banks 1 to 3. -/
structure Mem where
  cells : Tab Byte
  sram : Option Nat
  ret0 : Option Nat
  ret : Option Nat
  /-- number of the next epoch -/
  epoch : Nat
  deriving DecidableEq, Repr

/-- Before the first March test the content is undefined (R480). -/
def mem0 : Mem := ⟨[], some 0, some 0, some 0, 1⟩

/-- A Millrace descriptor (R356). -/
structure Desc where
  ctrl : Word
  src : Word
  dst : Word
  len : Word
  idx : Word
  nxt : Word
  r0 : Word
  r1 : Word
  deriving DecidableEq, Repr

/-- A Millrace channel beside its registers (R355 to R367). -/
structure MrcSt where
  /-- 0 IDLE, 1 LOAD, 2 RUN with its read-back and record, 5 QWAIT -/
  state : Nat
  /-- the descriptor in progress -/
  act : Option Desc
  /-- the descriptor to load: an address, or none for the shadow -/
  nxt : Option Nat
  armed : Bool
  /-- STOP, or the channel's MRC_EN bit cleared, waits for the boundary -/
  stop : Bool
  /-- queue settings were written while the channel was busy (R360) -/
  dirty : Bool
  /-- the record slot taken at the load: its address, and the size of the queue (R316, R364) -/
  slot : Nat × Nat
  deriving DecidableEq, Repr

def mrcSt0 : MrcSt := ⟨0, none, none, false, false, false, (0, 0)⟩

/-- A transfer of the PMBus master (R437): 1 MHz or 400 kHz, the address of the regulator, whether packet error checking is used, the
command code, and its data. -/
structure PmbCmd where
  fast : Bool
  addr : Nat
  pec : Bool
  cmd : Nat
  data : Nat
  deriving DecidableEq, Repr

/-- Power states, start-up and wake (R374 to R384, R410 to R426). -/
structure Pwr where
  /-- 0 RUN, 1 DOZE, 2 SLEEP, 3 HIBERNATE -/
  state : Nat
  /-- `RESET_N` has been low (R374) -/
  resetLow : Bool
  /-- 0 reset released; 1 BIST or wake tests run; 2 an invalid attempt waits; 3 they have ended, the slot step follows;
  4 the start is over; 5 stays in SELF-TEST without a slot step (R383, R388); 6 POWER-UP under TMODE (R455); 7 held in reset by the
  halt policy (R383) -/
  stage : Nat
  /-- this start is a wake from SLEEP (R423) -/
  wake : Bool
  /-- BIST retries used -/
  retries : Nat
  /-- TB of the last invalid attempt -/
  invalidAt : Nat
  /-- deferred stage tests of the LED banks and of the matrix (R380) -/
  defer0 : Bool
  defer1 : Bool
  deferM : Bool
  /-- RTC count, and the part of its next tick in 1/390625 (R424) -/
  rtc : Nat
  rtcAcc : Nat
  /-- an accepted request for SLEEP or HIBERNATE and its source (R411) -/
  req : Option (Nat × Nat)
  /-- a wake event was latched since its acceptance (R418, R420) -/
  woken : Bool
  /-- an entry to this state waits for the regulator; missing acknowledgements so far (R413) -/
  entering : Option Nat
  acks : Nat
  /-- duration of that entry before the first acknowledgement, µs -/
  entryUs : Nat
  /-- RTC count at the start of the transition -/
  rtcStart : Nat
  /-- running wake step 1 to 5; 0 none (R421); failed attempts, and RTC position of the start and of the last failure -/
  step : Nat
  tries : Nat
  wakeAt : Nat
  failAt : Option Nat
  /-- RTC position at which the running step started -/
  stepAt : Nat
  /-- the running wake is one from HIBERNATE (R425) -/
  hibWake : Bool
  /-- this start is a wake from HIBERNATE (R425) -/
  hibStart : Bool
  /-- CRC-32C of each retention bank at the entry (R415) -/
  bankCrc : List Nat
  /-- transfers of the last exchange with the regulator, oldest first (R437) -/
  pmb : List PmbCmd
  /-- registers saved in bank 0 (R416) -/
  saved : Tab Word
  /-- clock-gated blocks of R412, one bit each, numbered as `ungateBlock` says -/
  gated : Nat
  /-- `FAULT_N` is held low by the clamps (R417) -/
  faultClamp : Bool
  /-- a damaged vendor region keeps the device in SAFE-STOPPED (R405) -/
  vendorBad : Bool
  /-- TB at the release of reset of this start (R309, R424) -/
  tbStart : Nat
  deriving DecidableEq, Repr

def pwr0 : Pwr :=
  { state := 0, resetLow := false, stage := 0, wake := false, retries := 0, invalidAt := 0, defer0 := false, defer1 := false,
    deferM := false, rtc := 0, rtcAcc := 0, req := none, woken := false, entering := none, acks := 0, entryUs := 0, rtcStart := 0,
    step := 0, tries := 0,
    wakeAt := 0, failAt := none, stepAt := 0, hibWake := false, hibStart := false, bankCrc := [], pmb := [],
    saved := [], gated := 0, faultClamp := false, vendorBad := false,
    tbStart := 0 }

/-- A host flash command that runs (R436): 0 READ, 1 PROG, 2 ERASE, its address and length, and the bytes to program. -/
structure FlashCmd where
  kind : Nat
  addr : Nat
  len : Nat
  data : List Byte
  deriving DecidableEq, Repr

/-- Host ports (R429 to R440), scan (R392) and the background self-test (R385). -/
structure Ports where
  /-- posted SPI writes, oldest first, at most 4 (R432) -/
  posted : List (Nat × Word)
  flashCmd : Option FlashCmd
  /-- JTAG instruction in force and the value of its data register (R439) -/
  ir : Nat
  dr : Nat
  /-- the wipe engine runs (R392) -/
  wiping : Bool
  wiped : Bool
  scanUsed : Bool
  /-- strap `QSPI_QUAD` -/
  quad : Bool
  /-- levels of the GPIO inputs -/
  gpio : Nat
  /-- background slices that have run in this cycle, numbered as `sliceId` says, and TB of its start (R385) -/
  bgRan : List Nat
  bgStart : Nat
  /-- bytes of the last SPI data phase -/
  miso : List Byte
  deriving DecidableEq, Repr

def ports0 : Ports := ⟨[], none, 0x01, 0, false, false, false, false, 0, [], 0, []⟩
/-- Why a step can stop with a fault. No command raises one: every row of the table completes in every state. -/
inductive Fault where
  /-- raised by nobody; stands so that the type has a value -/
  | none
  deriving DecidableEq, Repr

/-- Why a step can refuse. -/
inductive Refusal where
  /-- raised by an arm of exec that has no meaning yet; safe -/
  | notModelled (mnemonic : String)
  deriving DecidableEq, Repr

/-- The whole machine. -/
structure State where
  /-- commands that wait, first in, first out -/
  pending : List Instr
  /-- the time base TB, 10 ns ticks since the release of reset (R342) -/
  tb : Nat
  dev : DevState
  /-- registers whose value differs from the reset value (R3), by address -/
  regs : Tab Word
  jrn : Journal
  fio : Fio
  sout : Sout
  kill : Kill
  sle : Sle
  summit : Summit
  /-- `0x1F00:07` TRIAL (R287) -/
  trial : Bool
  lmp : Lmp
  asp : Asp
  rope : Rope
  bly : Bly
  tmr : Tab TmrSt
  otp : Otp
  flash : Flash
  slots : Slots
  od : Od
  adc : Tab AdcSt
  /-- the supervision set holds its cores (R25, R339) -/
  supv : Bool
  mem : Mem
  mrc : Tab MrcSt
  pwr : Pwr
  ports : Ports
  /-- the response to the last bus access or port read -/
  bus : Bus
  deriving DecidableEq, Repr

def jrn0 : Journal := ⟨[], 0, 0, [], 0, none, 0, [], false, 0, 0⟩

/-- The machine right after reset (R3, R342, R374, R375): POWER-UP at TB 0, every register at its reset value, nothing sensed, the
commands' queue empty. The fuses are unprogrammed and the flash is erased (the spec gives a new part no other content). -/
def State.reset : State where
  pending := []
  tb := 0
  dev := .powerUp
  regs := []
  jrn := jrn0
  fio := fio0
  sout := sout0
  kill := kill0
  sle := sle0
  summit := summit0
  trial := false
  lmp := lmp0
  asp := asp0
  rope := rope0
  bly := bly0
  tmr := []
  otp := otp0
  flash := flash0
  slots := slots0
  od := od0
  adc := []
  supv := false
  mem := mem0
  mrc := []
  pwr := pwr0
  ports := ports0
  bus := bus0

end Sys2Proof.Machine
end

