-- ==== Sys2Proof/Machine/Ops.lean ====
section
/-!
DEFINITION. The named operations over registers, memories, events and device states that every command family uses.
-/
namespace Sys2Proof.Machine

/-- What a step answers. -/
abbrev Out := Host.Outcome State Fault Refusal

/-! ## Bit fields and small numbers -/

/-- The field `f` of a register value. -/
def getF (w : Word) (f : Fld) : Nat := w.toNat / 2 ^ f.lo % 2 ^ (f.hi - f.lo + 1)

/-- The register value with field `f` replaced by `v` (cut to the field's width). -/
def setF (w : Word) (f : Fld) (v : Nat) : Word :=
  BitVec.ofNat 32 (w.toNat / 2 ^ (f.hi + 1) * 2 ^ (f.hi + 1) + v % 2 ^ (f.hi - f.lo + 1) * 2 ^ f.lo + w.toNat % 2 ^ f.lo)

/-- Bit `i` of a number. -/
def bitN (n i : Nat) : Bool := n / 2 ^ i % 2 = 1

/-- The number with bit `i` set or cleared. -/
def setBitN (n i : Nat) (b : Bool) : Nat :=
  n / 2 ^ (i + 1) * 2 ^ (i + 1) + (if b then 2 ^ i else 0) + n % 2 ^ i

/-- The number whose bit `i` is `f i`, for `i < k`. -/
def packBits (f : Nat → Bool) : Nat → Nat
  | 0 => 0
  | k + 1 => packBits f k + (if f k then 2 ^ k else 0)

/-- 1 for true. -/
def b2n (b : Bool) : Nat := if b then 1 else 0

/-- A saturating counter of `w` bits, `k` more. -/
def satAdd (w n k : Nat) : Nat := if n + k < 2 ^ w then n + k else 2 ^ w - 1

/-- `x` held between `lo` and `hi`. -/
def clampN (x lo hi : Nat) : Nat := if x < lo then lo else if hi < x then hi else x

/-- Two's complement of an integer over `w` bits, as a number. -/
def toTwos (w : Nat) (x : Int) : Nat := (x % (2 ^ w : Nat)).toNat

/-- The integer a `w`-bit two's-complement number stands for. -/
def ofTwos (w n : Nat) : Int := if n % 2 ^ w < 2 ^ (w - 1) then (n % 2 ^ w : Nat) else (n % 2 ^ w : Nat) - (2 ^ w : Nat)

/-- `a` is newer than `b` by serial-number arithmetic over 32 bits (RFC 1982, R276, R291). -/
def serialNewer (a b : Nat) : Bool :=
  let d := (a + 2 ^ 32 - b % 2 ^ 32) % 2 ^ 32
  decide (0 < d) && decide (d < 2 ^ 31)

/-- Little-endian bytes of a number, `k` of them (R269). -/
def leBytes : Nat → Nat → List Byte
  | 0, _ => []
  | k + 1, n => BitVec.ofNat 8 n :: leBytes k (n / 256)

/-- The number little-endian bytes stand for. -/
def ofLe : List Byte → Nat
  | [] => 0
  | b :: t => b.toNat + 256 * ofLe t

/-! ## Registers -/

/-- The stored value of the register at `a`. -/
def regGet (s : State) (a : Nat) : Word := (tabFind s.regs a).getD (resetWord a)

/-- Store `w` at `a`; the reset value is unlisted. -/
def regSet (s : State) (a : Nat) (w : Word) : State :=
  { s with regs := tabPut (resetWord a) s.regs a w }

/-- A field of a stored register. -/
def fldGet (s : State) (a : Nat) (f : Fld) : Nat := getF (regGet s a) f

/-- Write a field of a stored register. -/
def fldSet (s : State) (a : Nat) (f : Fld) (v : Nat) : State := regSet s a (setF (regGet s a) f v)

/-- Count `k` up in a saturating field. -/
def fldBump (s : State) (a : Nat) (f : Fld) (k : Nat) : State :=
  fldSet s a f (satAdd (f.hi - f.lo + 1) (fldGet s a f) k)

/-! ## Events and device states -/

/-- Queue an event stamped `tb`; a full queue loses and counts it (R309). -/
def logAt (s : State) (tb code p0 p1 p2 : Nat) (partner : Bool) : State :=
  if s.jrn.queue.length < 64 then
    { s with jrn := { s.jrn with
        queue := s.jrn.queue ++ [⟨tb, min tb s.tb, code, p0 % 2 ^ 32, p1 % 2 ^ 32, p2 % 2 ^ 32, partner, false⟩] } }
  else
    { s with jrn := { s.jrn with lost := satAdd 16 s.jrn.lost 1, lostSince := s.jrn.lostSince + 1 } }

/-- Queue an event detected now. -/
def log (s : State) (code p0 p1 p2 : Nat) : State := logAt s s.tb code p0 p1 p2 false

/-- Code of an event for which R306 lists none: its class is that of R305. -/
def openCode (cls kind : Nat) : Nat := cls * 4096 + (Config.openCode kind).toNat

/-- The code of a device state (`0x2001:01`, R102). -/
def devCode : DevState → Nat
  | .powerUp => 0
  | .selfTest => 1
  | .safeStopped => 2
  | .run => 3
  | .recovering => 4
  | .degraded => 5
  | .faulted => 6

/-- Enter device state `d`, with the STATE entry (0x0001) that carries the cause under R482. FAULTED is left only by reset (R9). -/
def enterDev (s : State) (d : DevState) (cause : Nat) : State :=
  if s.dev = .faulted then s
  else if s.dev = d then s
  else log { s with
      dev := d
      asp := { s.asp with safeHold := s.asp.safeHold || d = .safeStopped || d = .faulted } } 0x0001 (devCode s.dev) (devCode d) cause

/-- A swap that waits for a recovery is cancelled and journaled when the recovery ends in FAULTED (R118). -/
def cancelSwap (s : State) : State :=
  if s.sle.recov.isSome && s.sle.swapPend then
    log (fldSet { s with sle := { s.sle with swapPend := false } } Reg.SLE_IMG_STAT F.SLE_IMG_STAT_SWAP_PEND 0)
      (openCode 6 5) 0 0 0
  else s

/-- An event enters FAULTED: journaled as FATAL with the causing code, which the hardware also writes into the summit log
(R307, R482). -/
def fatal (s : State) (code param : Nat) : State :=
  if s.dev = .faulted then s
  else enterDev (cancelSwap (log { s with summit := { s.summit with fatal := code } } 0xF001 code param 0)) .faulted code

/-- The engine scans in these states (R89). -/
def active (d : DevState) : Bool := d = .run || d = .recovering || d = .degraded

/-- The states in which the part has left its self-test. -/
def started (d : DevState) : Bool := !(d = .powerUp) && !(d = .selfTest)

/-- Field bank of an input (R35). -/
def bankOfInput (i : Nat) : Nat := i / 64
/-- Field bank of a test-pulse source (R35). -/
def bankOfSource (n : Nat) : Nat := n / 8
/-- Field bank of a safe output (R35). -/
def bankOfChannel (c : Nat) : Nat := c / 12

/-- Supply level of a field bank. -/
def levelOf (s : State) (b : Nat) : Level := if b = 0 then s.fio.lvl0 else s.fio.lvl1

/-- SAG or BROWN-OUT: inputs forced OFF, pulses skipped, diagnostics suspended (R58). -/
def sagging (s : State) (b : Nat) : Bool := levelOf s b = .sag || levelOf s b = .brownOut

/-- The core has no power, or is held in reset (R374, R383, R411). -/
def coreOffOrReset (s : State) : Bool := decide (2 ≤ s.pwr.state) || s.pwr.resetLow || s.pwr.stage = 7

/-- No block of the core runs, and there is no bus access and no object service; so it is too between the stop of the blocks and the
acknowledgement of the regulator (R413). -/
def coreDown (s : State) : Bool := coreOffOrReset s || s.pwr.entering.isSome

/-- What a block of the core does happens only while the core runs. -/
def live (s t : State) : State := if coreDown s then s else t

/-- Block `b` of R412 works, or is accessed: its clock runs. The blocks are 0 the management pair, 1 Millrace, 2–5 the CRC units,
6–9 the ADC cores, 10–25 the timers, 26 the QSPI controller, 27–58 the LMP stages, 59–61 the Rope ports. -/
def ungateBlock (s : State) (b : Nat) : State :=
  if bitN s.pwr.gated b then { s with pwr := { s.pwr with gated := setBitN s.pwr.gated b false } } else s

/-! ## Clocks -/

/-- PLL `k` (A, B, C) is locked: `SYS_CLK_STATUS.PLL_LOCK`. -/
def pllLocked (s : State) (k : Nat) : Bool := bitN (fldGet s Reg.SYS_CLK_STATUS F.SYS_CLK_STATUS_PLL_LOCK) k

/-! ## Heads and their lamps (R182) -/

def headEn (s : State) (h : Nat) : Bool := fldGet s (Reg.ASP_HEAD_CFG h) F.ASP_HEAD_CFG_EN = 1
def headMtx (s : State) (h : Nat) : Bool := fldGet s (Reg.ASP_HEAD_CFG h) F.ASP_HEAD_CFG_MTX = 1
def headHas (s : State) (h n : Nat) : Bool := bitN (regGet s (Reg.ASP_HEAD_MAP h)).toNat n
def strHostOwned (s : State) (n : Nat) : Bool := fldGet s (Reg.LMP_STR_CFG n) F.LMP_STR_CFG_OWNER = 1

/-- Head `h` is proved: it is enabled and owns the matrix or an ASP-owned string. -/
def headProves (s : State) (h : Nat) : Bool :=
  headEn s h && (headMtx s h || (List.range 32).any fun n => headHas s h n && !strHostOwned s n)

/-- Lamp proving is enabled (R25). -/
def provingOn (s : State) : Bool := (List.range 32).any (headProves s)

/-! ## Belay members -/

/-- The device is configured as a Belay member (R235). -/
def pairMember (s : State) : Bool := fldGet s Reg.BLY_CFG F.BLY_CFG_EN = 1

/-- `BLY_STATUS.PSTATE` (R255): 0 OFF, 1 SEARCH, 2 PAIRED, 3 ALONE, 4 RESYNC_SRC, 5 RESYNC_DST, 6 ADOPT_WAIT, 7 SPLIT. -/
def pstate (s : State) : Nat := fldGet s Reg.BLY_STATUS F.BLY_STATUS_PSTATE

def isLeader (s : State) : Bool := fldGet s Reg.BLY_STATUS F.BLY_STATUS_LEADER = 1

/-- The partner runs alone, as its HEARTBEAT or its device state says. -/
def partnerAlone (s : State) : Bool :=
  let d := fldGet s Reg.BLY_STATUS F.BLY_STATUS_PDSTATE
  fldGet s Reg.BLY_STATUS F.BLY_STATUS_LINK = 1 && (s.bly.peerPstate = 3 || s.bly.peerPstate = 4 || d = 3 || d = 4 || d = 5)

/-- The member is a newcomer whose replacement is not complete: RESYNC_DST, ADOPT_WAIT, or SEARCH beside a partner that runs alone
(R261, R264). -/
def newcomer (s : State) : Bool := pstate s = 5 || pstate s = 6 || (pstate s = 1 && partnerAlone s)

/-- This member drives the lamps: not a member, or the one LAMP_POS names, and not before a replacement is complete (R246,
R263). -/
def lampMember (s : State) : Bool :=
  !pairMember s || (fldGet s Reg.BLY_STATUS F.BLY_STATUS_POS = fldGet s Reg.BLY_CFG F.BLY_CFG_LAMP_POS && !newcomer s)

/-- The partner's bypass bridges this member's Belay channels (R248). -/
def bridged (s : State) : Bool := fldGet s Reg.BLY_STATUS F.BLY_STATUS_BRIDGED = 1

end Sys2Proof.Machine
end

