-- ==== Sys2Proof/Machine/Flags.lean ====
section
/-!
DEFINITION. The computed lines of the part: the kill line (R12), the applied state of the safe outputs (R134), `SAFE_STATE_N`
and `FAULT_N` (R304), and settle, which every command ends with: it brings the outputs to what the lines now say.
-/
namespace Sys2Proof.Machine

/-- EXTEST is in force: the cells of the field pins drive only the internal dummy paths, and every field switch is off (R439). -/
def onDummies (s : State) : Bool := s.ports.ir = 0x03

/-- The kill line (R12, R24, R128, R154, R155, R392, R417, R452, R455). -/
def killAsserted (s : State) : Bool :=
  s.dev = .powerUp || s.dev = .selfTest || s.dev = .faulted ||
    !s.kill.extA || !s.kill.extB || s.kill.extDisc || s.kill.debugSplit || s.kill.scan || s.kill.supply || s.kill.clock ||
    s.kill.hold || s.pwr.entering.isSome

/-- state_allows_outputs of R134. -/
def outputsAllowed (s : State) : Bool := active s.dev

def chGet (s : State) (c : Nat) : ChSt := tabGet chSt0 s.sout.ch c
def chSet (s : State) (c : Nat) (x : ChSt) : State :=
  { s with sout := { s.sout with ch := tabPut chSt0 s.sout.ch c x } }

def chMode (s : State) (c : Nat) : Nat := fldGet s (Reg.SOUT_CH_CFG c) F.SOUT_CH_CFG_MODE
def chRole (s : State) (c : Nat) : Nat := fldGet s (Reg.SOUT_CH_CFG c) F.SOUT_CH_CFG_ROLE
def chGroup (s : State) (c : Nat) : Nat := fldGet s (Reg.SOUT_CH_CFG c) F.SOUT_CH_CFG_GROUP
def owMax (s : State) (c : Nat) : Nat := fldGet s (Reg.SOUT_CH_OW c) F.SOUT_CH_OW_OW_MAX
def owMin (s : State) (c : Nat) : Nat := fldGet s (Reg.SOUT_CH_OW c) F.SOUT_CH_OW_OW_MIN

def boLatch (s : State) (b : Nat) : Bool := if b = 0 then s.sout.bo0 else s.sout.bo1
def setBoLatch (s : State) (b : Nat) (v : Bool) : State :=
  if b = 0 then { s with sout := { s.sout with bo0 := v } } else { s with sout := { s.sout with bo1 := v } }

/-- The own bypass channel (R153). -/
def bypassChannel (s : State) : Option Nat := (List.range 24).find? fun c => chRole s c = 3 && chMode s c ≠ 0

/-- The own bypass channel is on. -/
def bypassOn (s : State) : Bool :=
  match bypassChannel s with
  | some c => bitN s.sout.applied c
  | none => false

/-- The command of a channel: the image, or the bypass request for a bypass output, less a lamp-feed cut; lamp feeds
are off at the member without the lamps, and until the deferred lamp tests of the bank pass (R134, R151, R153, R246, R380). -/
def chCmd (s : State) (c : Nat) : Bool :=
  if chRole s c = 3 then s.sout.bypassReq
  else s.sout.drive && bitN s.sout.img c && !(chRole s c = 1 && s.sout.cut0) && !(chRole s c = 2 && s.sout.cut1) &&
    !((chRole s c = 1 || chRole s c = 2) && !lampMember s) && !(chRole s c = 1 && s.pwr.defer0) && !(chRole s c = 2 && s.pwr.defer1)

/-- Every term of R134 but the sag term; a disabled channel is always off (R133), and so is one marked unusable (R382). -/
def chEnabled (s : State) (c : Nat) : Bool :=
  chCmd s c && outputsAllowed s && !killAsserted s && !onDummies s && decide ((chGet s c).fault = 0) && !bitN s.sout.gstop (chGroup s c) &&
    !boLatch s (bankOfChannel c) && !(chMode s c = 0) && !bitN (regGet s Reg.BIST_OUT_UNUSABLE).toNat c

/-- The applied bit of channel `c` (R134). -/
def chApplied (s : State) (c : Nat) : Bool :=
  chEnabled s c && !(sagging s (bankOfChannel c) && !bitN s.sout.applied c)

/-- The applied state of all 24 channels. -/
def appliedOf (s : State) : Nat := packBits (chApplied s) 24

/-- On-commands held under R149: they stay shown until the bank leaves SAG. -/
def sagHoldOf (s : State) : Nat :=
  packBits (fun c => sagging s (bankOfChannel c) && (bitN s.sout.sagHold c || (chEnabled s c && !bitN s.sout.applied c))) 24

/-- A channel whose switch state changes at TB `tb`: the mask starts, a running pulse ends with its response discarded, the
histories empty and the 100 ms of the off pattern start anew (R139, R142, R143, R148). -/
def chChanged (tb ow : Nat) (x : ChSt) : ChSt :=
  { x with changed := tb, mask := some (tb + ow * 100), pulse := none, discard := false,
           hold := if x.pulse = none then x.hold else some (tb + ow * 100),
           histH := [], histL := [], width := none, lastH := none, lastL := none, offHeld := false }

/-- The channel table after the applied state goes from `old` to `new`. -/
def chTableAfter (s : State) (old new : Nat) : Nat → Tab ChSt
  | 0 => s.sout.ch
  | k + 1 =>
    let t := chTableAfter s old new k
    if bitN old k = bitN new k then t
    else tabPut chSt0 t k (chChanged s.tb (owMax s k) (tabGet chSt0 t k))

/-- The outputs follow the lines and the image (R134, R135, R149). -/
def settle (s : State) : State :=
  let new := appliedOf s
  { s with sout := { s.sout with
      applied := new, sagHold := sagHoldOf s, ch := chTableAfter s s.sout.applied new 24 } }

/-- A command completes: the outputs settle. -/
def done (s : State) : Out := .next (settle s)

/-- `SAFE_STATE_N` is driven low (R304). -/
def safeStateLow (s : State) : Bool := killAsserted s || !active s.dev

/-- `FAULT_N` is driven low: in FAULTED, in SAFE-STOPPED entered on a failed essential block or a damaged vendor region (R304), and
until the end of SELF-TEST (R375, R383, R455); in SLEEP and HIBERNATE the clamps hold its level at entry (R417). -/
def faultLow (s : State) : Bool :=
  if 2 ≤ s.pwr.state then s.pwr.faultClamp
  else s.dev = .powerUp || s.dev = .selfTest || s.dev = .faulted || (s.dev = .safeStopped && (s.kill.hold || s.pwr.vendorBad))

end Sys2Proof.Machine
end

