-- ==== Sys2Proof/Machine/Sout.lean ====
section
/-!
DEFINITION. The safe outputs: images, readback, off-pulse tests, channel faults, direct stops (R131 to R157).
-/
namespace Sys2Proof.Machine

/-! ## Readback levels and journaling -/

/-- The readback levels of channel `c` as last sampled (R137). -/
def setReadback (s : State) (c : Nat) (h l : Bool) : State :=
  let s1 := regSet s Reg.SOUT_RB_H (BitVec.ofNat 32 (setBitN (regGet s Reg.SOUT_RB_H).toNat c h))
  regSet s1 Reg.SOUT_RB_L (BitVec.ofNat 32 (setBitN (regGet s1 Reg.SOUT_RB_L).toNat c l))

/-- `RB_H`, `RB_L` in bits 1:0 (R306). -/
def readbackCode (s : State) (c : Nat) : Nat :=
  2 * b2n (bitN (regGet s Reg.SOUT_RB_H).toNat c) + b2n (bitN (regGet s Reg.SOUT_RB_L).toNat c)

def logChannel (s : State) (c code : Nat) : State := log s 0x7001 c code (readbackCode s c)

/-- Is `code` the one that channel `c` keeps? The first fault is, and of two in one FIO cycle, 10 ns, the lower code (R147). -/
def faultTaken (s : State) (c code : Nat) : Bool :=
  let x := chGet s c
  decide (x.fault = 0) || decide (x.faultAt = s.tb) && decide (code ≤ x.fault)

/-- Latch fault `code` on channel `c`; a code that is not kept is journaled only (R144, R147). -/
def latchFault (s : State) (c code : Nat) : State :=
  let x := chGet s c
  let k := faultTaken s c code
  let s1 := if bitN x.seen code then s else logChannel s c code
  chSet s1 c { x with
    fault := if k then code else x.fault, faultAt := if k then s.tb else x.faultAt,
    partner := if k && decide (code ≠ x.fault) then 31 else x.partner,
    seen := setBitN x.seen code true, offHeld := false }

/-- R145: unremovable energy on channel `c` holds its group. -/
def unremovable (s : State) (c : Nat) : State :=
  let x := chGet s c
  let s1 := if x.unrem then s else log s 0x7002 c (chGroup s c) 0
  let s2 := chSet s1 c { chGet s1 c with unrem := true }
  { s2 with sout := { s2.sout with gstop := setBitN s2.sout.gstop (chGroup s c) true } }

/-- SHORT_VF and HS_STUCK on a high-side-only channel are unremovable (R145). -/
def latchEnergy (s : State) (c code : Nat) : State :=
  let s1 := latchFault s c code
  if chMode s c = 2 && (code = 1 || code = 2) then unremovable s1 c else s1

/-- A Belay channel whose tests the partner's bypass suspends (R248). -/
def belaySuspended (s : State) (c : Nat) : Bool := bridged s && (chMode s c = 3 || chMode s c = 4)

/-- The step of a background slice on the readback comparator of `c` runs: its comparison is masked for 4 µs (R386). -/
def sliceMasks (s : State) (c : Nat) : Bool :=
  match s.sout.slice with
  | some (k, t) => k = c && decide (s.tb < t + 400)
  | none => false

/-- The readback comparison of the channel is masked (R139). -/
def masked (s : State) (c : Nat) : Bool :=
  match (chGet s c).mask with
  | none => false
  | some e => decide (s.tb < e)

/-! ## Images -/

/-- The scan number `n` is newer than `m` (R119: wrapping). -/
def scanNewer (n m : Nat) : Bool := serialNewer n m

/-- SOUT_IMAGE_APPLY (R135): the oldest released image arrives; one whose scan number is not newer is discarded. -/
def soutImageApply (s : State) : State :=
  match s.sout.fifo with
  | [] => s
  | (n, img, drive) :: rest =>
    let s1 := { s with sout := { s.sout with fifo := rest } }
    let fresh := match s.sout.scan with
      | none => true
      | some m => scanNewer n m
    if fresh then { s1 with sout := { s1.sout with img := img, drive := drive, scan := some n } }
    else log (fldBump s1 Reg.SOUT_STALE_CNT F.SOUT_STALE_CNT_CNT 1) 0x7004 n (s.sout.scan.getD 0) 0

/-! ## Off-pulse tests -/

/-- T_OP in ticks (R140). -/
def tOP (s : State) : Nat := fldGet s Reg.SOUT_OP_PERIOD F.SOUT_OP_PERIOD_PERIOD * 100000

/-- Phase of channel `c`: c × T_OP / 24, to the tick below (R140). -/
def opPhase (s : State) (c : Nat) : Nat := c * tOP s / 24

/-- Which switch the period tests: the high side in even periods of a two-pole channel, the low side in odd ones; the own
switch otherwise (R133, R140). -/
def opHigh (s : State) (c : Nat) : Bool :=
  if chMode s c = 1 then decide (s.tb / tOP s % 2 = 0) else !(chMode s c = 4)

def chHist (x : ChSt) (hi : Bool) : List Nat := if hi then x.histH else x.histL

/-- Width of the next pulse of a switch (R142). -/
def opWidth (s : State) (c : Nat) (hi : Bool) : Nat :=
  match chHist (chGet s c) hi with
  | [] => owMax s c
  | h :: t => clampN (2 * t.foldl max h) (owMin s c) (owMax s c)

/-- The switch that the next period after the one that holds TB `t` tests (R140). -/
def nextHigh (s : State) (c t : Nat) : Bool := if chMode s c = 1 then decide ((t / tOP s + 1) % 2 = 0) else !(chMode s c = 4)

/-- A skipped pulse: counted, and the same switch is tested in the next period with width OW_MAX (R142, R143, R149). -/
def opSkip (s : State) (c : Nat) (hi : Bool) : State :=
  let s1 := fldBump s Reg.SOUT_OP_SKIP (if bankOfChannel c = 0 then F.SOUT_OP_SKIP_SKIP0 else F.SOUT_OP_SKIP_SKIP1) 1
  let x := chGet s1 c
  chSet s1 c { x with
    redo := some hi, width := none,
    histH := if hi then [] else x.histH, histL := if hi then x.histL else [],
    lastH := if hi then none else x.lastH, lastL := if hi then x.lastL else none }

/-- OFF_PULSE_START (R140, R142, R143, R149). -/
def opStart (s : State) (c : Nat) : State :=
  let slot := decide (0 < tOP s) && decide (s.tb % tOP s = opPhase s c) && fldGet s (Reg.SOUT_CH_OW c) F.SOUT_CH_OW_EN = 1
  let x := chGet s c
  let hi := x.redo.getD (opHigh s c)
  if !slot || belaySuspended s c then s
  else if killAsserted s then (if chCmd s c && !(chMode s c = 0) then opSkip s c hi else s)
  else if !bitN s.sout.applied c then s
  else if masked s c || sagging s (bankOfChannel c) then opSkip s c hi
  else if x.pulse ≠ none then s
  else chSet s c { x with pulse := some s.tb, hi := hi, pw := opWidth s c hi, discard := false, hold := none, redo := none }

/-- An adaptive width is journaled when it differs by 25 % or more from the one last journaled (R48, R142, R319). -/
def widthChanged (last now : Nat) : Bool :=
  decide (last ≤ 4 * (if now < last then last - now else now - last)) && decide (last ≠ now)

/-- A judged response to the pulse that began at `t` enters the history of its switch; `SOUT_CH_STATn.WIDTH` shows the next pulse,
which may be the other switch's (R142, R156). -/
def opHistory (s : State) (c t r : Nat) : State :=
  let x := chGet s c
  let hist := (r :: chHist x x.hi).take 8
  let big := hist.foldl max 0
  let half := decide (owMax s c < 2 * r)
  let good := if half then 0 else min 8 (x.goodResp + 1)
  let x1 := { x with histH := if x.hi then hist else x.histH, histL := if x.hi then x.histL else hist,
                     resp := min 0x3FF big, goodResp := good, slow := if half then true else x.slow && decide (good < 8) }
  let s1 := chSet s c x1
  let w := opWidth s1 c x.hi
  let last := (if x.hi then x.lastH else x.lastL).getD (owMax s c)
  let s2 := if widthChanged last w then
      log (chSet s1 c { x1 with lastH := if x.hi then some w else x1.lastH, lastL := if x.hi then x1.lastL else some w })
        0xC001 2 c w
    else s1
  chSet s2 c { chGet s2 c with width := some (opWidth s2 c (nextHigh s c t)) }

/-- The pulse is over: the comparison is held until the on pattern shows again, at the latest T_MASK later (R139). -/
def opOver (s : State) (c : Nat) : State :=
  chSet s c { chGet s c with pulse := none, discard := false, hold := some (s.tb + owMax s c * 100) }

/-- OFF_PULSE_END (R142): the response came after `r` µs; the pulse ends after W, or after a late response. -/
def opEnd (s : State) (c r : Nat) (h l : Bool) : State :=
  let x := chGet s c
  match x.pulse with
  | none => s
  | some t =>
    if r ≤ owMax s c && decide (s.tb = t + max x.pw r * 100) then
      let s1 := setReadback s c h l
      opOver (if x.discard then s1 else opHistory s1 c t r) c
    else s

/-- The window of channel `c` is open: from the start of its pulse until OW_MAX after its end (R146). -/
def opWindowOpen (s : State) (c : Nat) : Bool :=
  (chGet s c).pulse ≠ none ||
    (match (chGet s c).hold with
     | none => false
     | some e => decide (s.tb ≤ e))

/-- The switch state of channel `c` has changed within its own T_MASK (R146): a mask that a sag or a bypass has started counts not. -/
def changedLately (s : State) (c : Nat) : Bool :=
  masked s c && decide (s.tb < (chGet s c).changed + owMax s c * 100)

/-- `d` observes pulses of `c` (R146). -/
def isObserver (s : State) (c d : Nat) : Bool :=
  decide (c ≠ d) && bankOfChannel c = bankOfChannel d && !changedLately s d && !opWindowOpen s d

/-- CROSS on channel `c`; where it is the code kept, PARTNER names `d` (R146, R147). -/
def latchCrossOne (s : State) (c d : Nat) : State :=
  let names := faultTaken s c 6 && decide ((chGet s c).fault ≠ 6)
  let s1 := latchFault s c 6
  if names then chSet s1 c { chGet s1 c with partner := d } else s1

/-- CROSS latches on both channels, each naming the other (R146). -/
def latchCross (s : State) (c d : Nat) : State := latchCrossOne (latchCrossOne s c d) d c

/-- OFF_PULSE_TIMEOUT (R142, R144, R146): no response by OW_MAX. With current diagnostics a rise on an observer makes it a
CROSS. -/
def opTimeout (s : State) (c : Nat) (observer : Option Nat) : State :=
  let x := chGet s c
  match x.pulse with
  | none => s
  | some t =>
    if s.tb ≠ t + owMax s c * 100 then s
    else
      let s1 := opOver s c
      if x.discard then s1
      else
        match (if fldGet s Reg.SOUT_CFG F.SOUT_CFG_IDIAG = 1 then
                 observer.filter (fun d => isObserver s c d) else none) with
        | some d => latchCross s1 c d
        | none => latchEnergy s1 c (if x.hi then 2 else 3)

/-- CROSS (R146): the readback of observer `d` changes inside the window of `c`. -/
def soutCross (s : State) (c d : Nat) (h l : Bool) : State :=
  if opWindowOpen s c && isObserver s c d && !sagging s (bankOfChannel c) then
    latchCross (setReadback s d h l) c d
  else s

/-! ## Comparisons and hardware comparators -/

/-- READBACK_MASK_END (R139): the comparison resumes with the readback as sampled. -/
def maskEnd (s : State) (c : Nat) (h l : Bool) : State :=
  match (chGet s c).mask with
  | none => s
  | some e => if e ≤ s.tb then chSet (setReadback s c h l) c { chGet s c with mask := none, cmpFrom := e } else s

/-- The switches of the channel that are on: its own one in the one-switch modes (R133). -/
def chOn (s : State) (c : Nat) : Bool := bitN s.sout.applied c

/-- The partner's switch of the load, its channel c XOR 1 (R244), conducts: its last OUTIMG commands it in a state that drives
outputs, or the own bypass bridges it (R247). DEDUCED (log entry 159): a member knows no more of the partner's switch. -/
def partnerConducts (s : State) (c : Nat) : Bool :=
  bypassOn s ||
    (match s.bly.peerOut with
     | some im => bitN im (c + 1 - 2 * (c % 2)) && decide (3 ≤ fldGet s Reg.BLY_STATUS F.BLY_STATUS_PDSTATE) &&
         decide (fldGet s Reg.BLY_STATUS F.BLY_STATUS_PDSTATE ≤ 5)
     | none => false)

/-- The readback pattern of R138 and R247: none where a node is not evaluated. The low half that is off expects what the
partner's switch of the load leaves on the node. -/
def pattern (s : State) (c : Nat) : Option Bool × Option Bool :=
  match chMode s c, chOn s c with
  | 1, true => (some true, some false)
  | 1, false => (some false, some false)
  | 2, b => (some b, none)
  | 3, b => (some b, none)
  | 4, true => (none, some false)
  | 4, false => (none, some (partnerConducts s c))
  | _, _ => (some false, some false)

def matchesPattern (p : Option Bool × Option Bool) (h l : Bool) : Bool :=
  (match p.1 with
   | none => true
   | some v => v = h) &&
  (match p.2 with
   | none => true
   | some v => v = l)

/-- Comparisons of the channel run: no mask, no pulse, no sag (R139, R149, R150). -/
def comparing (s : State) (c : Nat) : Bool :=
  !masked s c && !sliceMasks s c && (chGet s c).pulse = none && !sagging s (bankOfChannel c) && started s.dev && !belaySuspended s c

/-- A difference that appears in the 4 µs of a background slice is seen at their end (R387). -/
def sliceSees (s : State) (c since : Nat) : Nat :=
  match s.sout.slice with
  | some (k, t) => if k = c && decide (t ≤ since) && decide (since < t + 400) then t + 400 else since
  | none => since

/-- From when a difference that has stood without a break since TB `since` counts (R139): not before the end of the mask, nor before
the end of the hold after a pulse, which lasts T_MASK where the on pattern has not shown again since the pulse. -/
def countsFrom (s : State) (c since : Nat) : Nat :=
  let x := chGet s c
  let a := max (sliceSees s c since) (x.mask.getD x.cmpFrom)
  match x.hold with
  | some e => if since ≤ e - owMax s c * 100 then max a e else a
  | none => a

/-- The difference has counted as one for 100 µs (R139). -/
def lasted (s : State) (c since : Nat) : Bool := decide (countsFrom s c since + 10000 ≤ s.tb)

/-- A node that is to be OFF shows ON. -/
def nodeOn (p : Option Bool × Option Bool) (h l : Bool) : Bool := (p.1 = some false && h) || (p.2 = some false && l)

/-- SHORT_VF (R144): `RB_H` or `RB_L` ON with both switches off for 100 µs; `since`: TB of its onset. -/
def shortVf (s : State) (c since : Nat) (h l : Bool) : State :=
  if !chOn s c && comparing s c && nodeOn (pattern s c) h l && lasted s c since then latchEnergy (setReadback s c h l) c 1 else s

/-- ON_LOST (R144): the readback of a channel that is on has differed from its pattern for 100 µs; `since`: TB of the onset. -/
def onLost (s : State) (c since : Nat) (h l : Bool) : State :=
  if chOn s c && comparing s c && !matchesPattern (pattern s c) h l && lasted s c since then
    latchFault (setReadback s c h l) c 4
  else s

/-- OVERLOAD (R144): a hardware comparator of a switch that is on. -/
def overload (s : State) (c : Nat) : State := if chOn s c then latchFault s c 5 else s

/-- THERMAL (R144). -/
def soutThermal (s : State) (c : Nat) : State := latchFault s c 8

/-- BANK_OVL (R144): every channel of the bank is latched. -/
def bankOvl (s : State) (b : Nat) : State :=
  let s1 := (List.range 12).foldl (fun s j => latchFault s (b * 12 + j) 7) s
  if b = 0 then { s1 with sout := { s1.sout with bovl0 := true } } else { s1 with sout := { s1.sout with bovl1 := true } }

/-- The current of the channel is evaluated: not in a sag, nor while the partner's bypass suspends it (R149, R248), not by the low half
of a Belay load, and by the high half only while the other half conducts (R247). -/
def currentJudged (s : State) (c : Nat) : Bool :=
  !sagging s (bankOfChannel c) && !belaySuspended s c && !(chMode s c = 4) && !(chMode s c = 3 && !partnerConducts s c)

/-- OPEN_LOAD (R144): a warning, with current diagnostics on and IOPEN not 0. -/
def openLoad (s : State) (c : Nat) : State :=
  if chOn s c && fldGet s Reg.SOUT_CFG F.SOUT_CFG_IDIAG = 1 && currentJudged s c &&
      decide (0 < fldGet s (Reg.SOUT_CH_CFG c) F.SOUT_CH_CFG_IOPEN) && !(chGet s c).opn then
    logChannel (chSet s c { chGet s c with opn := true }) c 9
  else s

/-- One channel of CURRENT_MEASUREMENT (R137, R144): current in mA, node voltages as coded in `SOUT_CH_MEASn`. -/
def measureChannel (s : State) (c i vh vl : Nat) : State :=
  let a := Reg.SOUT_CH_MEAS c
  let s1 := fldSet (fldSet (fldSet s a F.SOUT_CH_MEAS_I i) a F.SOUT_CH_MEAS_VH vh) a F.SOUT_CH_MEAS_VL vl
  let x := chGet s1 c
  if x.opn && currentJudged s c && decide (fldGet s1 (Reg.SOUT_CH_CFG c) F.SOUT_CH_CFG_IOPEN ≤ i) then
    logChannel (chSet s1 c { x with opn := false }) c 0x89
  else s1

def measureFrom (s : State) : Nat → List (Nat × Nat × Nat) → State
  | _, [] => s
  | c, (i, vh, vl) :: t => if c < 24 then measureFrom (measureChannel s c i vh vl) (c + 1) t else s

/-- CURRENT_MEASUREMENT (R137): every 250 µs while IDIAG = 1. -/
def currentMeasurement (s : State) (b0 b1 : Nat) (ms : List (Nat × Nat × Nat)) : State :=
  if fldGet s Reg.SOUT_CFG F.SOUT_CFG_IDIAG = 1 && started s.dev then
    measureFrom (fldSet (fldSet s Reg.SOUT_BANK_I F.SOUT_BANK_I_B0 b0) Reg.SOUT_BANK_I F.SOUT_BANK_I_B1 b1) 0 ms
  else s

/-! ## Clearing -/

/-- The current of the off pattern is below 1 mA (R138, R247), as last measured with current diagnostics on; a low half measures
none. -/
def offCurrent (s : State) (c : Nat) : Bool :=
  fldGet s Reg.SOUT_CFG F.SOUT_CFG_IDIAG = 0 || chMode s c = 4 || fldGet s (Reg.SOUT_CH_MEAS c) F.SOUT_CH_MEAS_I = 0

/-- OFF_PATTERN_HELD (R148): both switches off and the off pattern shown for 100 ms without a break. -/
def offPatternHeld (s : State) (c : Nat) (h l : Bool) : State :=
  if !chOn s c && matchesPattern (pattern s c) h l && offCurrent s c &&
    decide ((chGet s c).changed + 10000000 ≤ s.tb) && !sagging s (bankOfChannel c)
  then chSet (setReadback s c h l) c { chGet s c with offHeld := true }
  else s

/-- The channel has been off with its off pattern for 100 ms. -/
def heldOff (s : State) (c : Nat) : Bool := (chGet s c).offHeld && !chOn s c

/-- BANK_OVL of field bank `b` is latched. -/
def bankLatched (s : State) (b : Nat) : Bool := if b = 0 then s.sout.bovl0 else s.sout.bovl1

/-- Every channel that group stop `g` holds off has held its off pattern; a disabled channel has no part in a group (R133, R145,
R148). -/
def groupHeld (s : State) (g : Nat) : Bool := (List.range 24).all fun c => chMode s c = 0 || chGroup s c ≠ g || heldOff s c

/-- The channel has held its off pattern, and so has its group where its energy was unremovable (R148). -/
def ownReady (s : State) (c : Nat) : Bool := heldOff s c && (!(chGet s c).unrem || groupHeld s (chGroup s c))

/-- What a bank fault holds off is ready to clear, as one (R148). -/
def bankReady (s : State) (b : Nat) : Bool := (List.range 12).all fun j => ownReady s (b * 12 + j)

/-- Every channel a fault of `c` bears on is ready: the partner of a CROSS, and the bank of a BANK_OVL (R148). -/
def clearReady (s : State) (c : Nat) : Bool :=
  let x := chGet s c
  ownReady s c && (if x.fault = 6 && decide (x.partner < 24) then ownReady s x.partner else true) &&
    (!bankLatched s (bankOfChannel c) || bankReady s (bankOfChannel c))

/-- The channel fault clears, journaled with bit 7, and so is the bank fault of a channel that kept another code; an UNREM bit clears
with it (R147, R148). -/
def clearChannel (s : State) (c : Nat) : State :=
  let x := chGet s c
  let s0 := logChannel s c (x.fault + 0x80)
  let s1 := if bankLatched s (bankOfChannel c) && x.fault ≠ 7 then logChannel s0 c 0x87 else s0
  let s2 := chSet s1 c { x with fault := 0, seen := 0, partner := 31, unrem := false }
  if x.unrem then log s2 0x7002 c (chGroup s c) 1 else s2

/-- A GSTOP bit clears when no channel of the group has UNREM set and all of them have held the off pattern (R148). -/
def gstopAfter (s : State) : Nat :=
  packBits (fun g => bitN s.sout.gstop g &&
    ((List.range 24).any (fun c => chGroup s c = g && (chGet s c).unrem) || !groupHeld s g)) 8

/-- CHANNEL_FAULT_CLEAR (R148), at the end of a scan that accepts a start reset: a bank fault clears with the faults of its channels.
DESIGN CHOICE (log entry 189): whether the 100 ms are over is judged at the release of the scan that accepts the reset. -/
def clearFaults (s : State) : State :=
  let ready := (List.range 24).filter fun c => decide ((chGet s c).fault ≠ 0) && clearReady s c
  let s1 := ready.foldl clearChannel s
  { s1 with sout := { s1.sout with
      gstop := gstopAfter s1, bovl0 := s1.sout.bovl0 && !bankReady s 0, bovl1 := s1.sout.bovl1 && !bankReady s 1 } }

/-! ## Sag -/

/-- One channel as its bank begins to sag: a running pulse completes, its response is discarded and it counts as skipped;
a channel whose last readback comparison failed goes off (R149). -/
def sagChannel (failing : Nat) (s : State) (c : Nat) : State :=
  let x := chGet s c
  let s1 := if x.pulse ≠ none && !x.discard then
      (let t := opSkip s c x.hi
       chSet t c { chGet t c with discard := true })
    else s
  if bitN failing c && bitN s1.sout.applied c then
    { s1 with sout := { s1.sout with
        applied := setBitN s1.sout.applied c false
        ch := tabPut chSt0 s1.sout.ch c (chChanged s1.tb (owMax s1 c) (chGet s1 c)) } }
  else s1

def soutSagEnter (s : State) (b failing : Nat) : State :=
  (List.range 12).foldl (fun s j => sagChannel failing s (b * 12 + j)) s

/-- When the bank leaves SAG, a mask starts for every channel and each next pulse has width OW_MAX (R149, R150). -/
def soutSagLeave (s : State) (b : Nat) : State :=
  (List.range 12).foldl (fun s j =>
    let c := b * 12 + j
    chSet s c { chGet s c with mask := some (s.tb + owMax s c * 100), histH := [], histL := [], width := none,
                               lastH := none, lastL := none }) s

/-! ## Lamp feeds and direct stops -/

/-- LAMP_FEED_CUT (R151): the cut request of ASP for LED bank `b` reaches SOUT. -/
def lampFeedCut (s : State) (b : Nat) : State :=
  if b = 0 then { s with sout := { s.sout with cut0 := fldGet s Reg.ASP_STATUS F.ASP_STATUS_CUT0 = 1 } }
  else { s with sout := { s.sout with cut1 := fldGet s Reg.ASP_STATUS F.ASP_STATUS_CUT1 = 1 } }

/-- Levels of the direct stop pins: bit 0 A, bit 1 B (R306). -/
def extLevels (s : State) : Nat := b2n s.kill.extA + 2 * b2n s.kill.extB

/-- EXT_STOP (R154): a direct stop pin falls. Without power, or in reset, only its level changes (R417). -/
def extStop (s : State) (pinB : Bool) : State :=
  if (if pinB then s.kill.extB else s.kill.extA) then
    let k := { s.kill with extA := s.kill.extA && pinB, extB := s.kill.extB && !pinB, extAt := s.tb }
    let s1 := { s with kill := k }
    if coreDown s then s1 else
    let s2 := log s1 0x7005 (extLevels s1) 0 0
    if active s.dev then enterDev s2 .safeStopped 0x7005 else s2
  else s

/-- EXT_STOP_RELEASE (R154, R155): the pins named rise; the return to both pins high is journaled. -/
def extStopRelease (s : State) (a b : Bool) : State :=
  let up := { s with kill := { s.kill with extA := s.kill.extA || a, extB := s.kill.extB || b, extAt := s.tb } }
  if extLevels up = extLevels s then s
  else if coreDown s || extLevels up ≠ 3 then up
  else log up 0x7005 3 0 0

/-- EXT_DISC (R155): the pins have differed for longer than EXTD. -/
def extDisc (s : State) : State :=
  if s.kill.extA ≠ s.kill.extB && !s.kill.extDisc &&
      decide (s.kill.extAt + fldGet s Reg.SOUT_CFG F.SOUT_CFG_EXTD * 100000 < s.tb) then
    log { s with kill := { s.kill with extDisc := true } } 0x7003 (extLevels s) 0 0
  else s

end Sys2Proof.Machine
end

