-- ==== Sys2Proof/Machine/Fio.lean ====
section
/-!
DEFINITION. The field input block: filter and time stamps, test pulses, leakage watch, supply levels (R35 to R63, R481).
-/
namespace Sys2Proof.Machine

def inGet (s : State) (i : Nat) : InSt := tabGet inSt0 s.fio.ins i
def inSet (s : State) (i : Nat) (x : InSt) : State :=
  { s with fio := { s.fio with ins := tabPut inSt0 s.fio.ins i x } }
def srcGet (s : State) (n : Nat) : SrcSt := tabGet srcSt0 s.fio.srcs n
def srcSet (s : State) (n : Nat) (x : SrcSt) : State :=
  { s with fio := { s.fio with srcs := tabPut srcSt0 s.fio.srcs n x } }

/-- The filtered value with the test-pulse latches forcing OFF (R51). DESIGN CHOICE (log entry 148): forcing leaves the time stamp of the
last filtered change, from which a discrepancy is then timed (R71). -/
def inputOn (s : State) (i : Nat) : Bool :=
  let x := inGet s i
  x.filt && !x.noPulse && !x.xshort

/-- The value the snapshot delivers: forced OFF while the field bank sags (R42, R58) and in an unusable input bank (R382). -/
def snapOn (s : State) (i : Nat) : Bool :=
  inputOn s i && !sagging s (bankOfInput i) && !bitN (regGet s Reg.BIST_IN_UNUSABLE).toNat (i / 16)

/-- The source assigned to an input (`FIO_PAIR_CFG`.SRC_A or SRC_B); none for the code 0x1F (R43). -/
def srcOf (s : State) (i : Nat) : Option Nat :=
  let c := fldGet s (Reg.FIO_PAIR_CFG (i / 2)) (if i % 2 = 0 then F.FIO_PAIR_CFG_SRC_A else F.FIO_PAIR_CFG_SRC_B)
  if c < 16 then some c else none

def srcEn (s : State) (n : Nat) : Bool := fldGet s (Reg.FIO_TP_CFG n) F.FIO_TP_CFG_EN = 1

/-- FILTER of the input's pair, µs (R40). -/
def filterOf (s : State) (i : Nat) : Nat := fldGet s (Reg.FIO_PAIR_CFG (i / 2)) F.FIO_PAIR_CFG_FILTER

/-- T_TP in ticks (R45). -/
def tTP (s : State) : Nat := fldGet s Reg.FIO_TP_PERIOD F.FIO_TP_PERIOD_PERIOD * 100000

/-- Phase of source `n` within the test period, in ticks: n × T_TP / 16 (R45). -/
def tpPhase (s : State) (n : Nat) : Nat := n * (fldGet s Reg.FIO_TP_PERIOD F.FIO_TP_PERIOD_PERIOD * 6250)

/-- Length of the window of source `n` in ticks: PW_MAX + RESP_MAX (R45). -/
def tpWinLen (s : State) (n : Nat) : Nat :=
  (fldGet s (Reg.FIO_TP_CFG n) F.FIO_TP_CFG_PW_MAX + fldGet s (Reg.FIO_TP_CFG n) F.FIO_TP_CFG_RESP_MAX) * 100

/-- A pulse of source `n` is due now and not skipped: its window opens (R45, R60, R481). -/
def tpDue (s : State) (n : Nat) : Bool :=
  started s.dev && !s.kill.supply && srcEn s n && decide (s.tb % tTP s = tpPhase s n % tTP s) && !sagging s (bankOfSource n)

/-- The end of the own window in which a low of input `i` that begins at `t` falls, if any (R49): the open one, or the one that
opens now (R54). A skipped pulse opens none. -/
def ownWindowEnd (s : State) (i t : Nat) : Option Nat :=
  match srcOf s i with
  | none => none
  | some n => match (srcGet s n).win with
    | some (t0, e) => if t0 ≤ t then some e else none
    | none => if t = s.tb && tpDue s n then some (t + tpWinLen s n) else none

/-- The earliest TB at which a raw level seen first at `t` reaches the filtered value (R40; for a low in the own window R49). -/
def filterDue (s : State) (i : Nat) (on : Bool) (t : Nat) : Nat :=
  let due := t + filterOf s i * 100
  if on then due
  else match ownWindowEnd s i t with
    | none => due
    | some e => if due < e then e else due

/-- TB at which the input's bank last left SAG or BROWN-OUT: raw samples before it no longer count (R59). -/
def rebuildFrom (s : State) (i : Nat) : Nat := if bankOfInput i = 0 then s.fio.exit0 else s.fio.exit1

/-- Input `i` read `on` in the last sample. -/
def setRaw (s : State) (i : Nat) (on : Bool) : State := { s with fio := { s.fio with raw := setBitN s.fio.raw i on } }

/-- The filtered value and its time stamp change (R39, R40). -/
def setFilt (s : State) (i : Nat) (on : Bool) (t : Nat) : State :=
  inSet (setRaw s i on) i { inGet s i with filt := on, ts := t / 100 }

/-- The sample at `t` lies in the step of a background slice on the comparator of input `i`: the previous sample replaces it (R386), and
a change is taken from the first sample after the step (R387). -/
def sampleReplaced (s : State) (i t : Nat) : Bool :=
  match s.fio.slice with
  | some (k, t0) => k = i && decide (t0 ≤ t) && decide (t < t0 + 400)
  | none => false

/-- Is the change of input `i` to `on`, first sampled at `t`, due now? The sample instants are whole microseconds (R38). -/
def filterReady (s : State) (i : Nat) (on : Bool) (t : Nat) : Bool :=
  decide ((inGet s i).filt ≠ on) && !sampleReplaced s i t && decide (t % 100 = 0) &&
    decide (rebuildFrom s i ≤ t) && decide (filterDue s i on t ≤ s.tb)

/-! ## Test pulses -/

/-- The width of the next pulse and r (R47): PW_MAX while the history is empty. -/
def tpNextWidth (s : State) (n : Nat) : Nat :=
  let hi := fldGet s (Reg.FIO_TP_CFG n) F.FIO_TP_CFG_PW_MAX
  let lo := fldGet s (Reg.FIO_TP_CFG n) F.FIO_TP_CFG_PW_MIN
  match (srcGet s n).hist with
  | [] => hi
  | h :: t => clampN (2 * t.foldl max h) (max 20 lo) hi

/-- r of `FIO_TP_STATn` (R47), saturating at 0x3FF. -/
def tpResp (s : State) (n : Nat) : Nat := min 0x3FF ((srcGet s n).hist.foldl max 0)

/-- The width of a source is journaled when it differs by 25 % or more from the last one journaled (R48). -/
def tpJournal (s : State) (n : Nat) : State :=
  let w := tpNextWidth s n
  if widthChanged (srcGet s n).lastJ w then log (srcSet s n { srcGet s n with lastJ := w }) 0xC001 1 n w else s

/-- Empty the history of a source: its next pulse has PW_MAX (R47, R48). -/
def tpReset (s : State) (n : Nat) : State := tpJournal (srcSet s n { srcGet s n with hist := [] }) n

/-- At the end of a start the first width of each source is the one that later widths are held against (R48). -/
def srcFirst (s : State) : State :=
  (List.range 16).foldl (fun t n => srcSet t n { srcGet t n with lastJ := tpNextWidth t n }) s

/-- Settings of a source after the settings in `s0`: enabling it empties its history, its limits may move the width (R47, R48), and
disabling it ends its pulse and its window (R481). -/
def tpSettle (s0 s : State) (n : Nat) : State :=
  if srcEn s n && !srcEn s0 n then tpReset s n
  else if !srcEn s n && srcEn s0 n then srcSet s n { srcGet s n with win := none, off := false, onAt := [] }
  else if regGet s (Reg.FIO_TP_CFG n) = regGet s0 (Reg.FIO_TP_CFG n) then s
  else tpJournal s n

/-- All sources after a change of the settings. -/
def tpSettled (s0 s : State) : State := (List.range 16).foldl (tpSettle s0) s

/-- A skipped pulse is counted in the bank's half of `FIO_TP_SKIP` and empties the history (R47, R60). -/
def tpSkip (s : State) (n : Nat) : State :=
  tpReset (fldBump s Reg.FIO_TP_SKIP (if bankOfSource n = 0 then F.FIO_TP_SKIP_SKIP0 else F.FIO_TP_SKIP_SKIP1) 1) n

/-- The inputs, of `0 … 127`, fed by source `n` whose filtered value is ON. -/
def fedAndOn (s : State) (n : Nat) : List Nat :=
  (List.range 128).filter fun i => srcOf s i = some n && (inGet s i).filt

/-- The width a source drives: the follower of a PAIRED pair takes the width the leader reports in IMAGE (R243). -/
def tpPulseWidth (s : State) (n : Nat) : Nat :=
  if pstate s = 2 && !isLeader s then
    (match s.bly.peer with
     | some m => (m.width[n]?.map BitVec.toNat).getD (tpNextWidth s n)
     | none => tpNextWidth s n)
  else tpNextWidth s n

/-- No window of source `n` is open, or its end has passed. -/
def windowOver (s : State) (n : Nat) : Bool :=
  match (srcGet s n).win with
  | some (_, e) => decide (e ≤ s.tb)
  | none => true

/-- A pulse of source `n` falls due while its bank sags: it is skipped (R60). -/
def tpSkipDue (s : State) (n : Nat) : Bool :=
  started s.dev && !s.kill.supply && srcEn s n && decide (s.tb % tTP s = tpPhase s n % tTP s) && sagging s (bankOfSource n)

/-- Source `n` drives the VFIELD of its bank: from the end of SELF-TEST on, but for its off-pulses, while the core has power and no
supply is below its range, nor under the clamps or EXTEST (R417, R439, R452, R481). -/
def sourceDrives (s : State) (n : Nat) : Bool :=
  started s.dev && decide (s.pwr.state < 2) && s.pwr.entering.isNone && !s.kill.supply && !onDummies s && !(srcGet s n).off

/-- TEST_PULSE_START (R45, R53, R54, R60); no source conducts while a supply is below its range (R452). `off`: inputs that read OFF
on the sample before the pulse; they carry no test information, whatever the filtered value still is (R47, R53). -/
def tpStart (s : State) (n : Nat) (off : List Nat) : State :=
  let u := off.foldl (fun u i => setRaw u i false) s
  if windowOver s n && tpDue s n then
    srcSet u n { srcGet s n with
      win := some (s.tb, s.tb + tpWinLen s n), off := true, width := tpPulseWidth s n, discard := false,
      onAt := (fedAndOn s n).filter fun i => !off.contains i }
  else if windowOver s n && tpSkipDue s n then tpSkip u n
  else s

/-- TEST_PULSE_END (R48): the source drives again after the width. -/
def tpEnd (s : State) (n : Nat) : State :=
  let x := srcGet s n
  match x.win with
  | none => s
  | some (t, _) => if x.off && decide (t + x.width * 100 ≤ s.tb) then srcSet s n { x with off := false } else s

/-- Set or clear of a test-pulse bit is journaled as 0x4001 (R52). -/
def logInput (s : State) (i p1 p2 : Nat) : State := log s 0x4001 i p1 p2

/-- Own input `i` gave a response within its pulse; with no low in another window since the last one it counts twice running
towards clearing (R52). DESIGN CHOICE (log entry 145): P2 of an entry that clears a bit is 0. -/
def tpPass (s : State) (i : Nat) : State :=
  let x := inGet s i
  let good := min 2 (x.good + 1)
  let clears := decide (2 ≤ good)
  let s1 := inSet s i { x with good := good, noPulse := x.noPulse && !clears, xshort := x.xshort && !clears }
  let s2 := if clears && x.noPulse then logInput s1 i 0x81 0 else s1
  if clears && x.xshort then logInput s2 i 0x82 0 else s2

/-- Response `r` of own input `i` against RESP_MAX (R51, R52); a response whose return was late is not a good one. -/
def tpSlow (s : State) (n i r : Nat) (late : Bool) : State :=
  let x := inGet s i
  let slowNow := decide (fldGet s (Reg.FIO_TP_CFG n) F.FIO_TP_CFG_RESP_MAX < r)
  let goodResp := if slowNow || late then 0 else min 8 (x.goodResp + 1)
  let slow := slowNow || x.slow && decide (goodResp < 8)
  let s1 := inSet s i { x with goodResp := goodResp, slow := slow }
  if slow && !x.slow then logInput s1 i 3 r
  else if x.slow && !slow then logInput s1 i 0x83 r
  else s1

/-- Own input `i` read ON through its pulse: NO_PULSE latches (R51). -/
def tpNoPulse (s : State) (i : Nat) : State :=
  let x := inGet s i
  let s1 := inSet s i { x with noPulse := true, good := 0 }
  if x.noPulse then s1 else logInput s1 i 1 0

/-- Own input `i`, whose response was `r` (0: none), is still OFF at the window end: a late return, and the low that began at
`t` is a demand (R49, R50). DESIGN CHOICE (log entry 146): a late return that first sets the SLOW bit writes its entry with P1 = 4
only, none with P1 = 3. -/
def tpLate (s : State) (i t r : Nat) : State :=
  let x := inGet s i
  let s1 := logInput (inSet s i { x with slow := true, goodResp := 0 }) i 4 r
  if filterReady s1 i false t then setFilt s1 i false t else s1

/-- One own input at the window end: a response after the pulse is measured too, and the input had no low in its pulse (R47,
R51). -/
def tpJudge (n : Nat) (resp : List (Nat × Nat)) (late : List (Nat × Nat)) (width : Nat) (s : State) (i : Nat) : State :=
  let l := late.find? (fun p => p.1 = i)
  let r := resp.find? (fun p => p.1 = i)
  let s1 := match r with
    | some p => tpSlow (if p.2 < width then tpPass s i else tpNoPulse s i) n i p.2 l.isSome
    | none => tpNoPulse s i
  match l with
  | some p => tpLate s1 i p.2 ((r.map (·.2)).getD 0)
  | none => s1

/-- A pulse on which the own input was OFF breaks the run of passed pulses (R52, R53). -/
def tpUnjudged (s : State) (i : Nat) : State := inSet s i { inGet s i with good := 0 }

/-- A foreign input went OFF and returned ON in the window of source `n`, in test period `k`: two periods running latch
CROSS_SHORT (R51). -/
def tpForeign (n k : Nat) (s : State) (i : Nat) : State :=
  let x := inGet s i
  let hit := x.cross.any fun c => c.1 = n && c.2 + 1 = k
  let x1 := { x with good := 0, cross := (n, k) :: x.cross.filter (fun c => !(c.1 = n)), xshort := x.xshort || hit }
  let s1 := inSet s i x1
  if hit && !x.xshort then logInput s1 i 2 n else s1

/-- A foreign window of source `n` passed without a low that returned on the input: its candidate ends. -/
def tpForeignClear (n : Nat) (s : State) (i : Nat) : State :=
  let x := inGet s i
  if x.cross.any (fun c => c.1 = n) then inSet s i { x with cross := x.cross.filter (fun c => !(c.1 = n)) } else s

/-- A pulse with responses enters the history, and the next width follows (R47, R48). -/
def tpHistory (s : State) (n : Nat) (rs : List Nat) : State :=
  match rs with
  | [] => s
  | r :: t => tpJournal (srcSet s n { srcGet s n with hist := (t.foldl max r :: (srcGet s n).hist).take 8 }) n

/-- What the raw inputs read at a window's end: own inputs that are not late, and others that have returned, read ON (R42). -/
def rawAtEnd (s : State) (own : List Nat) (lows : List (Nat × Bool)) (late : List (Nat × Nat)) : State :=
  lows.foldl (fun t p => setRaw t p.1 p.2) (own.foldl (fun t i => setRaw t i (!late.any fun p => p.1 = i)) s)

/-- TP_WINDOW_END (R50 to R53). `resp`: inputs that went OFF and the µs after the pulse start; `lows`: inputs of other sources
that went OFF inside the window, and whether they returned ON inside it; `late`: own inputs still OFF, with the TB of the first
OFF sample. -/
def tpWindowEnd (s : State) (n : Nat) (resp : List (Nat × Nat)) (lows : List (Nat × Bool)) (late : List (Nat × Nat)) : State :=
  let x := srcGet s n
  match x.win with
  | none => s
  | some (t0, e) =>
    if s.tb < e then s
    else
      let s1 := srcSet (rawAtEnd s x.onAt lows late) n { x with win := none, off := false, onAt := [] }
      if x.discard then s1
      else
        let got := resp.filter fun p => x.onAt.contains p.1 && decide (t0 + p.2 * 100 ≤ e)
        let out := (List.range 128).filter fun i => srcOf s i = some n && !x.onAt.contains i
        let s2 := out.foldl tpUnjudged (x.onAt.foldl (tpJudge n got late x.width) s1)
        let s3 := tpHistory s2 n (got.map (·.2))
        let other := lows.filter fun p => srcOf s p.1 ≠ none && srcOf s p.1 ≠ some n
        let back := (other.filter (·.2)).map (·.1)
        let s4 := (other.map (·.1)).foldl tpUnjudged s3
        let s5 := back.foldl (tpForeign n (t0 / tTP s)) s4
        ((List.range 128).filter (fun i => !back.contains i)).foldl (tpForeignClear n) s5

/-! ## Leakage watch -/

/-- The code lies in the undefined band of the input's type (R37, R56). -/
def undefBand (s : State) (i v : Nat) : Bool :=
  let type1 := bitN (fldGet s Reg.FIO_CTRL F.FIO_CTRL_ITYPE) (i / 16)
  decide (40 < v) && decide (v < (if type1 then 120 else 88))

/-- One flag of R56 after a measurement that counts towards it or does not: new flag and run. -/
def leakFlag (cnt : Nat) (flag counts : Bool) (run : Nat) : Bool × Nat :=
  if counts = flag then (flag, 0)
  else if cnt ≤ run + 1 then (counts, 0)
  else (flag, run + 1)

/-- Is this the measurement point of input `i` (R55)? An ON input whose source pulses is measured 2 µs before the pulse ends,
every other input at offset i × 781.25 µs of the 100 ms interval. DESIGN CHOICE (log entry 184): a pulse belongs to the interval in
which it starts, and its measurement to the interval in which the measurement point lies. -/
def leakPoint (s : State) (i : Nat) : Bool :=
  let atOffset := decide (s.tb % 10000000 = i * 78125)
  match srcOf s i with
  | none => atOffset
  | some n =>
    let x := srcGet s n
    let k := s.tb / 10000000
    let pulseIn := srcEn s n && decide (0 < tTP s) && !sagging s (bankOfSource n) &&
      decide ((((k + 1) * 10000000 - 1 + tTP s - tpPhase s n % tTP s) / tTP s) ≠
              ((k * 10000000 + tTP s - tpPhase s n % tTP s + tTP s - 1) / tTP s - 1))
    if (inGet s i).filt && pulseIn then
      (match x.win with
       | some (t0, _) => x.off && decide (s.tb + 200 = t0 + x.width * 100)
       | none => false)
    else atOffset

/-- The 100 ms interval of R55 that now runs. -/
def leakInterval (s : State) : Nat := s.tb / 10000000

/-- An off-state measurement: in the pulse, or on an input whose filtered value is OFF (R55). -/
def leakOffState (s : State) (i : Nat) : Bool :=
  !(inGet s i).filt ||
    (match srcOf s i with
     | some n => (srcGet s n).off
     | none => false)

/-- LEAK_MEASURE (R55 to R57): input `i` read as `v` (0.125 V), once in each interval. -/
def leakMeasure (s : State) (i v : Nat) : State :=
  if fldGet s Reg.FIO_LEAK_CFG F.FIO_LEAK_CFG_EN = 1 && !sagging s (bankOfInput i) && started s.dev && leakPoint s i &&
      (inGet s i).leakIv ≠ some (leakInterval s) then
    let x := inGet s i
    let cnt := fldGet s Reg.FIO_LEAK_CFG F.FIO_LEAK_CFG_COUNT
    let ub := undefBand s i v
    let lw := leakOffState s i && !ub && decide (fldGet s Reg.FIO_LEAK_CFG F.FIO_LEAK_CFG_WARN_V ≤ v)
    let u := leakFlag cnt x.undef ub x.undefRun
    let w := leakFlag cnt x.warn lw x.warnRun
    let s1 := inSet s i { x with
      leakV := v, undef := u.1, undefRun := u.2, warn := w.1, warnRun := w.2, leakIv := some (leakInterval s) }
    let s2 := if u.1 = x.undef then s1 else log s1 0x4002 i (if u.1 then 1 else 0x81) v
    if w.1 = x.warn then s2 else log s2 0x4002 i (if w.1 then 2 else 0x82) v
  else s

/-! ## Supply levels -/

/-- The code of a supply level in a SUPPLY_LEVEL entry (R58). -/
def levelCode : Level → Nat
  | .ok => 0
  | .warn => 1
  | .sag => 2
  | .brownOut => 3

/-- A bank takes level `l`, journaled with the voltage (R58, R306). -/
def setLevel (s : State) (b : Nat) (l : Level) (mv : Nat) : State :=
  log (if b = 0 then { s with fio := { s.fio with lvl0 := l } } else { s with fio := { s.fio with lvl1 := l } })
    0x4003 b (levelCode l) mv

/-- A pulse running when its bank begins to sag completes, its responses are discarded and it counts as skipped (R60). -/
def discardPulse (b : Nat) (s : State) (n : Nat) : State :=
  let x := srcGet s n
  if bankOfSource n = b && x.off && !x.discard then tpSkip (srcSet s n { x with discard := true }) n else s

def discardPulses (s : State) (b : Nat) : State := (List.range 16).foldl (discardPulse b) s

/-- The filtered values of a bank are rebuilt through the filter from the exit on: each starts OFF, as it was forced (R59). -/
def rebuildInputs (s : State) (b : Nat) : State :=
  let f := s.fio
  let ins := (List.range 64).foldl
    (fun t j => let i := b * 64 + j; tabPut inSt0 t i { tabGet inSt0 t i with filt := false }) f.ins
  { s with fio := { f with ins := ins, exit0 := if b = 0 then s.tb else f.exit0, exit1 := if b = 0 then f.exit1 else s.tb } }

/-- The level a bank takes on leaving SAG or BROWN-OUT at voltage `mv`: WARN is left only at 18.5 V (R58). -/
def levelAfter (mv : Nat) : Level := if mv < 18500 then .warn else .ok

def warnEnter (s : State) (b mv : Nat) : State :=
  if levelOf s b = .ok && decide (mv < 18000) then setLevel s b .warn mv else s

def warnLeave (s : State) (b mv : Nat) : State :=
  if levelOf s b = .warn && decide (18500 ≤ mv) then setLevel s b .ok mv else s

/-- SAG_ENTER; `failing` are the channels whose last readback comparison failed (R149). -/
def sagEnter (s : State) (b mv failing : Nat) : State :=
  if (levelOf s b = .ok || levelOf s b = .warn) && decide (mv < 15000) then
    soutSagEnter (discardPulses (setLevel s b .sag mv) b) b failing
  else s

def sagLeave (s : State) (b mv : Nat) : State :=
  if levelOf s b = .sag && decide (16000 ≤ mv) then
    soutSagLeave (rebuildInputs (setLevel s b (levelAfter mv) mv) b) b
  else s

/-- BROWN-OUT: as SAG; the output latch of the bank sets (R58, R150). -/
def brownOutEnter (s : State) (b mv : Nat) : State :=
  if levelOf s b ≠ .brownOut && decide (mv < 12000) then
    setBoLatch (soutSagEnter (discardPulses (setLevel s b .brownOut mv) b) b 0) b true
  else s

/-- The bank leaves BROWN-OUT; the output latch stays (R58, R90). -/
def brownOutLeave (s : State) (b mv : Nat) : State :=
  if levelOf s b = .brownOut && decide (16000 ≤ mv) then
    soutSagLeave (rebuildInputs (setLevel s b (levelAfter mv) mv) b) b
  else s

/-- VFIELD_UPDATE: at each 1 ms TB multiple after POWER-UP (R58). -/
def vfieldUpdate (s : State) (v0 v1 : Nat) : State :=
  if s.dev ≠ .powerUp && decide (s.tb % 100000 = 0) then
    fldSet (fldSet s Reg.FIO_VFIELD F.FIO_VFIELD_V0 v0) Reg.FIO_VFIELD F.FIO_VFIELD_V1 v1
  else s

end Sys2Proof.Machine
end

