-- ==== Sys2Proof/Machine/Fixed.lean ====
section
/-!
DEFINITION. Elementary functions in fixed point, 60 fraction bits, for the equations of R169 and R172. Their error lies below 2^-50;
what is rounded to a result's own resolution is rounded there.
-/
namespace Sys2Proof.Machine.Fixed

/-- 1.0. -/
def one : Nat := 2 ^ 60
/-- π and ln 2. -/
def pi : Nat := 3622009729038561421
def ln2 : Nat := 799144290325165978

/-- The Taylor series of sin(y) / y at `y2` = y²: 1 − y²/3! + y⁴/5! − …, from the inside out. -/
def sinSeries (y2 : Nat) : Nat :=
  [16, 14, 12, 10, 8, 6, 4, 2].foldl (fun acc k => one - y2 * acc / one / (k * (k + 1))) one

/-- sin²(π n / d) for n / d of at most 1/4. -/
def sinSqSmall (n d : Nat) : Nat :=
  let y := pi * n / d
  let v := y * sinSeries (y * y / one) / one
  v * v / one

/-- (1 − cos 2πx) / 2 = sin²(πx) at x = n / d in 0 to 1. -/
def sinSq (n d : Nat) : Nat :=
  let m := min n (d - n)
  if 4 * m ≤ d then sinSqSmall m d else one - sinSqSmall (d - 2 * m) (2 * d)

/-- `a / b` as m × 2^k with m in 1 to 2: k, and m in fixed point. -/
def split (a b : Nat) : Int × Nat :=
  let k : Int := (Nat.log2 a : Int) - (Nat.log2 b : Int)
  let m := if 0 ≤ k then a * one / (b * 2 ^ k.toNat) else a * 2 ^ (-k).toNat * one / b
  if m < one then (k - 1, 2 * m) else (k, m)

/-- ln m for m in 1 to 2: 2 artanh z at z = (m − 1) / (m + 1). -/
def lnSmall (m : Nat) : Nat :=
  let z := (m - one) * one / (m + one)
  let z2 := z * z / one
  let terms := (List.range 18).map fun k => 2 * (17 - k) + 1
  2 * (z * (terms.foldl (fun acc k => one / k + z2 * acc / one) 0) / one)

/-- ln (a / b) for a and b above 0. -/
def ln (a b : Nat) : Int :=
  let p := split a b
  p.1 * (ln2 : Int) + (lnSmall p.2 : Int)

end Sys2Proof.Machine.Fixed
end

