-- ==== Sys2Proof/Machine/Lmp.lean ====
section
/-!
DEFINITION. The lamp drive: PWM periods, applied duty and current, sail engines, derating, matrix, stage faults (R158 to R181).
-/
namespace Sys2Proof.Machine

def strGet (s : State) (n : Nat) : StrSt := tabGet strSt0 s.lmp.strs n
def strSet (s : State) (n : Nat) (x : StrSt) : State :=
  { s with lmp := { s.lmp with strs := tabPut strSt0 s.lmp.strs n x } }

/-- LED bank of a string (R158). -/
def bankOfString (n : Nat) : Nat := n / 16

/-! ## Rounding -/

/-- A quotient whose rounding the spec leaves open: exact where it is exact, else one of the two neighbours. -/
def openDiv (num den : Nat) : Nat :=
  if num % den = 0 then num / den else num / den + b2n (Config.roundUp num den)

/-- round(num / den) of R164: to nearest; a tie is left open. -/
def nearDiv (num den : Nat) : Nat :=
  if 2 * (num % den) = den then num / den + b2n (Config.roundUp num den) else (2 * num + den) / (2 * den)

/-! ## Periods -/

/-- n of an LED bank (R161). -/
def pwmBits (s : State) (b : Nat) : Nat := 8 + fldGet s (Reg.LMP_BANK_CFG b) F.LMP_BANK_CFG_BITS

/-- p of an LED bank (R161): 0 means 256. -/
def pwmPresc (s : State) (b : Nat) : Nat :=
  let p := fldGet s (Reg.LMP_BANK_CFG b) F.LMP_BANK_CFG_PRESC
  if p = 0 then 256 else p

/-- t_PWM in µs (R161). -/
def tPwm (s : State) (b : Nat) : Nat := pwmPresc s b * 2 ^ (pwmBits s b - 8)

/-- Now is a boundary of LED bank `b` (R161). -/
def atBankBoundary (s : State) (b : Nat) : Bool := decide (s.tb % (tPwm s b * 100) = 0)

/-- Offset of the on-edge of string `n` within its period, in ticks (R162). -/
def edgeOffset (s : State) (n : Nat) : Nat := n % 16 * (tPwm s (bankOfString n) * 100) / 16

/-- Boundaries occur: not in POWER-UP or SELF-TEST, nor with PLL_B faulted (R24), a supply below its range (R452) or LMP stopped for
a power transition (R413). -/
def lampsClocked (s : State) : Bool := started s.dev && !s.kill.pllB && !s.kill.supply && s.pwr.entering.isNone

/-- The stages may drive (R179): nor at the Belay member without the lamps, whose values still latch (R246). -/
def lampsRun (s : State) : Bool := lampsClocked s && lampMember s

def stageFault (s : State) (n : Nat) : Nat := fldGet s (Reg.LMP_STR_STAT n) F.LMP_STR_STAT_FAULT

def unusableString (s : State) (n : Nat) : Bool := bitN (regGet s Reg.BIST_STR_UNUSABLE).toNat n

/-- The lamp tests of the string's bank are deferred (R380). -/
def testDeferred (s : State) (n : Nat) : Bool := if bankOfString n = 0 then s.pwr.defer0 else s.pwr.defer1

/-- The stages of LED bank `b` wait for its next boundary (R414). -/
def bankWaits (s : State) (b : Nat) : Bool := if b = 0 then s.lmp.wait0 else s.lmp.wait1

/-- The stage of string `n` runs (R164). -/
def stageRuns (s : State) (n : Nat) : Bool :=
  lampsRun s && !bankWaits s (bankOfString n) && !onDummies s && fldGet s (Reg.LMP_STR_CFG n) F.LMP_STR_CFG_EN = 1 &&
    stageFault s n = 0 && !(strGet s n).stopped &&
    !unusableString s n && !testDeferred s n

def actDuty (s : State) (n : Nat) : Nat := if stageRuns s n then fldGet s (Reg.LMP_STR_ACT n) F.LMP_STR_ACT_DUTY else 0
def actI (s : State) (n : Nat) : Nat := if stageRuns s n then fldGet s (Reg.LMP_STR_ACT n) F.LMP_STR_ACT_I else 0

/-- The string is commanded dark (R162, R202). -/
def commandedDark (s : State) (n : Nat) : Bool := actDuty s n = 0 || actI s n = 0

/-- t_on in LPWM cycles of 3.906 ns (R162). -/
def onCycles (s : State) (n : Nat) : Nat :=
  let b := bankOfString n
  if commandedDark s n then 0 else actDuty s n / 2 ^ (16 - pwmBits s b) * pwmPresc s b

/-! ## The stages' switching (R159) -/

/-- VLED of LED bank `b` as last measured, mV. -/
def vledMv (s : State) (b : Nat) : Nat := if b = 0 then s.lmp.vled0 else s.lmp.vled1

/-- Peak-current setpoint of a stage in mA: the applied current and half the ripple (VLED − V_s) × V_s / (VLED × L × FSW), from the
measured voltages and LVAL. -/
def peakSetpoint (s : State) (n : Nat) : Nat :=
  let b := bankOfString n
  let v := vledMv s b
  let vs := 125 * fldGet s (Reg.LMP_STR_MEAS n) F.LMP_STR_MEAS_V
  let l := fldGet s (Reg.LMP_STR_CFG n) F.LMP_STR_CFG_LVAL
  let f := fldGet s (Reg.LMP_BANK_CFG b) F.LMP_BANK_CFG_FSW
  actI s n + (if v * l * f = 0 then 0 else openDiv ((v - vs) * vs * 5) (v * l * f))

/-- Phase offset of the switching cycle of stage `n`, in sixteenths. -/
def switchPhase (n : Nat) : Nat := n % 16

/-- Switching frequency of LED bank `b` now, Hz: FSW under a 10 kHz triangle of ±2, 4 or 8 %, or none. -/
def switchFreq (s : State) (b : Nat) : Int :=
  let f := fldGet s (Reg.LMP_BANK_CFG b) F.LMP_BANK_CFG_FSW
  let ssc := fldGet s (Reg.LMP_BANK_CFG b) F.LMP_BANK_CFG_SSC
  let d : Nat := if ssc = 0 then 0 else 2 ^ ssc
  let x : Int := ((s.tb + (Config.spreadPhase b).toNat) % 10000 : Nat)
  let tri : Int := if x < 2500 then x else if x < 7500 then 5000 - x else x - 10000
  (f * 100000 : Nat) + (f * d * 2 : Nat) * tri / 5

/-- LPWM cycles in ticks of 10 ns, rounded up. -/
def cyclesToTicks (c : Nat) : Nat := (c * 100 + 255) / 256

/-! ## Staging (R165, R166) -/

/-- Marked values keep what an earlier cycle has marked until the newer ones can be latched (R165). -/
def pushNext {α : Type} (tb : Nat) (l : List (Nat × α)) (x : Nat × α) : List (Nat × α) :=
  (l.filter fun y => decide (y.1 ≤ tb)).getLast?.toList ++ [x]

/-- The newest of the marked values a boundary at `tb` latches, and what stays marked (R165). -/
def takeNext {α : Type} (tb : Nat) (l : List (Nat × α)) : Option α × List (Nat × α) :=
  ((l.filter fun y => decide (y.1 ≤ tb)).getLast?.map (·.2), l.filter fun y => !decide (y.1 ≤ tb))

/-- The words of engine `e` as staged now, and as they were staged before this cycle (R165). -/
def engStaged (s : State) (e : Nat) : Nat × Nat :=
  ((regGet s (Reg.LMP_SAIL_CFG e)).toNat, (regGet s (Reg.LMP_SAIL_LVL e)).toNat)
def engBefore (s : State) (e : Nat) : Nat × Nat :=
  match tabFind s.lmp.engWas e with
  | some (t, v) => if t = s.tb then v else engStaged s e
  | none => engStaged s e

/-- The words of engine `e` are about to change: what was staged before this cycle is kept (R165). -/
def dirtyEngine (s : State) (e : Nat) : State :=
  { s with lmp := { s.lmp with engWas := tabIns s.lmp.engWas e (s.tb, engBefore s e) } }

/-- Mark words `v` for engine `e` of LED bank `b`: each bank latches an engine at its own boundaries. -/
def pushEngine (s : State) (b e start : Nat) (v : Nat × Nat) : State :=
  let k := 16 * b + e
  let waits := s.lmp.engNext.filter fun m => m.1 = k
  if waits.isEmpty && tabGet eng0 s.lmp.eng k = v then s
  else { s with lmp := { s.lmp with
    engNext := s.lmp.engNext.filter (fun m => m.1 ≠ k) ++ (waits.filter fun m => decide (m.2.1 ≤ s.tb)).getLast?.toList ++ [(k, start, v)] } }

/-- The staged values of engine `e` are marked on both banks with the string that uses it; a boundary of this cycle does not latch
what was written in it (R165). -/
def markEngine (s : State) (e start : Nat) : State :=
  if e < 16 then
    [0, 1].foldl (fun t b =>
      let t1 := pushEngine t b e start (if start ≤ s.tb then engBefore s e else engStaged s e)
      if start ≤ s.tb && engBefore s e ≠ engStaged s e then pushEngine t1 b e (s.tb + 1) (engStaged s e) else t1) s
  else s

/-- Mark values for string `n`: a boundary from `start` on latches them. -/
def markString (s : State) (n run sail start : Nat) : State :=
  let x := strGet s n
  markEngine (strSet s n { x with next := pushNext s.tb x.next (start, run, sail) })
    (getF (BitVec.ofNat 32 sail) F.LMP_STR_SAIL_ENGINE) start

def stagedRun (s : State) (n : Nat) : Nat := (regGet s (Reg.LMP_STR_RUN n)).toNat
def stagedSail (s : State) (n : Nat) : Nat := (regGet s (Reg.LMP_STR_SAIL n)).toNat

/-- A staged write: ISET 1–4 is stored as 5, above 300 as 300 (R180). -/
def clampRun (w : Word) : Word :=
  let i := getF w F.LMP_STR_RUN_ISET
  setF w F.LMP_STR_RUN_ISET (if i = 0 then 0 else clampN i 5 300)

/-- The string's staged values are about to change and are not marked: what was staged before this tick is kept (R191). -/
def dirtyString (s : State) (n : Nat) : State :=
  let x := strGet s n
  strSet s n { x with
    dirty := some s.tb
    was := if x.dirty = some s.tb then x.was else x.dirty.map fun _ => (stagedRun s n, stagedSail s n) }

/-- A staged write to the run or sail register at `a` of string `n`. -/
def stageWrite (s : State) (n a : Nat) (w : Word) : State := regSet (dirtyString s n) a w

/-- Marks the staged values of a host-owned string for the next boundary (R166). -/
def applyString (s : State) (n : Nat) : State :=
  if strHostOwned s n then
    let s1 := strSet s n { strGet s n with dirty := none, was := none }
    markString s1 n (stagedRun s1 n) (stagedSail s1 n) (s.tb + 1)
  else s

/-- LMP_APPLY by a master other than ASP: a 1 for an ASP-owned string is ignored (R166). -/
def lmpApply (s : State) (m : Nat) : State :=
  ((List.range 32).filter (bitN m)).foldl applyString s

/-- Staged matrix values (column currents and dot duties), by register address. -/
def mtxStaged (s : State) : Tab Word :=
  s.regs.filter fun p => decide (Reg.LMP_MTX_COL 0 ≤ p.1) && decide (p.1 < Reg.LMP_RGB 0)

/-- Mark matrix values for a frame start from `start` on. -/
def markMatrix (s : State) (v : Tab Word) (start : Nat) : State :=
  { s with lmp := { s.lmp with mtxNext := pushNext s.tb s.lmp.mtxNext (start, v) } }

/-- MATRIX_APPLY: marks the staged values of a host-owned matrix (R166, R175). -/
def mtxHostOwned (s : State) : Bool := fldGet s Reg.LMP_MTX_CFG F.LMP_MTX_CFG_OWNER = 1
def matrixApply (s : State) : State :=
  if mtxHostOwned s then
    markMatrix { s with lmp := { s.lmp with mtxDirty := none, mtxWas := none } } (mtxStaged s) (s.tb + 1)
  else s

/-- The staged matrix values are about to change: what was staged before this tick is kept (R191). -/
def dirtyMatrix (s : State) : State :=
  { s with lmp := { s.lmp with
      mtxDirty := some s.tb
      mtxWas := if s.lmp.mtxDirty = some s.tb then s.lmp.mtxWas else s.lmp.mtxDirty.map fun _ => mtxStaged s } }

/-- `LMP_PEND` (R165): staged values not yet latched, those of its engine and of a pending commit included. -/
def lmpPend (s : State) : Nat :=
  packBits (fun n => !(strGet s n).next.isEmpty || (strGet s n).dirty.isSome ||
    (decide ((strGet s n).sail / 256 % 32 < 16) &&
      s.lmp.engNext.any (fun m => m.1 = 16 * bankOfString n + (strGet s n).sail / 256 % 32)) ||
    s.asp.commits.any (fun c => !(if bankOfString n = 0 then c.done0 else c.done1) && c.strs.any (fun v => v.1 = n))) 32

def mtxPend (s : State) : Bool :=
  !s.lmp.mtxNext.isEmpty || s.lmp.mtxDirty.isSome || s.asp.commits.any (fun c => c.mtx.isSome && !c.doneM)

/-! ## Sail engines (R169) -/

/-- L + (H − L) × a / b at 16-bit resolution, 1 being 65536. -/
def blend (lo hi a b : Nat) : Nat := openDiv ((lo * (b - a) + hi * a) * 65536) (255 * b)

/-- (1 − cos 2πx) / 2 at x = `num / den`, in 2^-60: exact at the quarters. -/
def breath (num den : Nat) : Nat :=
  if 2 * num = den then Fixed.one
  else if 4 * num = den || 4 * num = 3 * den then Fixed.one / 2
  else Fixed.sinSq num den

/-- w(x) of an engine with words `cfg` and `lvl` for sail phase `sph` at boundary `us` (µs) (R169). -/
def sailWeight (cfg lvl : Word) (sph us : Nat) : Nat :=
  let p := getF cfg F.LMP_SAIL_CFG_PERIOD * 1000
  let lo := getF lvl F.LMP_SAIL_LVL_LOW
  let hi := getF lvl F.LMP_SAIL_LVL_HIGH
  let den := 256 * p
  let x := (us % p * 256 + sph * p) % den
  let u := getF lvl F.LMP_SAIL_LVL_DUTY * p
  if p = 0 then min 65536 (Config.reservedWeight cfg.toNat lvl.toNat us)
  else
    match getF cfg F.LMP_SAIL_CFG_TYPE with
    | 0 => 65536
    | 1 => blend lo hi (breath x den) Fixed.one
    | 2 => if x < u then blend lo hi (u - x) u else blend lo hi 0 1
    | 3 => if x < u then blend lo hi 1 1 else blend lo hi 0 1
    | 4 => if x < u || (2 * u ≤ x && decide (x < 3 * u)) then blend lo hi 1 1 else blend lo hi 0 1
    | 5 => blend lo hi x den
    | _ => min 65536 (Config.reservedWeight cfg.toNat lvl.toNat x)

/-! ## Colour mixing (R167) -/

/-- Coefficient `k` (row-major, 0–8) of RGB head `h`, Q2.14. -/
def mixCoef (s : State) (h k : Nat) : Int :=
  let w := (regGet s (Reg.LMP_RGB (8 * h + 1 + k / 2))).toNat
  ofTwos 16 (if k % 2 = 0 then w else w / 65536)

/-- String of colour `c` (0 red, 1 green, 2 blue) of RGB head `h`. -/
def rgbString (s : State) (h c : Nat) : Nat := (regGet s (Reg.LMP_RGB (8 * h))).toNat / 2 ^ (8 * c) % 32

/-- The enabled RGB head a string belongs to, and its colour. -/
def rgbOf (s : State) (n : Nat) : Option (Nat × Nat) :=
  ((List.range 24).find? fun k =>
    bitN (regGet s (Reg.LMP_RGB (8 * (k / 3)))).toNat 31 && rgbString s (k / 3) (k % 3) = n).map fun k => (k / 3, k % 3)

def latchedRun (s : State) (n : Nat) : Word := BitVec.ofNat 32 (strGet s n).run
def latchedSail (s : State) (n : Nat) : Word := BitVec.ofNat 32 (strGet s n).sail
def dutyReq (s : State) (n : Nat) : Nat := getF (latchedRun s n) F.LMP_STR_RUN_DUTY
def iSet (s : State) (n : Nat) : Nat := getF (latchedRun s n) F.LMP_STR_RUN_ISET

/-- Element `c` of M × c in units of 1/(0xFFFF × 2^14): with the duties as numbers the fraction's denominator cancels. -/
def mixSum (s : State) (h c : Nat) : Int :=
  mixCoef s h (3 * c) * (dutyReq s (rgbString s h 0) : Int) + mixCoef s h (3 * c + 1) * (dutyReq s (rgbString s h 1) : Int) +
    mixCoef s h (3 * c + 2) * (dutyReq s (rgbString s h 2) : Int)

/-- mix(s): the duty after mixing, and whether it was clipped above 1 (R167). -/
def mixDuty (s : State) (h c : Nat) : Nat × Bool :=
  let v := mixSum s h c
  if v < 0 then (0, false)
  else if (0xFFFF * 16384 : Int) < v then (0xFFFF, true)
  else (openDiv v.toNat 16384, false)

/-! ## Applied duty and current (R164) -/

/-- The factors in force for a boundary at this TB: a step of the same cycle waits for the next one (R165). -/
def factors (s : State) : Nat × Nat × Nat × Nat :=
  if s.lmp.facAt = s.tb && decide (0 < s.tb) then s.lmp.facOld
  else (fldGet s Reg.LMP_DERATE_STAT F.LMP_DERATE_STAT_FT, fldGet s Reg.LMP_DERATE_STAT F.LMP_DERATE_STAT_FP,
        fldGet s Reg.LMP_FBANK F.LMP_FBANK_B0, fldGet s Reg.LMP_FBANK F.LMP_FBANK_B1)

/-- f of R164. -/
def factorOf (s : State) (b : Nat) : Nat :=
  let f := factors s
  min f.1 (min f.2.1 (if b = 0 then f.2.2.1 else f.2.2.2))

/-- The current of R164 from the set value, its floor and the factor. -/
def derated (iset floor f : Nat) : Nat :=
  if iset = 0 then 0 else max (min floor iset) (nearDiv (iset * f) 32768)

/-- d of R164, and CLIP. DESIGN CHOICE (log entry 190): the codes 0x10 to 0x1E, to which no engine belongs, apply none, as 0x1F does. -/
def dutyOf (s : State) (n : Nat) : Nat × Bool :=
  let m := match rgbOf s n with
    | some (h, c) => mixDuty s h c
    | none => (dutyReq s n, false)
  let d1 := min 0xFFFF (m.1 * fldGet s (Reg.LMP_STR_CAL n) F.LMP_STR_CAL_K / 2 ^ 15)
  let e := getF (latchedSail s n) F.LMP_STR_SAIL_ENGINE
  let d2 := if e < 16 then
      (let w := tabGet eng0 s.lmp.eng (16 * bankOfString n + e)
       d1 * sailWeight (BitVec.ofNat 32 w.1) (BitVec.ofNat 32 w.2) (getF (latchedSail s n) F.LMP_STR_SAIL_SPHASE) (s.tb / 100)
         / 2 ^ 16)
    else d1
  let cut := 2 ^ (16 - pwmBits s (bankOfString n))
  (d2 / cut * cut, m.2)

def currentOf (s : State) (n : Nat) : Nat :=
  derated (iSet s n) (fldGet s (Reg.LMP_STR_CFG n) F.LMP_STR_CFG_FLOOR) (factorOf s (bankOfString n))

/-- Show duty and current in `LMP_STR_ACTn`. -/
def setAct (s : State) (n d i : Nat) : State :=
  let a := Reg.LMP_STR_ACT n
  fldSet (fldSet s a F.LMP_STR_ACT_DUTY d) a F.LMP_STR_ACT_I i

/-- The boundary latches the marked values of string `n` and the values of its engine (R165). -/
def latchString (s : State) (n : Nat) : State :=
  let x := strGet s n
  match takeNext s.tb x.next with
  | (some (r, l), rest) => strSet s n { x with run := r, sail := l, next := rest }
  | (none, _) => s

/-- Marked engine values that a boundary of LED bank `b` at this TB latches (R165). -/
def latchEngines (s : State) (b : Nat) : State :=
  let due := fun (m : Nat × Nat × Nat × Nat) => decide (m.1 / 16 = b) && decide (m.2.1 ≤ s.tb)
  { s with lmp := { s.lmp with
      eng := (s.lmp.engNext.filter due).foldl (fun t m => tabPut eng0 t m.1 m.2.2) s.lmp.eng
      engNext := s.lmp.engNext.filter fun m => !due m } }

/-- The computation of R164 for string `n`; the mixing reads the latched duties of all three strings of a head. -/
def computeString (s : State) (n : Nat) : State :=
  if stageRuns s n then
    let d := dutyOf s n
    fldSet (setAct s n d.1 (currentOf s n)) (Reg.LMP_STR_STAT n) F.LMP_STR_STAT_CLIP (b2n d.2)
  else fldSet (setAct s n 0 0) (Reg.LMP_STR_STAT n) F.LMP_STR_STAT_CLIP 0

/-- Strings of LED bank `b`. -/
def stringsOf (b : Nat) : List Nat := (List.range 16).map (b * 16 + ·)

/-- Latch and compute every string of the bank (R164). -/
def computeBank (s : State) (b : Nat) : State :=
  (stringsOf b).foldl computeString ((stringsOf b).foldl latchString (latchEngines s b))

/-! ## Derating (R171 to R174) -/

/-- Number of the governing factor (0 thermal, 1 power, 2 and 3 the banks) and its value. -/
def governing (f : Nat × Nat × Nat × Nat) : Nat × Nat :=
  let m := min (min f.1 f.2.1) (min f.2.2.1 f.2.2.2)
  (if f.1 = m then 0 else if f.2.1 = m then 1 else if f.2.2.1 = m then 2 else 3, m)

/-- A factor leaves 0x8000 or returns to it. -/
def crosses (a b : Nat) : Bool := decide ((a = 0x8000) ≠ (b = 0x8000))

/-- The journal entries of R174 after the factors go from `o` to `f`: one for each factor that leaves 0x8000 or returns to it, one for
each of `ntc` new NTC faults, and without any of these one for a change of the governing factor by 5 % or more. -/
def derateLog (s : State) (o f : Nat × Nat × Nat × Nat) (ntc : Nat) : State :=
  let g := governing f
  let last := s.lmp.facLog
  let moved := decide (last ≤ 20 * (if g.2 < last then last - g.2 else g.2 - last)) && decide (last ≠ g.2)
  let steps := b2n (crosses o.1 f.1) + b2n (crosses o.2.1 f.2.1) + b2n (crosses o.2.2.1 f.2.2.1) + b2n (crosses o.2.2.2 f.2.2.2) + ntc
  let k := if steps = 0 then b2n moved else steps
  if k = 0 then s
  else (List.range k).foldl (fun t _ => log t 0xC001 3 g.1 g.2) { s with lmp := { s.lmp with facLog := g.2 } }

/-- The factors as last stored, whatever the cycle. -/
def storedFactors (s : State) : Nat × Nat × Nat × Nat :=
  (fldGet s Reg.LMP_DERATE_STAT F.LMP_DERATE_STAT_FT, fldGet s Reg.LMP_DERATE_STAT F.LMP_DERATE_STAT_FP,
   fldGet s Reg.LMP_FBANK F.LMP_FBANK_B0, fldGet s Reg.LMP_FBANK F.LMP_FBANK_B1)

/-- Store new factors; those in force before this cycle stay so for a boundary of the same cycle (R165). -/
def setFactors (s : State) (f : Nat × Nat × Nat × Nat) (ntc : Nat) : State :=
  let o := storedFactors s
  let s1 := fldSet (fldSet s Reg.LMP_DERATE_STAT F.LMP_DERATE_STAT_FT f.1) Reg.LMP_DERATE_STAT F.LMP_DERATE_STAT_FP f.2.1
  let s2 := fldSet (fldSet s1 Reg.LMP_FBANK F.LMP_FBANK_B0 f.2.2.1) Reg.LMP_FBANK F.LMP_FBANK_B1 f.2.2.2
  derateLog { s2 with lmp := { s2.lmp with facAt := s.tb, facOld := factors s } } o f ntc

/-- 1 − SLOPE × (T − knee) as u1.15, truncated, limited to 0–1; SLOPE in 0.1 %/K (R171). -/
def kneeFactor (slope : Nat) (t knee : Int) : Nat :=
  if t ≤ knee then 0x8000
  else
    let drop := slope * (t - knee).toNat
    if 1000 ≤ drop then 0 else 0x8000 * (1000 - drop) / 1000

/-- One NTC reading: a failed sensor recovers after 10 consecutive readings in range (R172). -/
def ntcStep (x : Bool × Nat) (t : Int) : Bool × Nat :=
  if t < -50 || 150 < t then (true, 0)
  else if x.1 then (if 9 ≤ x.2 then (false, 0) else (true, x.2 + 1)) else (false, 0)

def intMax : List Int → Option Int
  | [] => none
  | a :: t => match intMax t with
    | none => some a
    | some b => some (if a < b then b else a)

/-- Temperature in °C of an NTC whose input reads `code` while `VDD_ANA` reads `vdd` (R172, R322, R325): R_ntc = R_PU × V / (VDD_ANA − V)
at the full scales 1.8 V and 2.4 V, then the beta equation; the rounding to 1 °C is left open. A reading without a resistance above 0,
or without a temperature, lies outside the range: `none`. -/
def ntcCelsius (code vdd : Nat) (cfg : Word) : Option Int :=
  let den := 4 * vdd - 3 * code
  if code = 0 || den = 0 then none
  else
    let rpu := 100 * getF cfg F.LMP_NTC_CFG_R_PU
    let r0 := getF cfg F.LMP_NTC_CFG_R_NOM
    let b := 250 * getF cfg F.LMP_NTC_CFG_B
    if rpu = 0 || r0 = 0 || b = 0 then none
    else
      let l := Fixed.ln (rpu * 3 * code) (r0 * den)
      -- 1 / T = 1 / 298.15 + l / B, with l in 2^-60
      let d : Int := (100 * b * Fixed.one : Nat) + 29815 * l
      if d ≤ 0 then none
      else
        let n : Int := (29815 * b * Fixed.one * 100 : Nat) - 27315 * d
        let q := n / (100 * d)
        some (if n % (100 * d) = 0 then q else q + b2n (Config.roundUp n.natAbs (100 * d).toNat))

/-- THERMAL_DERATE_TICK: readings of the NTC inputs and of `VDD_ANA`, and die sensors in °C (R171, R172). DESIGN CHOICE (log entry 192):
`LMP_TEMP` bits 15:8 show the hottest input that has not failed; without one they keep what they showed. -/
def thermalTick (s : State) (codes : List Nat) (vdd : Nat) (die : List Int) : State :=
  if decide (s.tb % 1000000 = 0) && started s.dev then
    let cfg := regGet s Reg.LMP_NTC_CFG
    let en := fldGet s Reg.LMP_DERATE_CFG F.LMP_DERATE_CFG_NTC_EN
    let slope := fldGet s Reg.LMP_DERATE_CFG F.LMP_DERATE_CFG_SLOPE
    let knee := fldGet s Reg.LMP_DERATE_CFG F.LMP_DERATE_CFG_KNEE
    let rd := ((List.range 4).filter (bitN en)).map fun k => (k, (ntcCelsius (codes.getD k 0) vdd cfg).getD 1000)
    let tabl := rd.foldl (fun t p => tabPut (false, 0) t p.1 (ntcStep (tabGet (false, 0) t p.1) p.2)) s.lmp.ntc
    let bad := rd.any fun p => (tabGet (false, 0) tabl p.1).1
    let new := rd.countP fun p => (tabGet (false, 0) tabl p.1).1 && !(tabGet (false, 0) s.lmp.ntc p.1).1
    let good := (rd.filter fun p => !(tabGet (false, 0) tabl p.1).1).map (·.2)
    let f1 := match intMax good with
      | some t => kneeFactor slope t knee
      | none => 0x8000
    let f2 := match intMax die with
      | some t => kneeFactor slope t 115
      | none => 0x8000
    let ft := if bad then 0 else min f1 f2
    let s1 := { s with lmp := { s.lmp with ntc := tabl } }
    let s2 := fldSet s1 Reg.LMP_STATUS F.LMP_STATUS_NTC_FAULT (b2n bad)
    let s3 := match intMax good with
      | some t => fldSet s2 Reg.LMP_TEMP F.LMP_TEMP_NTC (toTwos 8 t)
      | none => s2
    let s4 := match intMax die with
      | some t => fldSet s3 Reg.LMP_TEMP F.LMP_TEMP_DIE (toTwos 8 t)
      | none => s3
    let f := storedFactors s4
    setFactors s4 (ft, f.2) new
  else s

/-- P_out in µW: 2 × 0.25 Ω × I² over the channels, or 2.0 W without current diagnostics (R171). DESIGN CHOICE (log entry 193): each
channel's term is truncated to 1 µW. -/
def pOut (s : State) : Nat :=
  if fldGet s Reg.SOUT_CFG F.SOUT_CFG_IDIAG = 1 then
    (List.range 24).foldl (fun a c =>
      let i := fldGet s (Reg.SOUT_CH_MEAS c) F.SOUT_CH_MEAS_I
      a + i * i / 2) 0
  else 2000000

/-- P_allow in µW (R171). -/
def pAllow (s : State) : Int :=
  (fldGet s Reg.LMP_PLIMIT F.LMP_PLIMIT_P * 100000 : Nat) - (5500000 : Int) - (pOut s : Nat)

/-- What the supervision set measures for P_lamp (R171): VLED and supply current of the LED banks, the average voltage and current of each
string, in mV and mA, and the losses of column sinks and scan switches in µW. -/
structure LampPower where
  vled0 : Nat
  ivled0 : Nat
  vled1 : Nat
  ivled1 : Nat
  strs : List (Nat × Nat)
  sinks : Nat
  scans : Nat
  deriving DecidableEq, Repr

/-- The measurement from VLED and supply current by LED bank, and voltage and current by string. -/
def lampPower (banks strs : List (Nat × Nat)) (sinks scans : Nat) : LampPower :=
  ⟨(banks.getD 0 (0, 0)).1, (banks.getD 0 (0, 0)).2, (banks.getD 1 (0, 0)).1, (banks.getD 1 (0, 0)).2, strs, sinks, scans⟩

/-- P_lamp in µW: VLED × I_VLED − Σ V_s × I_s of each bank, the column sink losses and the scan switch losses (R171). -/
def pLamp (m : LampPower) : Nat :=
  (m.vled0 * m.ivled0 + m.vled1 * m.ivled1 - (m.strs.map fun v => v.1 * v.2).foldl (· + ·) 0) + m.sinks + m.scans

/-- POWER_DERATE_TICK (R171). -/
def powerTick (s0 : State) (m : LampPower) : State :=
  let s := { s0 with lmp := { s0.lmp with vled0 := m.vled0, vled1 := m.vled1 } }
  let p := pLamp m / 1000
  if decide (s.tb % 100000 = 0) && started s.dev then
    let a := pAllow s
    let lamp : Int := (pLamp m : Nat)
    let s1 := fldSet (fldSet s Reg.LMP_PLOSS F.LMP_PLOSS_LAMP p) Reg.LMP_PLOSS F.LMP_PLOSS_ALLOW (a / 1000).toNat
    let f := storedFactors s1
    let fp := if a < lamp then (f.2.1 * (a - 50000).toNat) / pLamp m
              else if lamp < a - 150000 then min 0x8000 (f.2.1 + 0x80) else f.2.1
    setFactors s1 (f.1, fp, f.2.2) 0
  else s0

/-- fbank after one tick with output current `i` in mA; the rounding of the product is left open (R171). -/
def bankFactor (f i : Nat) : Nat :=
  if 3000 < i then openDiv (f * 2950) i else if i < 2850 then min 0x8000 (f + 0x80) else f

/-- BANK_DERATE_TICK: average output currents of the two LED banks, mA (R171). -/
def bankTick (s : State) (i0 i1 : Nat) : State :=
  if decide (s.tb % 100000 = 0) && started s.dev then
    let s1 := fldSet (fldSet s Reg.LMP_BANK_I F.LMP_BANK_I_B0 i0) Reg.LMP_BANK_I F.LMP_BANK_I_B1 i1
    let f := storedFactors s1
    setFactors s1 (f.1, f.2.1, bankFactor f.2.2.1 i0, bankFactor f.2.2.2 i1) 0
  else s

/-! ## Matrix (R175) -/

def mtxLines (s : State) : Nat := fldGet s Reg.LMP_MTX_CFG F.LMP_MTX_CFG_NLINES + 1
def mtxSlot (s : State) : Nat := fldGet s Reg.LMP_MTX_CFG F.LMP_MTX_CFG_SLOT
/-- SLOT + BLANK in ticks. -/
def mtxLineTicks (s : State) : Nat := (mtxSlot s + fldGet s Reg.LMP_MTX_CFG F.LMP_MTX_CFG_BLANK) * 100
def mtxFrameTicks (s : State) : Nat := mtxLines s * mtxLineTicks s

/-- The matrix scans (`LMP_STATUS.MTX_RUN`). -/
def mtxRuns (s : State) : Bool :=
  lampsRun s && fldGet s Reg.LMP_MTX_CFG F.LMP_MTX_CFG_EN = 1 && !s.lmp.mtxBlank && !s.pwr.deferM &&
    fldGet s Reg.BIST_UNUSABLE F.BIST_UNUSABLE_MTX = 0

/-- Latched column current of column `c` in mA, at most 60, as applied under the factor latched with it (R171, R175). -/
def mtxColumn (s : State) (c : Nat) : Nat :=
  let w := (tabGet 0 s.lmp.mtx (Reg.LMP_MTX_COL (c / 4))).toNat
  derated (min 60 (w / 2 ^ (8 * (c % 4)) % 256)) (fldGet s Reg.LMP_MTX_CFG F.LMP_MTX_CFG_MFLOOR) s.lmp.mtxFac

/-- Latched duty of dot (l, c). -/
def mtxDot (s : State) (l c : Nat) : Nat :=
  (tabGet 0 s.lmp.mtx (Reg.LMP_MTX_DOT (8 * l + c / 4))).toNat / 2 ^ (8 * (c % 4)) % 256

/-- Where the matrix stands in its frame (R175): in the slot of a line for so many ticks, with the columns driven to VPRE after it, with
them released, or at rest. -/
inductive MtxPhase where
  | slot (line ticks : Nat)
  | preCharge
  | released
  | rest
  deriving DecidableEq, Repr

/-- The phase now. DESIGN CHOICE (log entry 191): with BLANK above 1 µs too, for which R175 has no table, the pre-charge ends 0.1 µs
before the next slot. -/
def mtxPhase (s : State) : MtxPhase :=
  match s.lmp.mtxFrame with
  | none => .rest
  | some f =>
    let p := s.tb - f
    let o := p % mtxLineTicks s
    if !mtxRuns s || decide (mtxFrameTicks s ≤ p) then .rest
    else if o < mtxSlot s * 100 then .slot (p / mtxLineTicks s) o
    else if o + 10 < mtxLineTicks s then .preCharge
    else .released

/-- `SCNll` of line `l` is on. -/
def scnOn (s : State) (l : Nat) : Bool :=
  match mtxPhase s with
  | .slot k _ => k = l && !onDummies s
  | _ => false

/-- `COLcc` of column `c` sinks its current: for dot duty / 256 × SLOT from the start of each line slot. -/
def colSinks (s : State) (c : Nat) : Bool :=
  match mtxPhase s with
  | .slot k o => !onDummies s && decide (o * 256 < mtxDot s k c * (mtxSlot s * 100)) && decide (0 < mtxColumn s c)
  | _ => false

/-- A frame starts: marked values and the factor latch, and the line to measure advances (R175, R203). -/
def frameLatch (s : State) : State :=
  let line := if s.lmp.mtxFrame = none then 0 else (s.lmp.mtxLine + 1) % mtxLines s
  let f := factors s
  let l1 := { s.lmp with mtxFrame := some s.tb, mtxLine := line, mtxFac := min f.1 f.2.1 }
  match takeNext s.tb s.lmp.mtxNext with
  | (some v, rest) => { s with lmp := { l1 with mtx := v, mtxNext := rest } }
  | (none, _) => { s with lmp := l1 }

/-- Now is a frame start. -/
def atFrameStart (s : State) : Bool :=
  fldGet s Reg.LMP_MTX_CFG F.LMP_MTX_CFG_EN = 1 && decide (s.tb % mtxFrameTicks s = 0)

end Sys2Proof.Machine
end

