-- ==== Sys2Proof/Machine/Rebase.lean ====
section
/-!
DEFINITION. A step of TB (R230, R343): the instants that the blocks have noted in TB are moved with it, so that running times, windows
and dead-lines keep their lengths. Stamps that software or the partner reads keep the value they were given.
-/
namespace Sys2Proof.Machine

/-- An instant after TB has been moved by `d` ticks; nothing lies before TB 0. -/
def shiftTb (d : Int) (t : Nat) : Nat := ((t : Int) + d).toNat

def shiftOpt (d : Int) (t : Option Nat) : Option Nat := t.map (shiftTb d)

/-- A table whose entries are moved; one that comes to the default is unlisted. -/
def shiftTab {α : Type} [DecidableEq α] (dflt : α) (f : α → α) (t : Tab α) : Tab α :=
  t.filterMap fun p => if f p.2 = dflt then none else some (p.1, f p.2)

def shiftFio (d : Int) (x : Fio) : Fio :=
  { x with
    srcs := shiftTab srcSt0 (fun v => { v with win := v.win.map fun w => (shiftTb d w.1, shiftTb d w.2) }) x.srcs
    exit0 := shiftTb d x.exit0, exit1 := shiftTb d x.exit1, slice := x.slice.map fun v => (v.1, shiftTb d v.2) }

def shiftCh (d : Int) (x : ChSt) : ChSt :=
  { x with
    faultAt := shiftTb d x.faultAt, changed := shiftTb d x.changed, mask := shiftOpt d x.mask, cmpFrom := shiftTb d x.cmpFrom
    pulse := shiftOpt d x.pulse, hold := shiftOpt d x.hold }

/-- DESIGN CHOICE (log entry 164): the times of running blocks stay as the cairn and the snapshots hold them, since R71, R84, R91 and R93
state them in values of scan starts and time stamps; the running time shown (R103) jumps with TB. -/
def shiftSle (d : Int) (x : Sle) : Sle :=
  { x with
    recov := x.recov.map fun r => { r with at_ := shiftTb d r.at_ }
    lastStart := shiftOpt d x.lastStart, spareTest := shiftOpt d x.spareTest
    misHist := x.misHist.map fun m => (m.1, m.2.1, shiftTb d m.2.2) }

def shiftStr (d : Int) (x : StrSt) : StrSt :=
  { x with
    next := x.next.map fun v => (shiftTb d v.1, v.2), dirty := shiftOpt d x.dirty, edge := shiftOpt d x.edge
    onEnd := shiftOpt d x.onEnd, lastProbe := shiftOpt d x.lastProbe, confirm := shiftOpt d x.confirm
    recheck := shiftOpt d x.recheck }

def shiftLmp (d : Int) (x : Lmp) : Lmp :=
  { x with
    strs := shiftTab strSt0 (shiftStr d) x.strs, engNext := x.engNext.map fun v => (v.1, shiftTb d v.2.1, v.2.2)
    engWas := x.engWas.map fun v => (v.1, shiftTb d v.2.1, v.2.2)
    mtxNext := x.mtxNext.map fun v => (shiftTb d v.1, v.2), mtxDirty := shiftOpt d x.mtxDirty, mtxFrame := shiftOpt d x.mtxFrame
    facAt := shiftTb d x.facAt }

def shiftAsp (d : Int) (x : Asp) : Asp :=
  { x with
    fifo := x.fifo.map fun v => { v with at_ := shiftTb d v.at_ }
    sleNext := x.sleNext.map fun v => (shiftTb d v.1, v.2)
    heads := shiftTab headSt0 (fun v => { v with selAt := shiftTb d v.selAt }) x.heads }

/-- A port: the stamps of waiting TIME frames count from 1 in ns. -/
def shiftPort (d : Int) (x : PortSt) : PortSt :=
  let ns := fun (t : Nat) => ((t : Int) + 10 * d).toNat
  { x with
    busy := shiftTb d x.busy, queue := x.queue.map fun i => if i.stamp = 0 then i else { i with stamp := max 1 (ns i.stamp) }
    rxEnd := ns x.rxEnd, lastValid := shiftOpt d x.lastValid, good := shiftOpt d x.good, dreqAt := ns x.dreqAt }

def shiftRope (d : Int) (x : Rope) : Rope :=
  { x with
    ports := shiftTab portSt0 (shiftPort d) x.ports, subs := shiftTab subSt0 (fun v => { v with last := shiftTb d v.last }) x.subs
    winEnd := shiftTb d x.winEnd, outAt := shiftTb d x.outAt, lostLock := shiftTb d x.lostLock, lastSync := shiftOpt d x.lastSync
    firstUp := shiftOpt d x.firstUp, slewAt := shiftTb d x.slewAt, syncAt := shiftOpt d x.syncAt }

def shiftBly (d : Int) (x : Bly) : Bly :=
  { x with
    lastValid := shiftTb d x.lastValid, quiet := shiftTb d x.quiet, arb := shiftOpt d x.arb, holdEnd := shiftOpt d x.holdEnd
    diffAt := x.diffAt.map fun v => (v.1, shiftTb d v.2), sameAt := x.sameAt.map fun v => (v.1, shiftTb d v.2)
    hbAt := shiftTb d x.hbAt, resyncAt := shiftOpt d x.resyncAt, retryAt := shiftOpt d x.retryAt, swapWait := shiftOpt d x.swapWait
    waitFrom := shiftTb d x.waitFrom, busy := shiftTb d x.busy, outAt := shiftTb d x.outAt }

def shiftOd (d : Int) (x : Od) : Od :=
  { x with
    inbox := x.inbox.map fun v => { v with at_ := shiftTb d v.at_ }
    table := x.table.map fun v => { v with seen := shiftTb d v.seen, applied := shiftOpt d v.applied }
    sets := x.sets.map fun v => { v with opened := shiftTb d v.opened }
    waits := x.waits.map fun v => { v with at_ := shiftTb d v.at_, applied := shiftOpt d v.applied }
    lcReq := x.lcReq.map fun v => (v.1, shiftTb d v.2), misHist := x.misHist.map fun v => (v.1, shiftTb d v.2)
    mgmt := x.mgmt.map fun v => (v.1, shiftTb d v.2) }

/-- Times of a core in units of 2.5 ns. -/
def shiftAdc (d : Int) (x : AdcSt) : AdcSt :=
  let q := fun (t : Nat) => ((t : Int) + 4 * d).toNat
  let c := fun (v : Option Conv) => v.map fun y => { y with end_ := q y.end_ }
  { x with
    trigAt := shiftOpt d x.trigAt, delayEnd := q x.delayEnd, started := shiftOpt d x.started, conv := c x.conv, urg := c x.urg
    trigEvt := shiftOpt d x.trigEvt, tail := x.tail.map fun y => { y with end_ := q y.end_ } }

/-- Every instant noted in TB moves by `d`, but for those of the journal's entries, of snapshots and images, of a pair's exchange and of
commits, which name a TB of the line (R193, R249, R253, R254, R309). -/
def rebase (d : Int) (s : State) : State :=
  { s with
    jrn := { s.jrn with
      queue := s.jrn.queue.map fun e => { e with since := shiftTb d e.since }, pend := s.jrn.pend.map (shiftTb d) }
    fio := shiftFio d s.fio
    sout := { s.sout with ch := shiftTab chSt0 (shiftCh d) s.sout.ch, slice := s.sout.slice.map fun v => (v.1, shiftTb d v.2) }
    kill := { s.kill with extAt := shiftTb d s.kill.extAt }
    sle := shiftSle d s.sle
    lmp := shiftLmp d s.lmp
    asp := shiftAsp d s.asp
    rope := shiftRope d s.rope
    bly := shiftBly d s.bly
    slots := { s.slots with window := shiftOpt d s.slots.window }
    od := shiftOd d s.od
    adc := shiftTab adcSt0 (shiftAdc d) s.adc
    pwr := { s.pwr with invalidAt := shiftTb d s.pwr.invalidAt }
    ports := { s.ports with bgStart := shiftTb d s.ports.bgStart } }

end Sys2Proof.Machine
end

