-- ==== Sys2Proof/Machine/Tmr.lean ====
section
/-!
DEFINITION. Timers and the time base (R342 to R354). Counts are functions of TB: a timer keeps the count of one tick, and the
count at any later TB follows from it.
-/
namespace Sys2Proof.Machine

def tmrGet (s : State) (n : Nat) : TmrSt := tabGet tmrSt0 s.tmr n
def tmrSet (s : State) (n : Nat) (x : TmrSt) : State := { s with tmr := tabPut tmrSt0 s.tmr n x }

/-! ## Bus responses -/

/-- A bus access completes with `d`. -/
def busOk (s : State) (d : Nat) : State := { s with bus := ⟨false, d⟩ }

/-- A bus error: a read returns 0, a write has no effect (R31). -/
def busErr (s : State) : State := { s with bus := ⟨true, 0⟩ }

/-- A write that may end with a bus error. -/
def busTry (s : State) (r : Option State) : State :=
  match r with
  | some t => busOk t 0
  | none => busErr s

/-- A read of a register that clears (RC, R4, R6): the answer is the value before. -/
def rcRead (s : State) (a : Nat) : State := busOk (regSet s a 0) (regGet s a).toNat

/-! ## Counting -/

/-- PRESC: 0 means 65 536 (R353). -/
def tmrPresc (s : State) (n : Nat) : Nat :=
  let p := (regGet s (Reg.TMR_PRESC n)).toNat % 65536
  if p = 0 then 65536 else p

/-- PERIOD and CMP at a tick at TB `t`: a write in the cycle of the tick applies to the next one (R349). -/
def tmrPeriod (s : State) (n : Nat) : Nat :=
  let x := tmrGet s n
  if x.perAt = s.tb && decide (0 < s.tb) then x.perOld else (regGet s (Reg.TMR_PERIOD n)).toNat
def tmrCmp (s : State) (n : Nat) : Nat :=
  let x := tmrGet s n
  if x.cmpAt = s.tb && decide (0 < s.tb) then x.cmpOld else (regGet s (Reg.TMR_CMP n)).toNat

def tmrEn (s : State) (n : Nat) : Bool := fldGet s (Reg.TMR_CFG n) F.TMR_CFG_EN = 1
def tmrAligned (s : State) (n : Nat) : Bool := fldGet s (Reg.TMR_CFG n) F.TMR_CFG_ALIGN = 1

/-- The TB-derived value c at TB `t` (R347). -/
def tmrAlign (s : State) (n t : Nat) : Nat :=
  let p := tmrPresc s n
  let ph := (regGet s (Reg.TMR_PHASE n)).toNat
  (((t / p : Nat) : Int) - (ph : Nat)) % ((tmrPeriod s n + 1 : Nat) : Int) |>.toNat

/-- The first tick after TB `t`. -/
def tmrNext (s : State) (n t : Nat) : Nat := (t / tmrPresc s n + 1) * tmrPresc s n

/-- The start after EN and the load of an aligned counter happen at their ticks (R347). -/
def tmrSync (s : State) (n : Nat) : State :=
  let x := tmrGet s n
  let t := tmrNext s n x.at_
  if tmrEn s n && decide (t ≤ s.tb) then
    if x.start then
      tmrSet s n { x with cnt := if tmrAligned s n then tmrAlign s n t else 0, at_ := t, how := 0, start := false, load := false }
    else if x.load then
      fldSet (tmrSet s n { x with cnt := tmrAlign s n t, at_ := t, how := 0, load := false }) (Reg.TMR_STAT n)
        F.TMR_STAT_RESYNC 1
    else s
  else s

/-- The count after synchronising, before any return to 0. -/
def tmrRaw (s : State) (n : Nat) : Nat :=
  let x := tmrGet s n
  if tmrEn s n && !x.start then x.cnt + (s.tb / tmrPresc s n - x.at_ / tmrPresc s n) else x.cnt

/-- `TMR_CNTn`. -/
def tmrCount (s : State) (n : Nat) : Nat := tmrRaw (tmrSync s n) n % 2 ^ 32

/-- Now is a tick of timer `n`, later than the tick its count was taken at. -/
def tmrTick (s : State) (n : Nat) : Bool :=
  let x := tmrGet s n
  tmrEn s n && !x.start && decide (s.tb % tmrPresc s n = 0) && decide (x.at_ < s.tb)

/-- A tick forces 0 here: PERIOD was set below the count before it (R349). -/
def tmrForced (s : State) (n : Nat) : Bool :=
  match (tmrGet s n).late with
  | some w => tmrTick s n && decide (w < s.tb)
  | none => false

/-- This tick returns the counter to 0, from PERIOD or forced. -/
def tmrReturns (s : State) (n : Nat) : Bool := tmrTick s n && (tmrRaw s n = tmrPeriod s n + 1 || tmrForced s n)

/-- TIMER_PERIOD_EVENT (R346 to R349): this tick returns the counter from PERIOD to 0, or forces it. -/
def tmrPeriodEvent (s0 : State) (n : Nat) : State :=
  let s := tmrSync s0 n
  let x := tmrGet s n
  let late := tmrForced s n
  if tmrReturns s n then
    let c := tmrAlign s n s.tb
    let resync := tmrAligned s n && !(c = 0)
    let a := Reg.TMR_STAT n
    let s1 := tmrSet s n { x with cnt := 0, at_ := s.tb, how := if late then 2 else 1, load := resync, late := if late then none else x.late }
    let s2 := fldSet s1 a F.TMR_STAT_PERIOD_EVT 1
    let s3 := if late then fldSet s2 a F.TMR_STAT_LATE_PERIOD 1 else s2
    if fldGet s3 (Reg.TMR_CFG n) F.TMR_CFG_MODE = 1 then fldSet s3 (Reg.TMR_CFG n) F.TMR_CFG_EN 0 else s3
  else s

/-- Counting has brought the counter to CMP at this tick. With CMP = 0, or CMP = PERIOD, the event falls on the tick of a period
event (R346). -/
def tmrHit (s : State) (n : Nat) : Bool :=
  let x := tmrGet s n
  let c := tmrCmp s n
  let p := tmrPeriod s n
  if x.at_ = s.tb && x.how ≠ 0 then c = 0 || (c = p && x.how = 1)
  else tmrTick s n && tmrRaw s n = c && decide (c < p)

/-- TIMER_COMPARE_EVENT (R346, R352); on the tick of a period event it follows that one. -/
def tmrCompareEvent (s0 : State) (n : Nat) : State :=
  let s := tmrSync s0 n
  if tmrHit s n then fldSet (tmrSet s n { tmrGet s n with evtAt := some s.tb }) (Reg.TMR_STAT n) F.TMR_STAT_CMP_EVT 1 else s

/-- A write of `TMR_CFGn` (R347, R349, R350): TIMER_ENABLE when it sets EN. None: bus error. -/
def tmrCfgWrite (s0 : State) (n : Nat) (w0 : Word) : Option State :=
  let s := tmrSync s0 n
  let a := Reg.TMR_CFG n
  let w := w0 &&& 0xFFE00000#32
  let old := regGet s a
  let x := tmrGet s n
  if tmrEn s n then
    (if setF w F.TMR_CFG_EN 1 ≠ old then none
     else if getF w F.TMR_CFG_EN = 1 then some s
     else some (regSet (tmrSet s n { x with
       cnt := tmrRaw s n, at_ := s.tb, how := 0, start := false, load := false, late := none }) a w))
  else if getF w F.TMR_CFG_EN = 0 then some (regSet s a w)
  else if 0x14 < getF w F.TMR_CFG_CAPSRC ||
      (getF w F.TMR_CFG_ALIGN = 1 && decide ((regGet s (Reg.TMR_PERIOD n)).toNat < (regGet s (Reg.TMR_PHASE n)).toNat)) then
    some (fldSet (regSet s a (setF w F.TMR_CFG_EN 0)) (Reg.TMR_STAT n) F.TMR_STAT_CFG_ERR 1)
  else some (regSet (tmrSet s n { x with at_ := s.tb, how := 0, start := true, load := false, late := none }) a w)

/-- TMR_PERIOD_WRITE (R347, R349). At a tick that returns the counter to 0 the present count is 0, and a return already forced stays. -/
def tmrPeriodWrite (s0 : State) (n : Nat) (v : Word) : State :=
  let s := tmrSync s0 n
  let x := tmrGet s n
  let old := (regGet s (Reg.TMR_PERIOD n)).toNat
  let s1 := regSet s (Reg.TMR_PERIOD n) v
  if tmrEn s n then
    let late := if tmrForced s n then x.late
      else if !x.start && !tmrReturns s n && decide (v.toNat < tmrRaw s n) then some s.tb else none
    let s2 := tmrSet s1 n { x with late := late, perAt := s.tb, perOld := if x.perAt = s.tb then x.perOld else old }
    if tmrAligned s n && decide (v.toNat < (regGet s (Reg.TMR_PHASE n)).toNat) then
      fldSet s2 (Reg.TMR_STAT n) F.TMR_STAT_PHASE_WRAP 1
    else s2
  else s1

/-- A write of CMP. -/
def tmrCmpWrite (s0 : State) (n : Nat) (v : Word) : State :=
  let s := tmrSync s0 n
  let x := tmrGet s n
  let old := if x.cmpAt = s.tb then x.cmpOld else (regGet s (Reg.TMR_CMP n)).toNat
  regSet (tmrSet s n { x with cmpAt := s.tb, cmpOld := old }) (Reg.TMR_CMP n) v

/-- A write of PRESC or PHASE at address `a`: refused while the timer runs if it changes the value (R349). -/
def tmrStillWrite (s : State) (n a : Nat) (v : Word) : Option State :=
  if tmrEn s n && regGet s a ≠ v then none else some (regSet s a v)

/-! ## Capture -/

/-- The pin of GPIO source `src` has the level after its edge (R440). -/
def pinEdge (s : State) (src : Nat) (rising : Bool) : State :=
  if decide (1 ≤ src) && decide (src ≤ 0x10) then { s with ports := { s.ports with gpio := setBitN s.ports.gpio (src - 1) rising } }
  else s

/-- The source that CAPSRC selects has an event now (R350): an edge at a pin, a bank boundary, a frame start or the arrival of a SYNC. -/
def captureSource (s : State) (src : Nat) : Bool :=
  if src = 0 then false
  else if src ≤ 0x10 then true
  else if src = 0x11 || src = 0x12 then atBankBoundary s (src - 0x11)
  else if src = 0x13 then atFrameStart s
  else s.rope.syncAt = some s.tb

/-- TIMER_CAPTURE (R350): an edge of the selected source; `rising` its direction. Edges of one TB tick are one capture. -/
def tmrCapture (s0 : State) (n : Nat) (rising : Bool) : State :=
  let cfg := regGet s0 (Reg.TMR_CFG n)
  let edge := getF cfg F.TMR_CFG_CAPEDGE
  let src := getF cfg F.TMR_CFG_CAPSRC
  let s := tmrSync (pinEdge s0 src rising) n
  if tmrEn s n && captureSource s src && (edge = 3 || edge = (if rising then 1 else 2)) && !((tmrGet s n).capAt = some s.tb) then
    let v := if getF cfg F.TMR_CFG_CAPSEL = 1 then s.tb else tmrCount s n
    let a := Reg.TMR_STAT n
    let s0 := tmrSet s n { tmrGet s n with capAt := some s.tb }
    let s1 := regSet s0 (Reg.TMR_CAP n) (BitVec.ofNat 32 v)
    let s2 := if fldGet s1 a F.TMR_STAT_NEW = 1 then fldSet s1 a F.TMR_STAT_OVR 1 else s1
    fldSet s2 a F.TMR_STAT_NEW 1
  else s

/-- CAPTURE_READ: the read of `TMR_CAPn` clears NEW (R350). -/
def captureRead (s : State) (n : Nat) : State :=
  busOk (fldSet s (Reg.TMR_STAT n) F.TMR_STAT_NEW 0) (regGet s (Reg.TMR_CAP n)).toNat

/-- `TMR_STATn` as read: RUN and CMP_OUT follow the timer. -/
def tmrStat (s : State) (n : Nat) : Word :=
  let w := setF (regGet s (Reg.TMR_STAT n)) F.TMR_STAT_RUN (b2n (tmrEn s n && !(tmrGet s n).start))
  setF w F.TMR_STAT_CMP_OUT (b2n (decide ((regGet s (Reg.TMR_PERIOD n)).toNat < (regGet s (Reg.TMR_CMP n)).toNat)))

/-! ## The time base -/

/-- A timer keeps its count over a TB step to `t`; its ticks lie on the new grid. -/
def tmrRebase (t : Nat) (s0 : State) (n : Nat) : State :=
  let s := tmrSync s0 n
  let x := tmrGet s n
  let d := (t : Int) - (s.tb : Int)
  let y := { x with perAt := shiftTb d x.perAt, cmpAt := shiftTb d x.cmpAt, capAt := shiftOpt d x.capAt,
                    late := shiftOpt d x.late, evtAt := shiftOpt d x.evtAt }
  if tmrEn s n then tmrSet s n { y with cnt := tmrRaw s n, at_ := if x.start then t else t / tmrPresc s n * tmrPresc s n }
  else if x = tmrSt0 then s
  else tmrSet s n y

/-- TB_STEP (R343): TB is loaded with `t`; the step is counted and journaled. Running times keep their lengths. -/
def stepTb (s : State) (t : Nat) : State :=
  let s1 := rebase ((t : Int) - (s.tb : Int)) ((List.range 16).foldl (tmrRebase t) s)
  let s2 := fldBump s1 Reg.TMR_TB_STAT F.TMR_TB_STAT_STEPS 1
  log { s2 with tb := t } (openCode 9 0) 0 0 0

/-- `TMR_TB_STAT` as read. -/
def tbStat (s : State) : Word :=
  let w := setF (regGet s Reg.TMR_TB_STAT) F.TMR_TB_STAT_LOCKED (fldGet s Reg.ROPE_STATUS F.ROPE_STATUS_TIME_LOCKED)
  setF w F.TMR_TB_STAT_SLEWING (b2n (s.rope.slew ≠ 0 && fldGet s Reg.ROPE_STATUS F.ROPE_STATUS_TIME_LOCKED = 1))

end Sys2Proof.Machine
end

