-- ==== Sys2Proof/Machine/Adc.lean ====
section
/-!
DEFINITION. The converters (R321 to R340): result codes, the sequencers, urgent conversions, and the cores held for
supervision (R25, R26, R339). Inputs are measured in nV, nA and n°C; times are kept in units of 2.5 ns, a fifth of an ADC
clock and a quarter of a TB tick.
-/
namespace Sys2Proof.Machine

def adcGet (s : State) (n : Nat) : AdcSt := tabGet adcSt0 s.adc n
def adcSet (s : State) (n : Nat) (x : AdcSt) : State := { s with adc := tabPut adcSt0 s.adc n x }

/-! ## Ownership -/

/-- BIST marked the core unusable (R26, R382). -/
def adcUnusable (s : State) (n : Nat) : Bool := bitN (fldGet s Reg.BIST_UNUSABLE F.BIST_UNUSABLE_ADC) n

/-- The supervision set: the first two usable cores in the order of R26. -/
def supvSet (s : State) : List Nat := ([2, 3, 1, 0].filter fun n => !adcUnusable s n).take 2

/-- A holding condition of R25, R55 or R339: lamp proving, current diagnostics, the leakage watch, a lamp stage or the matrix. -/
def supvWanted (s : State) : Bool :=
  provingOn s || fldGet s Reg.SOUT_CFG F.SOUT_CFG_IDIAG = 1 || fldGet s Reg.FIO_LEAK_CFG F.FIO_LEAK_CFG_EN = 1 ||
    fldGet s Reg.LMP_MTX_CFG F.LMP_MTX_CFG_EN = 1 ||
    (List.range 32).any fun n => fldGet s (Reg.LMP_STR_CFG n) F.LMP_STR_CFG_EN = 1

/-- The core is held for supervision. -/
def adcHeld (s : State) (n : Nat) : Bool := s.supv && (supvSet s).contains n

/-- Cores held, one bit each: `ADC_STATUS.SUPV`. -/
def supvBits (s : State) : Nat := packBits (adcHeld s) 4

def adcEn (s : State) (n : Nat) : Bool := fldGet s (Reg.ADC_CFG n) F.ADC_CFG_EN = 1

/-- The pair of even core `n` is joined (R330): by ILV of an enabled core, or as the held default set (R25). An unusable core breaks
the pair (R382). -/
def adcJoined (s : State) (n : Nat) : Bool :=
  (adcEn s n && fldGet s (Reg.ADC_CFG n) F.ADC_CFG_ILV = 1 && !adcHeld s n && !adcUnusable s (n + 1)) ||
    (adcHeld s n && adcHeld s (n + 1))

/-- The core is the odd half of a joined pair. -/
def adcSlave (s : State) (n : Nat) : Bool := n % 2 = 1 && adcJoined s (n - 1)

/-- A core starts to be held or returns: its sequencer is idle, its FIFO empty and its registers at reset (R339). -/
def adcReturn (s : State) (n : Nat) : State :=
  let own := fun p : Nat × Word => decide (Reg.ADC_CFG n ≤ p.1) && decide (p.1 < Reg.ADC_CFG n + 0x400)
  adcSet { s with regs := s.regs.filter fun p => !own p } n adcSt0

/-- The holding conditions have changed: cores are taken or return, and the reassignment is journaled (decision 9, R319). -/
def supvSync (s : State) : State :=
  let w := supvWanted s
  if w = s.supv then s
  else if w then
    let s1 := { (supvSet s).foldl (fun t n => adcSet t n adcSt0) s with supv := true }
    log s1 0xC001 9 0 (supvBits s1)
  else
    let s1 := { (supvSet s).foldl adcReturn s with supv := false }
    log s1 0xC001 9 0 0

/-! ## Results -/

/-- Kind and full scale of an entry at ×1, and the offset of its zero (R322). -/
def adcScale (mux : Nat) : Bool × Nat × Nat :=
  let v := fun k : Nat => k * 100000000
  if mux < 0x20 then (false, v 4, 0)
  else if mux < 0x40 then (true, v 400, 0)
  else if mux < 0x58 then (false, v 25, 0)
  else if mux < 0x98 then (false, v 400, 0)
  else if mux < 0xA0 then (false, 80000000, 0)
  else if mux < 0xA8 then (false, v 18, 0)
  else if mux < 0xAC then (true, v 18, 0)
  else if mux < 0xB0 then (false, v 400, 0)
  else if mux < 0xB2 then (false, v 40, 0)
  else if mux = 0xB2 then (false, v 160, 0)
  else if mux = 0xB3 then (false, v 12, 0)
  else if mux = 0xB4 || mux = 0xB6 then (false, v 24, 0)
  else if mux = 0xB5 || mux = 0xB7 then (false, v 48, 0)
  else if mux < 0xBC then (false, v 2500, v 700)
  else if mux < 0xC0 then (false, v 18, 0)
  else (false, v 320, 0)

/-- Result code and OVR of input `v` at gain 2^g (R324, R325, R327). -/
def adcCode (mux g : Nat) (v : Int) : Int × Bool :=
  let sc := adcScale mux
  let fs : Int := sc.2.1
  let x := (v + sc.2.2) * (2 ^ g : Nat)
  if sc.1 then
    let c := x * 8192 / fs
    (if c < -8192 then -8192 else if 8191 < c then 8191 else c, decide (x < -fs) || decide (fs < x))
  else
    let c := x * 16384 / fs
    (if c < 0 then 0 else if 16383 < c then 16383 else c, decide (x < 0) || decide (fs < x))

/-- The 16-bit data field (R326). -/
def adcData (left : Bool) (c : Int) : Nat := toTwos 16 (if left then 4 * c else c)

/-- The result word (R328). -/
def adcWord (mux idx : Nat) (left : Bool) (r : Int × Bool) : Word :=
  BitVec.ofNat 32 (b2n r.2 * 2 ^ 31 + mux % 512 * 2 ^ 22 + idx % 64 * 2 ^ 16 + adcData left r.1)

/-- Request words in the step-entry layout. -/
def adcReq (mux gain sample : Nat) : Word := BitVec.ofNat 32 (sample % 256 * 2 ^ 16 + gain % 4 * 2 ^ 9 + mux % 512)
def reqMux (w : Word) : Nat := getF w F.ADC_STEP_MUX
def reqGain (w : Word) : Nat := getF w F.ADC_STEP_GAIN
def reqSample (w : Word) : Nat := getF w F.ADC_STEP_SAMPLE + 2

/-- The result of a conversion. -/
def convWord (c : Conv) (v : Int) : Word :=
  adcWord (reqMux c.req) c.idx c.left (adcCode (reqMux c.req) (reqGain c.req) v)

/-- A result enters the FIFO; a full one discards it (R19, R22). -/
def adcPush (s : State) (n : Nat) (w : Word) : State :=
  let s1 := regSet s (Reg.ADC_LAST n) w
  let x := adcGet s1 n
  if x.fifo.length < 64 then adcSet s1 n { x with fifo := x.fifo ++ [w] }
  else fldSet s1 Reg.SYS_XING_STATUS F.SYS_XING_STATUS_ADC_OVF
    (setBitN (fldGet s1 Reg.SYS_XING_STATUS F.SYS_XING_STATUS_ADC_OVF) n true)

/-! ## The sequencer -/

def adcMode (s : State) (n : Nat) : Nat := fldGet s (Reg.ADC_CFG n) F.ADC_CFG_SEQMODE
def adcLp (s : State) (n : Nat) : Bool := fldGet s (Reg.ADC_CFG n) F.ADC_CFG_LP = 1

/-- Length of a conversion in units of 2.5 ns (R321). -/
def convTime (s : State) (n : Nat) (w : Word) : Nat := 5 * (reqSample w + (if adcLp s n then 62 else 14))

/-- The request of entry `e` of the running mode (R333, R334). -/
def entryReq (s : State) (n e : Nat) : Word :=
  if adcMode s n = 2 then regGet s (Reg.ADC_STEP n e)
  else adcReq (fldGet s (Reg.ADC_LOOP_A n e) F.ADC_LOOP_A_MUX) (fldGet s (Reg.ADC_CFG n) F.ADC_CFG_GAIN)
    (fldGet s (Reg.ADC_CFG n) F.ADC_CFG_SAMPLE)

def entryReps (s : State) (n e : Nat) : Nat :=
  if adcMode s n = 2 then 1 else fldGet s (Reg.ADC_LOOP_A n e) F.ADC_LOOP_A_REPEAT + 1
def entryDelay (s : State) (n e : Nat) : Nat :=
  if adcMode s n = 2 then 0 else fldGet s (Reg.ADC_LOOP_B n e) F.ADC_LOOP_B_DELAY
def lastEntry (s : State) (n : Nat) : Nat :=
  if adcMode s n = 2 then fldGet s (Reg.ADC_CFG n) F.ADC_CFG_STEPLEN else fldGet s (Reg.ADC_CFG n) F.ADC_CFG_LOOPLEN

/-- A conversion is running on the core. -/
def adcConverting (s : State) (n : Nat) : Bool :=
  let x := adcGet s n
  x.conv.isSome || x.urg.isSome || !x.tail.isEmpty

/-- The sequencer's conversion of entry `e` starts at time `t`. -/
def convStart (s : State) (n e t : Nat) : Conv :=
  let w := entryReq s n e
  ⟨t + convTime s n w, w, e, fldGet s (Reg.ADC_CFG n) F.ADC_CFG_ALIGN = 1⟩

/-- The next conversion of entry `e` is due at `t`: it starts, or waits for the running urgent one, which is counted (R337). -/
def seqStart (s : State) (n e rep t : Nat) : State :=
  let x := adcGet s n
  if adcConverting s n then
    fldBump (adcSet s n { x with phase := 2, entry := e, rep := rep, conv := none }) (Reg.ADC_CNT n) F.ADC_CNT_SEQ_WAIT 1
  else adcSet s n { x with phase := 2, entry := e, rep := rep, idx := e, conv := some (convStart s n e t) }

/-- A trigger starts the trigger delay (R335). -/
def adcDelay (s : State) (n : Nat) : State :=
  adcSet s n { adcGet s n with
    phase := 1, rep := 0, trigAt := some s.tb
    delayEnd := 4 * s.tb + 5 * fldGet s (Reg.ADC_TRIG n) F.ADC_TRIG_DELAY }

/-- The last conversion phase of the step sequence has ended, and its result is due (R334). -/
def adcSeqEnds (s : State) (n : Nat) : Bool :=
  let x := adcGet s n
  match x.conv with
  | some c => x.entry = lastEntry s n && decide (c.end_ ≤ 4 * s.tb)
  | none => false

/-- A trigger reaches the core (R333 to R336). In the clock in which a step sequence ends, the sequence counts as complete: its last
result is still to be delivered. -/
def adcTrigger (s : State) (n : Nat) : State :=
  let x := adcGet s n
  if !adcEn s n || adcHeld s n || adcSlave s n then s
  else if x.trigAt = some s.tb then s
  else if adcMode s n = 1 then (if x.phase = 0 then adcDelay s n else s)
  else if adcMode s n = 2 then
    (if x.phase = 0 then adcDelay s n
     else if adcSeqEnds s n then adcDelay (adcSet s n { x with conv := none, tail := x.tail ++ x.conv.toList }) n
     else fldBump (adcSet s n { x with trigAt := some s.tb }) (Reg.ADC_CNT n) F.ADC_CNT_TRIG_MISS 1)
  else s

/-- The last event up to now of a fixed schedule with this period in ticks. -/
def lastTime (s : State) (period : Nat) : Nat := s.tb - s.tb % period

/-- TB of the last event of trigger source `src` (R335, R352): a compare event, a bank boundary or a frame start. -/
def triggerSource (s : State) (src : Nat) : Option Nat :=
  if src = 0 then none
  else if src ≤ 0x10 then (tmrGet s (src - 1)).evtAt
  else if src = 0x11 || src = 0x12 then some (lastTime s (tPwm s (src - 0x11) * 100))
  else if fldGet s Reg.LMP_MTX_CFG F.LMP_MTX_CFG_EN = 1 then some (lastTime s (mtxFrameTicks s))
  else none

/-- ADC_TRIGGER: the event of the source that SRC selects reaches the core, at most 28.9 ns after it (R335); each event is one
trigger. -/
def adcTriggerEvent (s : State) (n : Nat) : State :=
  match triggerSource s (fldGet s (Reg.ADC_TRIG n) F.ADC_TRIG_SRC) with
  | some e =>
    if s.tb ≤ e + 3 && (adcGet s n).trigEvt ≠ some e then adcTrigger (adcSet s n { adcGet s n with trigEvt := some e }) n else s
  | none => s

/-- TRIGGER_DELAY_END (R335): the first sample phase starts one clock after the delay. -/
def triggerDelayEnd (s : State) (n : Nat) : State :=
  let x := adcGet s n
  if x.phase = 1 && decide (x.delayEnd ≤ 4 * s.tb) then
    seqStart (adcSet s n { x with started := some s.tb }) n 0 0 (4 * s.tb + 5)
  else s

/-- The loop entry after `e` (R333). -/
def nextEntry (s : State) (n e : Nat) : Nat := if e < lastEntry s n then e + 1 else 0

/-- ENTRY_DELAY_END (R333). -/
def entryDelayEnd (s : State) (n : Nat) : State :=
  let x := adcGet s n
  if x.phase = 3 && decide (x.delayEnd ≤ 4 * s.tb) then
    seqStart (adcSet s n { x with started := some s.tb }) n (nextEntry s n x.entry) 0 x.delayEnd
  else s

/-- A sequencer conversion that ended at `t` is followed by the next repeat, the next entry or the end (R333, R334). A joined
pair delivers two results in the time of one conversion (R330). -/
def seqNext (s : State) (n t : Nat) : State :=
  let x := adcGet s n
  let again := fun e rep =>
    let c := convStart s n e t
    let c := if adcJoined s n then { c with end_ := t + convTime s n c.req / 2 } else c
    adcSet s n { x with phase := 2, entry := e, rep := rep, idx := e, conv := some c }
  if x.rep + 1 < entryReps s n x.entry then again x.entry (x.rep + 1)
  else if adcMode s n = 2 then
    (if x.entry < lastEntry s n then again (x.entry + 1) 0
     else adcSet s n { x with phase := 0, rep := 0, conv := none })
  else
    let d := entryDelay s n x.entry
    if d = 0 then again (nextEntry s n x.entry) 0
    else adcSet s n { x with phase := 3, rep := 0, conv := none, delayEnd := t + 5 * d }

/-- The waiting sequencer conversion starts when the urgent one has ended (R337). -/
def seqResume (s : State) (n t : Nat) : State :=
  let x := adcGet s n
  if x.phase = 2 && x.conv = none && x.tail.isEmpty then adcSet s n { x with idx := x.entry, conv := some (convStart s n x.entry t) }
  else s

/-- CONVERSION_DONE (R321, R328, R337, R339): the running conversion of core `n` ends on input `v`. On a core held for
supervision it is one that the supervision scheduled, of entry `mux` at gain `g`. -/
def conversionDone (s : State) (n : Nat) (v : Int) (mux g : Nat) : State :=
  let x := adcGet s n
  if adcHeld s n then
    (if mux < 0x140 then
       regSet s (Reg.ADC_LAST n) (adcWord mux (Config.supvIdx n mux).toNat (fldGet s (Reg.ADC_CFG n) F.ADC_CFG_ALIGN = 1)
         (adcCode mux g v))
     else s)
  else
    match x.urg, x.tail, x.conv with
    | some c, _, _ =>
      if c.end_ ≤ 4 * s.tb then
        let s1 := adcSet s n { x with urg := none }
        let s2 := regSet (regSet s1 (Reg.ADC_URG_RES n) (convWord c v)) (Reg.ADC_LAST n) (convWord c v)
        seqResume (fldSet s2 (Reg.ADC_STAT n) F.ADC_STAT_URG_DONE 1) n c.end_
      else s
    | none, c :: rest, _ =>
      if c.end_ ≤ 4 * s.tb then seqResume (adcPush (adcSet s n { x with tail := rest }) n (convWord c v)) n c.end_
      else s
    | none, [], some c =>
      if c.end_ ≤ 4 * s.tb then seqNext (adcPush (adcSet s n { x with conv := none }) n (convWord c v)) n c.end_
      else s
    | none, [], none => s

/-! ## Writes -/

/-- SWTRIG, FLUSH: a write of `ADC_CTRLn`; none: bus error (R25, R340). -/
def swTrig (s : State) (n : Nat) : Option State := if adcHeld s n then none else some (adcTrigger s n)
def adcFlush (s : State) (n : Nat) : Option State :=
  if adcHeld s n then none else some (adcSet s n { adcGet s n with fifo := [] })

/-- An urgent conversion starts one clock after GO (R337). -/
def urgentStart (s : State) (n : Nat) (x : AdcSt) : State :=
  let w := regGet s (Reg.ADC_URG n)
  adcSet s n { x with urg := some ⟨4 * s.tb + 5 + convTime s n w, w, 0, fldGet s (Reg.ADC_CFG n) F.ADC_CFG_ALIGN = 1⟩ }

/-- ADC_URGENT_GO (R337, R338). An unusable core is removed and converts nothing (R382). A GO at the TB at which a
delay has ended comes in the clock in which the sequencer would start:
the urgent conversion runs first. -/
def urgentGo (s : State) (n : Nat) : Option State :=
  let x := adcGet s n
  if adcHeld s n || adcSlave s n then none
  else if adcUnusable s n then some s
  else if 0x140 ≤ reqMux (regGet s (Reg.ADC_URG n)) then some (fldSet s (Reg.ADC_STAT n) F.ADC_STAT_CFG_ERR 1)
  else if x.phase = 2 && x.rep = 0 && x.started = some s.tb && x.conv.isSome && x.urg = none && x.tail.isEmpty then
    some (fldBump (urgentStart s n { x with conv := none }) (Reg.ADC_CNT n) F.ADC_CNT_SEQ_WAIT 1)
  else if adcConverting s n then
    let k := fldGet s Reg.ADC_URGENT_DROP ⟨8 * n + 7, 8 * n⟩
    some (fldSet s Reg.ADC_URGENT_DROP ⟨8 * n + 7, 8 * n⟩ (satAdd 8 k 1))
  else some (urgentStart s n x)

/-- The check of a write that sets EN (R338), over the register values as written. -/
def adcCfgOk (s : State) (n : Nat) : Bool :=
  let c := regGet s (Reg.ADC_CFG n)
  let m := adcMode s n
  let es := if m = 0 then 0 else lastEntry s n + 1
  let reqs := (List.range es).map (entryReq s n)
  let p := n + 1
  reqs.all (fun w => reqMux w < 0x140) && decide (fldGet s (Reg.ADC_TRIG n) F.ADC_TRIG_SRC ≤ 0x13) &&
    (getF c F.ADC_CFG_ILV = 0 ||
      (n % 2 = 0 && getF c F.ADC_CFG_LP = 0 && getF c F.ADC_CFG_SAMPLE % 2 = 0 &&
        (!(m = 2) || reqs.all fun w => reqSample w % 2 = 0) && !adcEn s p && !adcHeld s p && !adcUnusable s p))

/-- The conversions that run as EN is cleared, in the order of their ends (R338): on a joined pair, whose halves convert half a
conversion apart (R330), the other half may have begun the next one. -/
def runningConvs (s : State) (n : Nat) : List Conv :=
  match (adcGet s n).conv with
  | none => []
  | some c =>
    let next := (adcGet (seqNext (adcSet s n { adcGet s n with conv := none }) n c.end_) n).conv
    c :: (next.filter fun d => adcJoined s n && decide (d.end_ - convTime s n d.req ≤ 4 * s.tb)).toList

/-- A write of `ADC_CFGn` (R25, R330, R332, R338): ADC_ENABLE when it sets EN, ADC_DISABLE when it clears it. None: bus error. -/
def adcCfgWrite (s : State) (n : Nat) (w : Word) : Option State :=
  let a := Reg.ADC_CFG n
  let x := adcGet s n
  if adcHeld s n || adcSlave s n || getF w F.ADC_CFG_SEQMODE = 3 then none
  else if adcEn s n then
    (if setF w F.ADC_CFG_EN 1 ≠ regGet s a then none
     else if getF w F.ADC_CFG_EN = 1 then some s
     else some (regSet (adcSet s n { x with
       phase := 0, rep := 0, trigAt := none, conv := none, tail := x.tail ++ runningConvs s n }) a w))
  else if getF w F.ADC_CFG_EN = 0 then some (regSet s a w)
  else
    let s1 := regSet s a (setF w F.ADC_CFG_EN 0)
    if adcUnusable s n || !adcCfgOk s1 n then some (fldSet s1 (Reg.ADC_STAT n) F.ADC_STAT_CFG_ERR 1)
    else
      let s2 := adcSet (regSet s a w) n { x with phase := 0, rep := 0, trigAt := none, conv := none }
      some (if getF w F.ADC_CFG_SEQMODE = 1 && fldGet s2 (Reg.ADC_TRIG n) F.ADC_TRIG_SRC = 0 then adcDelay s2 n else s2)

/-- A write of a trigger or table register at `a` of core `n` (R332). -/
def adcStillWrite (s : State) (n a : Nat) (w : Word) (table : Bool) : Option State :=
  if adcHeld s n || adcSlave s n || (adcEn s n && (table || regGet s a ≠ w)) then none else some (regSet s a w)

/-- A write of the urgent request (R25, R330). -/
def adcUrgWrite (s : State) (n : Nat) (w : Word) : Option State :=
  if adcHeld s n || adcSlave s n then none else some (regSet s (Reg.ADC_URG n) w)

/-! ## Reads -/

/-- ADC_RES_READ (R328, R339): the oldest result leaves the FIFO; a held core answers its last result. -/
def adcResRead (s : State) (n : Nat) : State :=
  if adcHeld s n then busOk s (regGet s (Reg.ADC_LAST n)).toNat
  else
    let x := adcGet s n
    match x.fifo with
    | w :: t => busOk (adcSet s n { x with fifo := t }) w.toNat
    | [] => busOk (fldSet s (Reg.ADC_STAT n) F.ADC_STAT_EMPTY_RD 1) 0xFFFFFFFF

/-- `ADC_STATn` as read. -/
def adcStat (s : State) (n : Nat) : Word :=
  let x := adcGet s n
  let l := x.fifo.length
  let w := setF (regGet s (Reg.ADC_STAT n)) F.ADC_STAT_LEVEL l
  let pair := adcSlave s n && !adcHeld s n && (adcGet s (n - 1)).conv.isSome
  let w := setF w F.ADC_STAT_BUSY (b2n (adcConverting s n || x.phase ≠ 0 || adcHeld s n || pair))
  let w := setF w F.ADC_STAT_THR (b2n (decide (fldGet s (Reg.ADC_CFG n) F.ADC_CFG_THR + 1 ≤ l)))
  setF w F.ADC_STAT_IDX x.idx

/-- `ADC_CFGn` as read: SEQMODE shows supervision (R339). -/
def adcCfgView (s : State) (n : Nat) : Word :=
  let w := regGet s (Reg.ADC_CFG n)
  if adcHeld s n then setF w F.ADC_CFG_SEQMODE 3 else w

/-- `ADC_STATUS`. -/
def adcStatus (s : State) : Word :=
  BitVec.ofNat 32 (b2n (adcJoined s 0) + 2 * b2n (adcJoined s 2) + 16 * supvBits s +
    256 * fldGet s Reg.BIST_UNUSABLE F.BIST_UNUSABLE_ADC)

end Sys2Proof.Machine
end

