-- ==== Sys2Proof/Machine/Asp.lean ====
section
/-!
DEFINITION. Heads, aspects, commits and lamp proving (R182 to R209, R317).
-/
namespace Sys2Proof.Machine

/-! ## Heads and tables -/

def headGet (s : State) (h : Nat) : HeadSt := tabGet headSt0 s.asp.heads h
def headSet (s : State) (h : Nat) (x : HeadSt) : State :=
  { s with asp := { s.asp with heads := tabPut headSt0 s.asp.heads h x } }

def headStrings (s : State) (h : Nat) : List Nat := (List.range 32).filter (headHas s h)
def fallbackOf (s : State) (h : Nat) : Nat := fldGet s (Reg.ASP_HEAD_CFG h) F.ASP_HEAD_CFG_FALLBACK
def idleOf (s : State) (h : Nat) : Nat := fldGet s (Reg.ASP_HEAD_CFG h) F.ASP_HEAD_CFG_IDLE
def pfail (s : State) (h : Nat) : Bool := bitN (regGet s Reg.ASP_HEAD_FB).toNat h
def statSrc (s : State) (h : Nat) : Nat := fldGet s (Reg.ASP_HEAD_STAT h) F.ASP_HEAD_STAT_SRC
def headStaged (s : State) (h : Nat) : Bool := fldGet s (Reg.ASP_HEAD_STAT h) F.ASP_HEAD_STAT_STAGED = 1

/-- The head that proves string `n`: an enabled head with the ASP-owned string in its map (R182, R196). -/
def headOf (s : State) (n : Nat) : Option Nat :=
  if strHostOwned s n then none else (List.range 32).find? fun h => headEn s h && headHas s h n

/-- The head that owns the matrix (R182). -/
def mtxHead (s : State) : Option Nat := (List.range 32).find? fun h => headEn s h && headMtx s h

/-- Fields of the descriptor of aspect `a` (R185). -/
def descWord (s : State) (a k : Nat) : Nat := (regGet s (Reg.ASP_ASPECT (2 * a + k))).toNat
def descHead (s : State) (a : Nat) : Nat := descWord s a 0 % 256
def descFlags (s : State) (a : Nat) : Nat := descWord s a 0 / 256 % 256
def descCount (s : State) (a : Nat) : Nat := descWord s a 0 / 65536 % 256
def descPattern (s : State) (a : Nat) : Nat := descWord s a 0 / 16777216
def descFirst (s : State) (a : Nat) : Nat := descWord s a 1 % 65536
def safetyRelevant (s : State) (a : Nat) : Bool := bitN (descFlags s a) 0

/-- The element of aspect `a` that names string `n` (R186). -/
def elementOf (s : State) (a n : Nat) : Option (Nat × Nat) :=
  if descHead s a = 0xFF then none
  else
    ((List.range (descCount s a)).map fun j =>
      ((regGet s (Reg.ASP_ELEMENT (2 * (descFirst s a + j)))).toNat,
       (regGet s (Reg.ASP_ELEMENT (2 * (descFirst s a + j) + 1))).toNat)).find? fun e => e.1 % 256 = n

/-- Run and sail word of string `n` in aspect `a`: dark where no element names it (R186, R189). -/
def aspectString (s : State) (a n : Nat) : Nat × Nat :=
  match elementOf s a n with
  | none => (0, 0x1F00)
  | some e => (e.2 / 65536 * 65536 + e.2 % 65536 % 512 * 128, e.1 / 256 % 32 * 256 + e.1 / 65536 % 256)

/-- Matrix values of aspect `a`: its pattern, or dark (R186, R189). -/
def aspectMatrix (s : State) (a : Nat) : Tab Word :=
  if descHead s a ≠ 0xFF && bitN (descFlags s a) 1 then
    let base := Reg.ASP_PATTERN (136 * (descPattern s a % 8))
    let word := fun k => regGet s (base + 4 * k)
    let cols := (List.range 8).foldl (fun t k => tabPut 0 t (Reg.LMP_MTX_COL k) (word (128 + k))) []
    (List.range 128).foldl (fun t k => tabPut 0 t (Reg.LMP_MTX_DOT k) (word k)) cols
  else []

/-! ## Choosing the aspect (R188) -/

/-- LED bank `b` is cut (R204). -/
def isCut (s : State) (b : Nat) : Bool :=
  fldGet s Reg.ASP_STATUS (if b = 0 then F.ASP_STATUS_CUT0 else F.ASP_STATUS_CUT1) = 1

/-- A string of the head lies on a cut bank: `ASP_HEAD_STATh.CUT`. -/
def headCut (s : State) (h : Nat) : Bool := (headStrings s h).any fun n => isCut s (bankOfString n)

/-- The first rule of R188 holds, with the stage faults of R204 that last. -/
def mustFallBack (s : State) (h : Nat) : Bool :=
  s.dev = .faulted || s.asp.safeHold || pfail s h || headCut s h ||
    (headStrings s h).any fun n => stageFault s n = 4 || stageFault s n = 5

/-- The operational selection in force on LED bank 0, 1 or the matrix (2). -/
def opOf (s : State) (h k : Nat) : Option Nat :=
  let x := headGet s h
  if k = 0 then x.op0 else if k = 1 then x.op1 else x.opM

/-- The choice of R188 for head `h` on bank `k` with the SLE requests `sle`: aspect and rule (`ASP_HEAD_STATh.SRC`). DEDUCED (log entry 72): 3
wherever the fallback aspect is shown. -/
def choose (s : State) (sle : List (Nat × Nat)) (h k : Nat) : Nat × Nat :=
  if mustFallBack s h then (fallbackOf s h, 3)
  else match sle.find? fun r => r.1 = h with
  | some r => if safetyRelevant s r.2 && !active s.dev then (fallbackOf s h, 3) else (r.2, 2)
  | none => match opOf s h k with
    | some a => (a, 1)
    | none => (idleOf s h, 0)

/-- Requests in force now, and the newest accepted ones (R189). -/
def promoteSle (s : State) : State :=
  match s.asp.sleNext with
  | some (t, l) => if t ≤ s.tb then { s with asp := { s.asp with sle := l, sleNext := none } } else s
  | none => s

def newestSle (s : State) : List (Nat × Nat) :=
  match s.asp.sleNext with
  | some (_, l) => l
  | none => s.asp.sle

/-! ## Staging (R189) -/

/-- Stage and mark string `n` with the values of aspect `a` where they differ from the staged ones. -/
def stageString (a start : Nat) (s : State) (n : Nat) : State :=
  let v := aspectString s a n
  if stagedRun s n = v.1 && stagedSail s n = v.2 then s
  else
    let s1 := regSet (regSet s (Reg.LMP_STR_RUN n) (BitVec.ofNat 32 v.1)) (Reg.LMP_STR_SAIL n) (BitVec.ofNat 32 v.2)
    markString s1 n v.1 v.2 start

/-- Replace the staged matrix values. -/
def setMtxStaged (s : State) (v : Tab Word) : State :=
  let s1 := { s with regs := s.regs.filter fun p => !(decide (Reg.LMP_MTX_COL 0 ≤ p.1) && decide (p.1 < Reg.LMP_RGB 0)) }
  v.foldl (fun s p => regSet s p.1 p.2) s1

/-- Stage the aspect of head `h` that the SLE requests `sle` choose on bank `k` (2: matrix). -/
def stageHead (sle : List (Nat × Nat)) (k start : Nat) (s : State) (h : Nat) : State :=
  if headEn s h then
    let a := (choose s sle h k).1
    if k = 2 then
      (if headMtx s h then
        (let v := aspectMatrix s a
         if mtxStaged s = v then s else markMatrix (setMtxStaged s v) v start)
       else s)
    else ((headStrings s h).filter fun n => bankOfString n = k).foldl (stageString a start) s
  else s

/-- Every head stages its choice on bank `k`. -/
def stageBank (s : State) (sle : List (Nat × Nat)) (k start : Nat) : State := (List.range 32).foldl (stageHead sle k start) s

/-- After an event, every head stages its choice for the next boundary (R189, R204). -/
def restage (s : State) (start : Nat) : State :=
  let sle := newestSle s
  stageBank (stageBank (stageBank s sle 0 start) sle 1 start) sle 2 start

/-! ## Dead heads (R205) -/

/-- String `n` holds a latched failure, a stage fault or a LIT stop. -/
def stringFailed (s : State) (n : Nat) : Bool :=
  fldGet s (Reg.ASP_STR_PSTAT n) F.ASP_STR_PSTAT_RESULT ≠ 0 || stageFault s n ≠ 0 || (strGet s n).stopped

/-- A lit string of the fallback aspect has failed while the head shows it. DEDUCED (log entry 72): a string of the aspect is one that
it lights. -/
def deadNow (s : State) (h : Nat) : Bool :=
  headEn s h && statSrc s h = 3 &&
    (headStrings s h).any fun n =>
      let v := aspectString s (fallbackOf s h) n
      decide (0 < v.1 / 65536) && decide (0 < v.1 % 65536) && stringFailed s n

def deadCheck (s : State) (h : Nat) : State :=
  if deadNow s h && fldGet s (Reg.ASP_HEAD_STAT h) F.ASP_HEAD_STAT_DEAD = 0 then
    log (fldSet s (Reg.ASP_HEAD_STAT h) F.ASP_HEAD_STAT_DEAD 1) 0x8004 h 0 0
  else s

def deadChecks (s : State) : State := (List.range 32).foldl deadCheck s

/-! ## Boundaries -/

/-- Values of head `h` on bank `k` (2: matrix) are marked for a later boundary. -/
def headWaits (s : State) (k h : Nat) : Bool :=
  if k = 2 then !s.lmp.mtxNext.isEmpty
  else (headStrings s h).any fun n => bankOfString n = k && !(strGet s n).next.isEmpty

/-- SHOWN and SRC of head `h` as latched at a boundary of bank `k`, which a choice of the same cycle does not reach (R165, R208); a
switch to fallback is journaled (R319). -/
def showHead (k : Nat) (s : State) (h : Nat) : State :=
  let on := if k = 2 then headMtx s h && (headStrings s h).isEmpty else (headStrings s h).any fun n => bankOfString n = k
  if headEn s h && on && !headWaits s k h then
    let c := choose s s.asp.sle h k
    let a := Reg.ASP_HEAD_STAT h
    let old := statSrc s h
    let s1 := fldSet (fldSet s a F.ASP_HEAD_STAT_SRC c.2) a F.ASP_HEAD_STAT_SHOWN c.1
    if c.2 = 3 && old ≠ 3 then log s1 0xC001 4 h c.1 else s1
  else s

/-- One more period without a measured window (R199). -/
def countPeriod (s : State) (n : Nat) : State :=
  let x := strGet s n
  strSet s n { x with idle := min 64 (x.idle + 1) }

/-- The content of commit `c` for bank `k` is in force, marked for this boundary (R193). -/
def commitContent (k : Nat) (s : State) (c : Commit) : State :=
  let s1 := c.heads.foldl (fun s v =>
    let x := headGet s v.1
    headSet s v.1 (if k = 0 then { x with op0 := some v.2 } else if k = 1 then { x with op1 := some v.2 }
                   else { x with opM := some v.2 })) s
  let s2 := (c.strs.filter fun v => bankOfString v.1 = k).foldl (fun s v => markString s v.1 v.2.1 v.2.2 s.tb) s1
  match c.mtx with
  | some v => if k = 2 then markMatrix s2 v s.tb else s2
  | none => s2

def commitDone (c : Commit) (k : Nat) : Bool := if k = 0 then c.done0 else if k = 1 then c.done1 else c.doneM
def setDone (c : Commit) (k : Nat) : Commit :=
  if k = 0 then { c with done0 := true } else if k = 1 then { c with done1 := true } else { c with doneM := true }

/-- All that the commit names has latched. -/
def commitFinished (c : Commit) : Bool :=
  (c.done0 || !c.need0) && (c.done1 || !c.need1) && (c.doneM || !c.needM) && (c.done0 || c.done1 || c.doneM)

/-- All strings that the commit names have latched; one that names none is judged by the matrix (R193). -/
def commitLatched (c : Commit) : Bool :=
  if c.need0 || c.need1 then (c.done0 || !c.need0) && (c.done1 || !c.need1) else commitFinished c

/-- Pending commits due at this boundary of bank `k` apply in order; one that is not due holds back the newer ones (R195). -/
def commitStep (k : Nat) (acc : State × List Commit × Bool) (c : Commit) : State × List Commit × Bool :=
  if commitDone c k then (acc.1, acc.2.1 ++ [c], acc.2.2)
  else if acc.2.2 || decide (acc.1.tb < c.start) then (acc.1, acc.2.1 ++ [c], true)
  else (commitContent k acc.1 c, acc.2.1 ++ [setDone c k], false)

/-- The commits that apply at this boundary of bank `k` (R193, R195); `ASP_COMMIT_LAST` follows. -/
def commitsDue (s : State) (k : Nat) : State :=
  let r := s.asp.commits.foldl (commitStep k) (s, [], false)
  let now := (s.asp.commits.zip r.2.1).filter fun p => commitLatched p.2 && !commitLatched p.1
  let s1 := { r.1 with asp := { r.1.asp with commits := r.2.1.filter fun c => !commitFinished c } }
  now.foldl (fun s p => regSet s Reg.ASP_COMMIT_LAST (BitVec.ofNat 32 p.2.num)) s1


/-- MATRIX_FRAME_START (R175, R188, R193). -/
def matrixFrameStart (s : State) : State :=
  if atFrameStart s && lampsClocked s then
    let s1 := commitsDue (promoteSle s) 2
    let s2 := frameLatch (stageBank s1 s1.asp.sle 2 s.tb)
    (List.range 32).foldl (showHead 2) s2
  else s

/-- COMMIT_APPLY at a boundary of LED bank 0 or 1, or at a frame start (2) (R193). -/
def commitApply (s : State) (k : Nat) : State :=
  if lampsClocked s && (if k = 2 then atFrameStart s else atBankBoundary s k) then
    let s1 := commitsDue s k
    if k = 2 then
      (match takeNext s1.tb s1.lmp.mtxNext with
       | (some v, rest) => { s1 with lmp := { s1.lmp with mtx := v, mtxNext := rest } }
       | (none, _) => s1)
    else computeBank (stageBank s1 s1.asp.sle k s.tb) k
  else s

/-! ## Requests, selections, commits -/

/-- ASPECT_REQUEST (R189, R191, R317): the oldest request of the FIFO. -/
def aspectRequest (s : State) : State :=
  match s.asp.fifo with
  | [] => s
  | r :: t =>
    let s1 := promoteSle { s with asp := { s.asp with fifo := t } }
    let newer := match s1.asp.sleScan with
      | some m => serialNewer r.scan m
      | none => true
    if newer then
      let start := max (r.at_ + 100) (s.tb + 1)
      restage { s1 with asp := { s1.asp with sleScan := some r.scan, sleNext := some (start, r.reqs) } } start
    else s1

/-- An aspect an operational writer may select for head `h` (R190). -/
def selectable (s : State) (h a : Nat) : Bool := descHead s a = h && !safetyRelevant s a

/-- The staged selection of head `h`. -/
def selOf (s : State) (h : Nat) : Nat := (regGet s (Reg.ASP_HEAD_SEL h)).toNat % 256

/-- HEAD_SELECT (R190): none where the write ends with a bus error. -/
def headSelect (s : State) (h a : Nat) : Option State :=
  if selectable s h a then
    let s1 := fldSet (regSet s (Reg.ASP_HEAD_SEL h) (BitVec.ofNat 32 a)) (Reg.ASP_HEAD_STAT h) F.ASP_HEAD_STAT_STAGED 1
    let x := headGet s h
    some (headSet s1 h { x with
      selAt := s.tb
      was := if x.selAt = s.tb && headStaged s h then x.was else if headStaged s h then some (selOf s h) else none })
  else none

/-- Commit `c` has applied to head `h` on a bank or on the matrix. -/
def shownBy (s : State) (c : Commit) (h : Nat) : Bool :=
  (headStrings s h).any (fun n => if bankOfString n = 0 then c.done0 else c.done1) || (headMtx s h && c.doneM)

/-- A selection applied to the heads in `m` after commit `c` has begun to apply to them is the one applied last on their other banks too
(R188). -/
def overtaken (s : State) (m : Nat) (c : Commit) : Commit :=
  { c with heads := c.heads.filter fun v => !(bitN m v.1 && headStaged s v.1 && shownBy s c v.1) }

/-- HEAD_APPLY (R188, R190). -/
def headApply (s : State) (m : Nat) : State :=
  let s1 := ((List.range 32).filter fun h => bitN m h && headStaged s h).foldl (fun s h =>
    let a := selOf s h
    headSet (fldSet s (Reg.ASP_HEAD_STAT h) F.ASP_HEAD_STAT_STAGED 0) h
      { headGet s h with op0 := some a, op1 := some a, opM := some a }) s
  restage { s1 with asp := { s1.asp with commits := s1.asp.commits.map (overtaken s m) } } (s.tb + 1)

/-- The staged selection of head `h` that a commit takes: a write of the same cycle is not part of it, what it replaced is (R191,
R193). -/
def commitSel (s : State) (h : Nat) : Option Nat :=
  if !headStaged s h then none else if (headGet s h).selAt < s.tb then some (selOf s h) else (headGet s h).was

def commitHeads (s : State) : List (Nat × Nat) :=
  (List.range 32).filterMap fun h => (commitSel s h).map fun a => (h, a)

/-- The values of the host-owned string `n`, staged and not yet marked, that a commit takes (R191, R193). -/
def commitVals (s : State) (n : Nat) : Option (Nat × Nat) :=
  if !strHostOwned s n then none
  else match (strGet s n).dirty with
  | some t => if t < s.tb then some (stagedRun s n, stagedSail s n) else (strGet s n).was
  | none => none

def commitStrings (s : State) : List (Nat × Nat × Nat) :=
  (List.range 32).filterMap fun n => (commitVals s n).map fun v => (n, v.1, v.2)

/-- The host-owned matrix values, staged and not yet marked, that a commit takes (R191, R193). -/
def commitMatrix (s : State) : Option (Tab Word) :=
  if !mtxHostOwned s then none
  else match s.lmp.mtxDirty with
  | some t => if t < s.tb then some (mtxStaged s) else s.lmp.mtxWas
  | none => none

/-- The commit as accepted now, with its snapshot (R193). DESIGN CHOICE (log entry 161): a matrix that is not enabled has no frame start
and is not waited for. -/
def newCommit (s : State) (n ta : Nat) : Commit :=
  let hs := commitHeads s
  let ss := commitStrings s
  let names := fun b => hs.any (fun v => (headStrings s v.1).any fun k => bankOfString k = b) ||
    ss.any (fun v => bankOfString v.1 = b)
  { num := n, start := max (ta + 1) (s.tb + 200), heads := hs, strs := ss, mtx := commitMatrix s,
    need0 := names 0, need1 := names 1,
    needM := fldGet s Reg.LMP_MTX_CFG F.LMP_MTX_CFG_EN = 1 &&
      ((commitMatrix s).isSome || hs.any (fun v => headMtx s v.1)),
    done0 := false, done1 := false, doneM := false }

/-- What the snapshot holds leaves staging; a write of the same cycle stays (R191, R193). -/
def clearStaging (s : State) (c : Commit) : State :=
  let s1 := c.heads.foldl (fun s v =>
    if (headGet s v.1).selAt < s.tb then fldSet s (Reg.ASP_HEAD_STAT v.1) F.ASP_HEAD_STAT_STAGED 0
    else headSet s v.1 { headGet s v.1 with was := none }) s
  let s2 := c.strs.foldl (fun s v =>
    let x := strGet s v.1
    strSet s v.1 { x with dirty := if x.dirty = some s.tb then x.dirty else none, was := none }) s1
  if c.mtx.isSome then
    { s2 with lmp := { s2.lmp with mtxDirty := if s2.lmp.mtxDirty = some s.tb then s2.lmp.mtxDirty else none, mtxWas := none } }
  else s2

/-- A commit offered to ASP (R192 to R194), from COMMIT_GO or a COMMIT frame. -/
def commitOffer (s : State) (n ta : Nat) : State :=
  let newer := match s.asp.lastNum with
    | some m => serialNewer n m
    | none => true
  if !newer then fldBump s Reg.ASP_COMMIT_CNT F.ASP_COMMIT_CNT_STALE 1
  else if 4 ≤ s.asp.commits.length then fldBump s Reg.ASP_COMMIT_CNT F.ASP_COMMIT_CNT_FULL 1
  else
    let missed := match s.asp.lastNum with
      | some m => (n + 2 ^ 32 - m % 2 ^ 32 - 1) % 2 ^ 32
      | none => 0
    let s1 := if missed = 0 then s else log s 0x8005 n 2 missed
    let s2 := if ta ≤ s.tb then
        log (fldBump s1 Reg.ASP_COMMIT_CNT F.ASP_COMMIT_CNT_LATE 1) 0x8005 n 1 ((s.tb - ta + 99) / 100)
      else s1
    let c := newCommit s n ta
    let s3 := clearStaging s2 c
    { s3 with asp := { s3.asp with lastNum := some n, commits := s3.asp.commits ++ [c] } }

/-- N and T_A of the commit registers. -/
def commitNum (s : State) : Nat := (regGet s Reg.ASP_COMMIT_NUM).toNat
def commitTa (s : State) : Nat := (regGet s Reg.ASP_COMMIT_TA_LO).toNat + 2 ^ 32 * (regGet s Reg.ASP_COMMIT_TA_HI).toNat

/-! ## Proving (R196 to R204) -/

/-- String `n` is proved now: it belongs to an enabled head and its LED bank is not cut (R196, R204). -/
def proved (s : State) (n : Nat) : Bool := (headOf s n).isSome && !isCut s (bankOfString n)

/-- Measured values as `LMP_STR_MEASn` codes them, and applied ones as `LMP_STR_ACTn` does (R180). -/
def measWord (i v : Nat) : Nat := (setF (setF 0 F.LMP_STR_MEAS_I i) F.LMP_STR_MEAS_V v).toNat
def actWord (d i : Nat) : Nat := (setF (setF 0 F.LMP_STR_ACT_DUTY d) F.LMP_STR_ACT_I i).toNat

/-- The values of the last measured window of string `n`. -/
def shownMeas (s : State) (n : Nat) : Nat := (regGet s (Reg.LMP_STR_MEAS n)).toNat

/-- A proving failure is journaled with the string or dot, the head and the result (R306), and with the measured and the applied values
(R204). DESIGN CHOICE (log entry 197): those stand in an entry of their own, under a code of class 0x8 that R306 does not list. -/
def logProving (s : State) (k h r ms ac : Nat) : State :=
  log (log s 0x8002 k h r) (0x8006 + Config.provingCode.toNat % 0xFFA) k ms ac

/-- A latched failure of string `n` with result `r` and the measured and applied values (R204): journaled, PFAIL set, head to fallback. -/
def failString (s : State) (n r ms ac : Nat) : State :=
  match headOf s n with
  | none => s
  | some h =>
    let a := Reg.ASP_STR_PSTAT n
    let s1 := if fldGet s a F.ASP_STR_PSTAT_RESULT = r then s
      else logProving (fldSet s a F.ASP_STR_PSTAT_RESULT r) n h r ms ac
    let x := strGet s1 n
    let s2 := strSet s1 n { x with darkFail := x.darkFail || r = 1 || r = 4, litFail := x.litFail || r = 2 || r = 3 }
    let s3 := regSet s2 Reg.ASP_HEAD_FB (BitVec.ofNat 32 (setBitN (regGet s2 Reg.ASP_HEAD_FB).toNat h true))
    deadCheck (restage s3 (s.tb + 1)) h

/-- A running measurement of the string is discarded (R178, R207). -/
def discardWindow (s : State) (n : Nat) : State :=
  strSet s n { strGet s n with edge := none, kind := 0, confirm := none }

/-- STRING_ON_EDGE (R162, R163, R199, R201). -/
def stringOnEdge (s : State) (n : Nat) : State :=
  let t := tPwm s (bankOfString n) * 100
  if commandedDark s n || !decide ((s.tb + t - edgeOffset s n) % t = 0) then s
  else
    let c := onCycles s n
    let x := strGet s n
    let a := Reg.ASP_STR_PSTAT n
    let debt := fldGet s a F.ASP_STR_PSTAT_DEBT
    let probeN := fldGet s Reg.ASP_CFG F.ASP_CFG_PROBEN
    if proved s n && x.confirm = some s.tb then
      strSet s n { x with kind := 3, edge := some s.tb, winI := actI s n, winC := c, onEnd := some (s.tb + 600) }
    else if proved s n && decide (0 < c) && decide (c < 1536) && decide (probeN ≤ x.idle) then
      fldSet (strSet s n { x with
          kind := 2, edge := some s.tb, winI := actI s n, winC := c, onEnd := some (s.tb + 600), lastProbe := some s.tb })
        a F.ASP_STR_PSTAT_DEBT (1536 - c)
    else
      let cut := min debt c
      fldSet (strSet s n { x with
          kind := if 1536 ≤ c && decide (cut < c) then 1 else 0
          edge := some s.tb
          winI := actI s n
          winC := c
          onEnd := if cut < c then some (s.tb + cyclesToTicks (c - cut)) else x.onEnd })
        a F.ASP_STR_PSTAT_DEBT (debt - cut)

/-- The measurement passes (R196): current and voltage of string `n` against the applied current `ref` and VS_LO. -/
def measurePasses (s : State) (n ref i v : Nat) : Bool :=
  let lo := fldGet s (Reg.ASP_STR_PRV n) F.ASP_STR_PRV_VS_LO
  decide (fldGet s Reg.ASP_CFG F.ASP_CFG_PLO * ref ≤ 100 * i) && (lo = 0 || decide (lo ≤ v))

/-- `LMP_STR_MEASn` and the headroom warning after a measured window with the applied current `ref` (R177). -/
def headroom (s : State) (n ref i v : Nat) : State :=
  let a := Reg.LMP_STR_MEAS n
  let s1 := fldSet (fldSet s a F.LMP_STR_MEAS_I i) a F.LMP_STR_MEAS_V v
  let x := strGet s1 n
  let low := decide (10 * i < 9 * ref)
  let bad := if low then min 3 (x.hrBad + 1) else 0
  let good := if low then 0 else min 3 (x.hrGood + 1)
  let s2 := strSet s1 n { x with hrBad := bad, hrGood := good }
  if bad = 3 then fldSet s2 (Reg.LMP_STR_STAT n) F.LMP_STR_STAT_HEADROOM 1
  else if good = 3 then fldSet s2 (Reg.LMP_STR_STAT n) F.LMP_STR_STAT_HEADROOM 0
  else s2

/-- The cycle offset of the dark check of string `n` that governs now (R202). -/
def darkOffset (s : State) (n : Nat) : Nat := s.tb - (s.tb + 400000 - n * 12500) % 400000

/-- Now is the instant of the dark check of string `n` (R202). -/
def darkDue (s : State) (n : Nat) : Bool :=
  if commandedDark s n then
    decide (s.tb % 400000 = n * 12500) &&
      (match (strGet s n).onEnd with
       | some e => decide (e + 20000 ≤ s.tb)
       | none => true)
  else
    let b := bankOfString n
    let t := tPwm s b * 100
    decide (onCycles s n + 2560 ≤ tPwm s b * 256) && decide ((s.tb + 200 + t - edgeOffset s n) % t = 0) &&
      decide (darkOffset s n ≤ s.tb) && decide (s.tb < darkOffset s n + t)

/-- A test pulse whose leakage point, 2 µs before its end, lies from `a` to `b` (R55). -/
def pulsePointIn (s : State) (a b : Nat) : Bool :=
  (List.range 16).any fun n => srcEn s n &&
    (match (srcGet s n).win with
     | some (t, _) => decide (a + 200 ≤ t + (srcGet s n).width * 100) && decide (t + (srcGet s n).width * 100 ≤ b + 200)
     | none => false)

/-- A leakage measurement falls due from `a` to `b`, at most 4 µs (R55): at a multiple of 781.25 µs or in a test pulse. -/
def leakDueIn (s : State) (a b : Nat) : Bool :=
  let t := b - b % 78125
  fldGet s Reg.FIO_LEAK_CFG F.FIO_LEAK_CFG_EN = 1 &&
    ((decide (a ≤ t) && leakPoint { s with tb := t } (t / 78125 % 128)) || pulsePointIn s a b)

/-- A dark check of string `m` falls due from `a` to `b`, at most 4 µs (R202): at its offset or before its on-edge. -/
def darkDueIn (s : State) (m a b : Nat) : Bool :=
  let p := tPwm s (bankOfString m) * 100
  let t := if commandedDark s m then b - (b + 400000 - m * 12500) % 400000 else b - (b + 200 + p - edgeOffset s m % p) % p
  decide (a ≤ t) && darkDue { s with tb := t } m

/-- A conversion burst meets the sampling interval, on-edge + 4 µs to + 6 µs, of the window of string `n` that opened at TB `e` (R196,
R197): of the leakage watch, of a dark check of another string, or one owed to SOUT. DESIGN CHOICE (log entry 207): the phase of the
latter in its 250 µs (R137) is left open, so it may meet any window. -/
def burstOwed (s : State) (n e : Nat) : Bool :=
  fldGet s Reg.SOUT_CFG F.SOUT_CFG_IDIAG = 1 || leakDueIn s (e + 400) (e + 600) ||
    (List.range 32).any fun m => m ≠ n && proved s m && darkDueIn s m (e + 400) (e + 600)

/-- Periods of the string's bank that have begun since TB `e` (R199). -/
def periodsSince (s : State) (n e : Nat) : Nat :=
  let t := tPwm s (bankOfString n) * 100
  s.tb / t - e / t

/-- The start of the confirmation probe: 480 µs after the failed one, or the own on-window it falls on (R200). -/
def confirmStart (s : State) (n edge : Nat) : Nat :=
  let t := tPwm s (bankOfString n) * 100
  let c := edge + 48000
  let e := c - (c + t - edgeOffset s n % t) % t
  if c < e + cyclesToTicks (onCycles s n) then e else c

/-- The confirmation that a probe failed at edge `e` waits for: one still ahead, else its own (R200). -/
def confirmAt (s : State) (n e : Nat) : Nat :=
  match (strGet s n).confirm with
  | some c => if s.tb ≤ c + 800 then c else confirmStart s n e
  | none => confirmStart s n e

/-- PROVING_WINDOW (R196 to R200): the window of string `n` is decided at on-edge + 8 µs with `i` mA and `v` × 0.125 V, against the values
latched at the boundary that opened it (R207); `meas` is false where the sampling interval met a burst (R197). -/
def provingWindow (s : State) (n i v : Nat) (meas : Bool) : State :=
  let x := strGet s n
  match x.edge with
  | none => s
  | some e =>
    if s.tb ≠ e + 800 || x.kind = 0 || !stageRuns s n || x.kind = 3 then s
    else if !meas && burstOwed s n e && x.kind = 1 && !x.missed then
      fldSet (strSet s n { x with missed := true, edge := none, kind := 0 }) (Reg.ASP_STR_PSTAT n) F.ASP_STR_PSTAT_UNMEAS
        (fldGet s (Reg.ASP_STR_PSTAT n) F.ASP_STR_PSTAT_UNMEAS + 1)
    else
      let s1 := headroom (strSet s n { x with missed := false, edge := none, kind := 0, idle := periodsSince s n e }) n x.winI i v
      if !proved s n then s1
      else if measurePasses s n x.winI i v then strSet s1 n { strGet s1 n with dcnt := 0 }
      else if x.kind = 2 then
        strSet s1 n { strGet s1 n with confirm := some (confirmAt s n e) }
      else
        let d := x.dcnt + 1
        let s2 := strSet s1 n { strGet s1 n with dcnt := min 8 d }
        if fldGet s Reg.ASP_CFG F.ASP_CFG_NDARK ≤ d then failString s2 n 1 (measWord i v) (actWord (actDuty s n) x.winI) else s2

/-- CONFIRMATION_PROBE (R200, R201): its extra on-time enters the debt as it has been spent. One whose stage does not run then, or whose
string is no longer proved, falls away. -/
def confirmationProbe (s : State) (n i v : Nat) : State :=
  let x := strGet s n
  match x.confirm with
  | none => s
  | some c =>
    if s.tb ≠ c + 800 then s
    else if !stageRuns s n || !proved s n then strSet s n { x with confirm := none }
    else
      let ref := if x.edge = some c then x.winI else actI s n
      let on := if x.edge = some c then x.winC else onCycles s n
      let a := Reg.ASP_STR_PSTAT n
      let s0 := fldSet s a F.ASP_STR_PSTAT_DEBT (fldGet s a F.ASP_STR_PSTAT_DEBT + (1536 - on))
      let s1 := headroom (strSet s0 n { x with confirm := none, edge := none, kind := 0, onEnd := some (c + 600) }) n ref i v
      if measurePasses s n ref i v then s1 else failString s1 n 1 (measWord i v) (actWord (actDuty s n) ref)

/-- A string that should be dark carries current or voltage (R202). -/
def showsLight (s : State) (n i v : Nat) : Bool :=
  let lo := fldGet s (Reg.ASP_STR_PRV n) F.ASP_STR_PRV_VS_LO
  decide (1 ≤ i) || (lo ≠ 0 && decide (lo ≤ v))

/-- LIT_STUCK is latched on the string, or its second check is due: nothing more can be declared (R204). -/
def litDeclared (s : State) (n : Nat) : Bool :=
  fldGet s (Reg.ASP_STR_PSTAT n) F.ASP_STR_PSTAT_RESULT = 3 || (strGet s n).recheck.isSome

/-- The check of this cycle has been made (R202). -/
def darkChecked (s : State) (n : Nat) : Bool := (strGet s n).darkAt = some (darkOffset s n)

/-- DARK_CHECK (R202, R204): one check in each cycle. -/
def darkCheck (s : State) (n i v : Nat) : State :=
  if proved s n && lampsRun s && !darkChecked s n && darkDue s n then
    let s1 := strSet s n { strGet s n with darkAt := some (darkOffset s n) }
    if showsLight s n i v && !litDeclared s n then
      let s2 := discardWindow s1 n
      let s3 := strSet s2 n { strGet s2 n with stopped := true, recheck := some (s.tb + 20000) }
      failString (setAct s3 n 0 0) n 2 (measWord i v) (actWord (actDuty s n) (actI s n))
    else s1
  else s

/-- LED bank `b` has a lamp feed (R151). -/
def hasFeed (s : State) (b : Nat) : Bool := (List.range 24).any fun c => chMode s c ≠ 0 && chRole s c = b + 1

/-- LIT_RECHECK (R204): still lit makes it LIT_STUCK, with a cut request or UNCUT. -/
def litRecheck (s : State) (n i v : Nat) : State :=
  match (strGet s n).recheck with
  | none => s
  | some t =>
    if s.tb < t then s
    else
      let s1 := strSet s n { strGet s n with recheck := none }
      if !proved s n || !showsLight s n i v then s1
      else
        let b := bankOfString n
        let s2 := failString s1 n 3 (measWord i v) (actWord (actDuty s n) (actI s n))
        if hasFeed s b then
          (if isCut s b then s2
           else restage (log (fldSet s2 Reg.ASP_STATUS (if b = 0 then F.ASP_STATUS_CUT0 else F.ASP_STATUS_CUT1) 1) 0x8003 b 1 0)
                  (s.tb + 1))
        else fldSet s2 Reg.ASP_STATUS (if b = 0 then F.ASP_STATUS_UNCUT0 else F.ASP_STATUS_UNCUT1) 1

/-! ## Stage faults (R177, R178) -/

/-- A stage fault: the stage stops, the string is dark, ASP and the journal are told (R177, R204). -/
def setStageFault (s : State) (n code : Nat) : State :=
  let a := Reg.LMP_STR_STAT n
  let s1 := discardWindow (setAct (fldSet (fldSet s a F.LMP_STR_STAT_FAULT code) a F.LMP_STR_STAT_CLIP 0) n 0 0) n
  let s2 := strSet s1 n { strGet s1 n with hrBad := 0, hrGood := 0 }
  let s3 := regSet s2 Reg.LMP_FAULT (BitVec.ofNat 32 (setBitN (regGet s2 Reg.LMP_FAULT).toNat n true))
  let s4 := log s3 0x8001 n code 0
  if code ≤ 3 then failString s4 n 4 (shownMeas s n) (actWord (actDuty s n) (actI s n))
  else deadChecks (restage s4 (s.tb + 1))

/-- The stage drives a lit string. -/
def stageDrives (s : State) (n : Nat) : Bool := stageRuns s n && !commandedDark s n

/-- STAGE_OPEN: judged in an on-window of at least 4 µs, a probe or a confirmation included (R177). -/
def stageOpen (s : State) (n : Nat) : State :=
  let x := strGet s n
  if stageDrives s n && (decide (1024 ≤ onCycles s n) || decide (2 ≤ x.kind) || x.confirm.isSome) then setStageFault s n 1 else s

/-- STAGE_SHORT (R177). -/
def stageShort (s : State) (n : Nat) : State := if stageDrives s n then setStageFault s n 2 else s

/-- STAGE_OCP (R177). -/
def stageOcp (s : State) (n : Nat) : State := if stageDrives s n then setStageFault s n 3 else s

/-- STAGE_THERMAL (R177). -/
def stageThermal (s : State) (n : Nat) : State := if stageRuns s n then setStageFault s n 4 else s

/-- VLED of LED bank `b` is outside its range (`LMP_STATUS.UV`, `.OV`). -/
def vledBad (s : State) (b : Nat) : Bool :=
  bitN (fldGet s Reg.LMP_STATUS F.LMP_STATUS_UV) b || bitN (fldGet s Reg.LMP_STATUS F.LMP_STATUS_OV) b

/-- The fault of string `n` clears; the stage restarts at the next bank boundary (R177, R178). A bank still out of range stops
it as UVLO. -/
def clearStageFault (s : State) (n : Nat) : State :=
  let s1 := fldSet s (Reg.LMP_STR_STAT n) F.LMP_STR_STAT_FAULT 0
  let s2 := regSet s1 Reg.LMP_FAULT (BitVec.ofNat 32 (setBitN (regGet s1 Reg.LMP_FAULT).toNat n false))
  if vledBad s2 (bankOfString n) then setStageFault s2 n 5 else s2

/-- STAGE_THERMAL_CLEAR (R177). -/
def stageThermalClear (s : State) (n : Nat) : State :=
  if stageFault s n = 4 then restage (clearStageFault s n) (s.tb + 1) else s

/-- Every enabled stage of a bank whose VLED is out of range stops as UVLO (R177). -/
def uvloSweep (s : State) (b : Nat) : State :=
  if lampsRun s && vledBad s b then
    (stringsOf b).foldl (fun s n =>
      if fldGet s (Reg.LMP_STR_CFG n) F.LMP_STR_CFG_EN = 1 && stageFault s n = 0 then setStageFault s n 5 else s) s
  else s

/-- STAGE_UVLO: VLED of the bank below 11.0 V, or above 32.0 V with `ov` (R177, R180). -/
def stageUvlo (s : State) (b : Nat) (ov : Bool) : State :=
  let s1 := fldSet s Reg.LMP_STATUS F.LMP_STATUS_OV (setBitN (fldGet s Reg.LMP_STATUS F.LMP_STATUS_OV) b ov)
  let s2 := fldSet s1 Reg.LMP_STATUS F.LMP_STATUS_UV (setBitN (fldGet s1 Reg.LMP_STATUS F.LMP_STATUS_UV) b (!ov))
  uvloSweep s2 b

/-- BANK_BOUNDARY (R164, R165, R177, R188 to R195, R199, R205). -/
def bankBoundary (s : State) (b : Nat) : State :=
  if atBankBoundary s b && lampsClocked s then
    let s0 := { s with lmp := { s.lmp with wait0 := s.lmp.wait0 && b ≠ 0, wait1 := s.lmp.wait1 && b = 0 } }
    let s1 := commitsDue (promoteSle (uvloSweep s0 b)) b
    let s2 := computeBank (stageBank s1 s1.asp.sle b s.tb) b
    let s3 := (List.range 32).foldl (showHead b) s2
    if lampsRun s then deadChecks ((stringsOf b).foldl countPeriod s3) else s3
  else s

/-- STAGE_UVLO_CLEAR (R177). -/
def stageUvloClear (s : State) (b : Nat) : State :=
  if vledBad s b then
    let s1 := fldSet s Reg.LMP_STATUS F.LMP_STATUS_UV (setBitN (fldGet s Reg.LMP_STATUS F.LMP_STATUS_UV) b false)
    let s2 := fldSet s1 Reg.LMP_STATUS F.LMP_STATUS_OV (setBitN (fldGet s1 Reg.LMP_STATUS F.LMP_STATUS_OV) b false)
    let s3 := (stringsOf b).foldl (fun s n => if stageFault s n = 5 then clearStageFault s n else s) s2
    restage s3 (s.tb + 1)
  else s

/-- FAULT_CLEAR: latched faults of the strings in `m` clear (R178). -/
def faultClear (s : State) (m : Nat) : State :=
  ((List.range 32).filter (bitN m)).foldl (fun s n =>
    let f := stageFault s n
    if f = 1 || f = 2 || f = 3 then clearStageFault s n else s) s

/-! ## Clearing (R206) -/

/-- What clearing a head does to one of its strings: latched results and stage faults clear, a stopped stage may restart; a
string marked unusable fails again (R382). -/
def clearString (s : State) (n : Nat) : State :=
  let s1 := fldSet s (Reg.ASP_STR_PSTAT n) F.ASP_STR_PSTAT_RESULT 0
  let s2 := strSet s1 n { strGet s1 n with
    stopped := false, recheck := none, dcnt := 0, confirm := none, darkFail := false, litFail := false }
  let f := stageFault s2 n
  if f = 1 || f = 2 || f = 3 then clearStageFault s2 n else s2

def clearHead (s : State) (h : Nat) : State :=
  if pfail s h || fldGet s (Reg.ASP_HEAD_STAT h) F.ASP_HEAD_STAT_DEAD = 1 then
    let s1 := regSet s Reg.ASP_HEAD_FB (BitVec.ofNat 32 (setBitN (regGet s Reg.ASP_HEAD_FB).toNat h false))
    let s2 := fldSet s1 (Reg.ASP_HEAD_STAT h) F.ASP_HEAD_STAT_DEAD 0
    let s3 := (headStrings s2 h).foldl clearString s2
    let s4 := if headMtx s3 h then { s3 with lmp := { s3.lmp with mtxBlank := false, dotFail := [], mtxFrame := none } } else s3
    ((headStrings s4 h).filter (unusableString s4)).foldl (fun s n => failString s n 4 (shownMeas s n) 0) s4
  else s

/-- HEAD_CLR (R206). -/
def headClr (s : State) (m : Nat) : State :=
  restage (((List.range 32).filter (bitN m)).foldl clearHead s) (s.tb + 1)

/-- Strings that BIST marked unusable are handled as stage fault OPEN, the matrix as MDARK (R382). -/
def failUnusable (s : State) : State :=
  let s1 := ((List.range 32).filter (unusableString s)).foldl (fun s n => failString s n 4 (shownMeas s n) 0) s
  match mtxHead s1 with
  | some h =>
    if fldGet s1 Reg.BIST_UNUSABLE F.BIST_UNUSABLE_MTX = 1 then
      regSet s1 Reg.ASP_HEAD_FB (BitVec.ofNat 32 (setBitN (regGet s1 Reg.ASP_HEAD_FB).toNat h true))
    else s1
  | none => s1

/-- A head with a string on LED bank `b` holds PFAIL. -/
def bankHoldsFail (s : State) (b : Nat) : Bool :=
  (List.range 32).any fun h => headEn s h && pfail s h && (headStrings s h).any fun n => bankOfString n = b

/-- CUT_RELEASE of one bank (R206), at the end of a scan that accepts a start reset. -/
def releaseBank (s : State) (b : Nat) : State :=
  if bankHoldsFail s b then s
  else
    let s1 := fldSet s Reg.ASP_STATUS (if b = 0 then F.ASP_STATUS_UNCUT0 else F.ASP_STATUS_UNCUT1) 0
    if isCut s b then
      restage (log (fldSet s1 Reg.ASP_STATUS (if b = 0 then F.ASP_STATUS_CUT0 else F.ASP_STATUS_CUT1) 0) 0x8003 b 0 0) (s.tb + 1)
    else s1

def cutRelease (s : State) : State := releaseBank (releaseBank s 0) 1

/-! ## Matrix proving (R203, R204) -/

/-- MDARK (1) or MLIT (2) on dot `d`, whose column carries `i` mA: the matrix is blanked and its head falls back. -/
def failMatrix (s : State) (h d r i : Nat) : State :=
  let s1 := logProving { s with lmp := { s.lmp with mtxBlank := true } } d h r i (65536 * mtxDot s (d / 32) (d % 32) + mtxColumn s (d % 32))
  let s2 := regSet s1 Reg.ASP_HEAD_FB (BitVec.ofNat 32 (setBitN (regGet s1 Reg.ASP_HEAD_FB).toNat h true))
  restage s2 (s.tb + 1)

/-- Dot (l, c) is measured in its slot: it is lit for at least 4 µs (R203). -/
def dotMeasured (s : State) (l c : Nat) : Bool := decide (1024 ≤ mtxDot s l c * mtxSlot s) && decide (0 < mtxColumn s c)

/-- One dot of the measured line: failures in its consecutive measurements so far; without a measurement they stay. -/
def dotCount (s : State) (l c i : Nat) : Nat :=
  let old := tabGet 0 s.lmp.dotFail (32 * l + c)
  if !dotMeasured s l c then old
  else if 100 * i < fldGet s Reg.ASP_CFG F.ASP_CFG_PLO * mtxColumn s c then min 2 (old + 1)
  else 0

/-- MATRIX_LINE_SLOT (R175, R203): line `l` starts; for the measured line, `cur` holds the column currents of the slot in mA and
`leak` those in their off time: 1 mA or more is MLIT. -/
def matrixLineSlot (s : State) (l : Nat) (cur leak : List Nat) : State :=
  match s.lmp.mtxFrame, mtxHead s with
  | some f, some h =>
    if mtxRuns s && decide (s.tb = f + l * mtxLineTicks s) && decide (l < mtxLines s) && l = s.lmp.mtxLine && !mtxHostOwned s then
      let cnt := (List.range 32).map fun c => (c, dotCount s l c (cur.getD c 0))
      let s1 := { s with lmp := { s.lmp with
        dotFail := cnt.foldl (fun t p => tabPut 0 t (32 * l + p.1) p.2) s.lmp.dotFail } }
      let dark := cnt.filter fun p => p.2 = 2 && dotMeasured s l p.1
      let s2 := dark.foldl (fun t p => failMatrix t h (32 * l + p.1) 1 (cur.getD p.1 0)) s1
      ((List.range 32).filter fun c => decide (1 ≤ leak.getD c 0)).foldl (fun t c => failMatrix t h (32 * l + c) 2 (leak.getD c 0)) s2
    else s
  | _, _ => s

/-! ## Views -/

/-- `ASP_HEAD_STATh` as read: PFAIL, CUT and SEL follow their own homes. -/
def headStat (s : State) (h : Nat) : Word :=
  let w := regGet s (Reg.ASP_HEAD_STAT h)
  let w1 := setF w F.ASP_HEAD_STAT_PFAIL (b2n (pfail s h))
  let w2 := setF w1 F.ASP_HEAD_STAT_CUT (b2n (headCut s h))
  setF w2 F.ASP_HEAD_STAT_SEL (selOf s h)

/-- `ASP_STR_PSTATs` as read: PROBE within the last t_probe, DCNT (R208). -/
def strPstat (s : State) (n : Nat) : Word :=
  let x := strGet s n
  let tProbe := fldGet s Reg.ASP_CFG F.ASP_CFG_PROBEN * tPwm s (bankOfString n) * 100
  let probe := match x.lastProbe with
    | some t => decide (s.tb < t + tProbe)
    | none => false
  setF (setF (regGet s (Reg.ASP_STR_PSTAT n)) F.ASP_STR_PSTAT_PROBE (b2n probe)) F.ASP_STR_PSTAT_DCNT (min 7 x.dcnt)

/-- The string bitmaps `ASP_DARK_FAIL` and `ASP_LIT_FAIL` (R208). -/
def darkMap (s : State) : Nat := packBits (fun n => (strGet s n).darkFail) 32
def litMap (s : State) : Nat := packBits (fun n => (strGet s n).litFail) 32

/-- `LMP_STATUS` as read: the limits follow the factors, MTX_RUN the matrix (R180). -/
def lmpStatus (s : State) : Word :=
  let f := storedFactors s
  let w := setF (regGet s Reg.LMP_STATUS) F.LMP_STATUS_THERM_LIM (b2n (decide (f.1 < 0x8000)))
  let w1 := setF w F.LMP_STATUS_PWR_LIM (b2n (decide (f.2.1 < 0x8000)))
  let w2 := setF w1 F.LMP_STATUS_BLIM (b2n (decide (f.2.2.1 < 0x8000)) + 2 * b2n (decide (f.2.2.2 < 0x8000)))
  setF w2 F.LMP_STATUS_MTX_RUN (b2n (mtxRuns s))

end Sys2Proof.Machine
end

