-- ==== Sys2Proof/Machine/Blocks.lean ====
section
/-!
DEFINITION. The function blocks: one evaluation of each type of R98 from a snapshot and the states of the blocks (R65 to R95,
R483), and the evaluation of a whole image.
-/
namespace Sys2Proof.Machine

/-- A block record (R97). -/
structure Blk where
  typ : Nat
  flags : Nat
  a : Nat
  b : Nat
  c : Nat
  d : Nat
  p0 : Nat
  p1 : Nat
  p2 : Nat
  deriving DecidableEq, Repr

/-- A parsed function image (R96). -/
structure Image where
  version : Nat
  mode : Nat
  scan : Nat
  cyc0 : Nat
  cyc1 : Nat
  blocks0 : List Blk
  blocks1 : List Blk
  /-- signal and enable of each channel (R99) -/
  omap : List (Nat × Bool)
  /-- condition, head and aspect (R99) -/
  amap : List (Nat × Nat × Nat)
  build : List Byte
  crc : Nat
  deriving DecidableEq, Repr

/-- What a block's evaluation answers: its new state, its held events and the counters it advances. -/
structure BlkOut where
  st : BlkSt
  events : List Event
  counts : List Nat
  deriving DecidableEq, Repr

/-- What a block's evaluation reads: the snapshot, the signals, the effective filter of a pair (R49), TRIAL (R287), the number of
the block, its place among the ROPE_IN blocks and the types of the blocks. -/
structure BlkIn where
  snap : Snap
  sig : Nat → Bool
  tfil : Nat → Nat
  trial : Bool
  num : Nat
  ropeIdx : Nat
  /-- the signal is the Q of a ROPE_IN block whose watchdog has expired (R483) -/
  wdSig : Nat → Bool

def inBit (n : Snap) (i : Nat) : Bool := bitN n.filt i
def tpfBit (n : Snap) (i : Nat) : Bool := bitN n.tpf i
def tsOf (n : Snap) (i : Nat) : Nat := tabGet 0 n.ts i

def absDiff (x y : Nat) : Nat := if x < y then y - x else x - y

/-- The status word of a block (R103); its record has only the bits of its type set (`ofType`, and the evaluation of each type). -/
def statusWord (x : BlkSt) : Nat :=
  0x8000 * b2n x.q2 + 0x4000 * b2n x.q + 0x800 * b2n x.wait + 0x400 * b2n x.timing + 0x200 * b2n x.tpf + 0x100 * b2n x.disc +
    0x80 * b2n x.edm + 0x40 * b2n x.sync + 0x20 * b2n x.relWait + 0x10 * b2n x.wdog + 0x8 * b2n x.stuck + 0x4 * b2n x.safeSeen

/-- A held event of the block at the scan start. -/
def blkEvent (i : BlkIn) (code p1 p2 : Nat) : Event := ⟨i.snap.start, i.snap.start, code, i.num, p1, p2, false, false⟩

/-- The channels of pair `p` are in discrepancy: one in its run position, the other in its safe position, and their time
stamps differ (R71). -/
def inDisc (n : Snap) (p : Nat) (ra rb : Bool) : Bool := ra ≠ rb && decide (tsOf n (2 * p) ≠ tsOf n (2 * p + 1))

/-- The running discrepancy of pair `p` after this scan: the time stamp of the channel that changed first, which is the later of
the two stamps while the channels disagree, and whether that is channel A (R71). -/
def discRuns (n : Snap) (p : Nat) (ra rb : Bool) : Option (Nat × Bool) :=
  if inDisc n p ra rb then
    some (max (tsOf n (2 * p)) (tsOf n (2 * p + 1)), decide (tsOf n (2 * p + 1) < tsOf n (2 * p)))
  else none

/-- `ts_first` of a discrepancy whose second change arrives in this scan more than T_disc after the first (R71): the channel that
did not change first has changed, and not after the return of the other one; or both have changed since the last scan. `ca`,
`cb`: channel A, B has changed since then; `d`: the discrepancy that ran. -/
def discSecond (n : Snap) (p tdisc : Nat) (ca cb : Bool) (d : Option (Nat × Bool)) : Option Nat :=
  let ta := tsOf n (2 * p)
  let tb := tsOf n (2 * p + 1)
  match d with
  | some (t, true) => if cb && (!ca || decide (tb ≤ ta)) && decide (t + tdisc * 1000 < tb) then some t else none
  | some (t, false) => if ca && (!cb || decide (ta ≤ tb)) && decide (t + tdisc * 1000 < ta) then some t else none
  | none => if ca && cb && decide (tdisc * 1000 < absDiff ta tb) then some (min ta tb) else none

/-- `ts_first` where DISC latches now (R71): the pair is still in discrepancy at S ≥ ts_first + t_filter + T_disc, or the second
channel's change came more than T_disc after the first. -/
def discNow (i : BlkIn) (p tdisc : Nat) (ra rb ca cb : Bool) (d : Option (Nat × Bool)) : Option Nat :=
  match discRuns i.snap p ra rb with
  | some (t, _) => if (t + i.tfil p + tdisc * 1000) * 100 ≤ i.snap.start then some t else discSecond i.snap p tdisc ca cb d
  | none => discSecond i.snap p tdisc ca cb d

/-- The time stamp of a BLOCK_FAULT entry, µs (R306): `ts_first` of a discrepancy, else the scan start. -/
def faultStamp (i : BlkIn) (hit : Option Nat) : Nat := hit.getD (i.snap.start / 100)

/-- The instant from which a running discrepancy counts, TB. -/
def sinceDisc (d : Option (Nat × Bool)) : Nat :=
  match d with
  | some (t, _) => t * 100
  | none => 0

/-- ESTOP, GUARD and LCURTAIN (R70 to R78). `anti`: antivalent pair; `manual`: manual reset; `startup`: startup interlock.
DESIGN CHOICE (log entry 149): TIMING stays 0 for a new disagreement while DISC is latched. DESIGN CHOICE (log entry 150): a further
DISC condition or test-pulse fault signal while the fault is latched takes SAFE_SEEN back. -/
def evalProtective (i : BlkIn) (p tdisc reset : Nat) (anti manual startup : Bool) (x : BlkSt) : BlkOut :=
  let a := inBit i.snap (2 * p)
  let b := inBit i.snap (2 * p + 1)
  let ra := a
  let rb := if anti then !b else b
  let running := ra && rb
  let tpfSig := tpfBit i.snap (2 * p) || tpfBit i.snap (2 * p + 1)
  let hit := discNow i p tdisc ra rb (x.init && a ≠ x.pa) (x.init && b ≠ x.pb) x.dis
  let newDisc := hit.isSome
  let disc := x.disc || newDisc
  let tpf := x.tpf || tpfSig
  let fault := disc || tpf
  let fresh := (newDisc && !x.disc) || (tpfSig && !x.tpf)
  let restart := newDisc || tpfSig
  let seen := fault && ((x.safeSeen && !restart) || (!ra && !rb && !tpfSig))
  let back := fault && !restart && ((x.back && seen) || (x.safeSeen && running))
  let waiting := x.wait || (startup && !x.init) || fault
  let changed := x.init && (a ≠ x.pa || b ≠ x.pb)
  let rst := i.sig reset
  let accept := waiting && rst && running && (!fault || back) && !changed
  let q := accept || (running && !fault && !waiting)
  let fell := x.q && !q
  let ignore := waiting && rst && !accept
  let timing := inDisc i.snap p ra rb && !(disc && !accept)
  let y : BlkSt := { x with
    init := true, q := q, q2 := false
    wait := if accept then false else waiting || (fell && manual)
    tpf := tpf && !accept, disc := disc && !accept
    safeSeen := seen && !accept, back := back && !accept
    timing := timing
    since := if timing then sinceDisc (discRuns i.snap p ra rb) else 0
    pa := a, pb := b, dis := discRuns i.snap p ra rb
    ignored := rst && (x.ignored || ignore) }
  { st := y
    events :=
      (if fresh then [blkEvent i 0x5001 (statusWord y) (faultStamp i hit)] else []) ++
      (if accept && (x.disc || x.tpf) then [blkEvent i 0x5001 (statusWord y) (faultStamp i none)] else []) ++
      (if ignore && !x.ignored then [blkEvent i 0x5002 6 0] else [])
    counts := if ignore && !x.ignored then [6] else [] }

/-- TWOHAND (R79 to R83). DESIGN CHOICE (log entry 186): of several times that run at once the running time shown (R103) is that of a
discrepancy before the sync time, and the left pair's before the right pair's. -/
def evalTwoHand (i : BlkIn) (l r tdisc tsync : Nat) (x : BlkSt) : BlkOut :=
  let la := inBit i.snap (2 * l)
  let lb := inBit i.snap (2 * l + 1)
  let ra := inBit i.snap (2 * r)
  let rb := inBit i.snap (2 * r + 1)
  let actL := !la && lb
  let actR := !ra && rb
  let released := la && !lb && ra && !rb
  let both := actL && actR
  let wasBoth := !x.pa && x.pb && !x.pc && x.pd
  let tL := max (tsOf i.snap (2 * l)) (tsOf i.snap (2 * l + 1))
  let tR := max (tsOf i.snap (2 * r)) (tsOf i.snap (2 * r + 1))
  let inTime := decide (absDiff tL tR ≤ tsync * 1000)
  let tpfSig := tpfBit i.snap (2 * l) || tpfBit i.snap (2 * l + 1) || tpfBit i.snap (2 * r) || tpfBit i.snap (2 * r + 1)
  let hitL := discNow i l tdisc la (!lb) (x.init && la ≠ x.pa) (x.init && lb ≠ x.pb) x.dis
  let hitR := discNow i r tdisc ra (!rb) (x.init && ra ≠ x.pc) (x.init && rb ≠ x.pd) x.disR
  let newDisc := hitL.isSome || hitR.isSome
  let disc0 := x.disc || newDisc
  let tpf0 := x.tpf || tpfSig
  let t0 := if (disc0 || tpf0) && released && !tpfSig then some (if newDisc then i.snap.start else x.t0.getD i.snap.start) else none
  let clear := match t0 with
    | some t => decide (t + tdisc * 100000 ≤ i.snap.start)
    | none => false
  let disc := disc0 && !clear
  let tpf := tpf0 && !clear
  let syncNow := both && !wasBoth && !inTime
  let sync := !released && (x.sync || syncNow)
  let armed := (x.mark && !(wasBoth && !both)) || released
  let relWait := !released && (x.relWait || syncNow || (both && !armed))
  let q := both && inTime && armed && !disc && !tpf && !relWait
  let mark := armed && !(x.q && !q && !released)
  let fresh := (newDisc && !x.disc) || (tpfSig && !x.tpf) || (syncNow && !x.sync)
  let dTime := (inDisc i.snap l la (!lb) || inDisc i.snap r ra (!rb)) && !disc
  let tAct := if actL then tL else tR
  let sTime := armed && !relWait && actL ≠ actR && decide (i.snap.start < (tAct + tsync * 1000) * 100)
  let y : BlkSt := { x with
    init := true, q := q, q2 := false, wait := false, tpf := tpf, disc := disc, sync := sync, relWait := relWait
    timing := dTime || sTime
    since := if dTime then sinceDisc ((discRuns i.snap l la (!lb)).or (discRuns i.snap r ra (!rb))) else if sTime then tAct * 100 else 0
    pa := la, pb := lb, pc := ra, pd := rb
    dis := discRuns i.snap l la (!lb), disR := discRuns i.snap r ra (!rb)
    mark := mark, t0 := if clear then none else t0 }
  { st := y
    events := (if fresh then [blkEvent i 0x5001 (statusWord y) (faultStamp i (hitL.or hitR))] else []) ++
              (if clear && (x.disc || x.tpf) then [blkEvent i 0x5001 (statusWord y) (faultStamp i none)] else [])
    counts := [] }

/-- EDM (R84, R85). DESIGN CHOICE (log entry 151): before the first change of the command, S_cmd is the start of the first scan after the
image load. -/
def evalEdm (i : BlkIn) (tedm fbSig cmdSig rstSig : Nat) (x : BlkSt) : BlkOut :=
  let fb := i.sig fbSig
  let cmd := i.sig cmdSig
  let since := if x.init && cmd = x.pb then x.t0.getD i.snap.start else i.snap.start
  let due := decide (since + tedm * 100000 ≤ i.snap.start)
  let bad := due && cmd = fb
  let fault0 := x.edm || bad
  let accept := fault0 && i.sig rstSig && !cmd && fb
  let fault := fault0 && !accept
  let y : BlkSt := { x with
    init := true, q := !fault, q2 := false, edm := fault, wait := false, timing := !due, since := if due then 0 else since,
    pa := fb, pb := cmd, t0 := some since }
  { st := y
    events := (if bad && !x.edm then [blkEvent i 0x5001 (statusWord y) (faultStamp i none)] else []) ++
              (if accept && x.edm then [blkEvent i 0x5001 (statusWord y) (faultStamp i none)] else [])
    counts := [] }

/-- The outcome row of a falling edge (R86): 5 fault or sag, 2 short, 3 long, 4 not ready, 1 accepted. -/
def resetOutcome (badInput ready : Bool) (d : Nat) : Nat :=
  if badInput then 5 else if d < 10000000 then 2 else if 500000000 < d then 3 else if !ready then 4 else 1

/-- RESET (R86, R87, R483): `t0` holds the instant of the rising edge in ticks. The button has been ON for more than 5 s where its
filtered value, which follows the edge by the filter time, has been; an edge after RESET_STUCK is rejected as too long. DESIGN CHOICE (log
entry 152): a button or signal that is
1 in the first scan after a load counts as a rise at that scan. -/
def evalReset (i : BlkIn) (btn ready : Nat) (x : BlkSt) : BlkOut :=
  let v := i.sig btn
  let isInput := decide (btn < 128)
  let stamp := if isInput then tsOf i.snap btn * 100 else i.snap.start
  let rose := v && !x.pa
  let fell := !v && x.pa
  let t0 := if rose then some stamp else x.t0
  let d := stamp - t0.getD stamp
  let badInput := if isInput then tpfBit i.snap btn || bitN i.snap.sag (btn / 64) else i.wdSig btn
  let row := resetOutcome badInput (i.sig ready && !i.trial) (if x.stuck then max d 500000001 else d)
  let lag := if isInput then i.tfil (btn / 2) * 100 else 0
  let stuckNow := v && decide (t0.getD i.snap.start + lag + 500000000 < i.snap.start)
  let y : BlkSt := { x with
    init := true, q := fell && row = 1, q2 := false, stuck := v && (x.stuck || stuckNow), pa := v
    t0 := if v then t0 else none }
  { st := y
    events := (if fell then [blkEvent i 0x5002 row (d / 100000)] else []) ++
              (if stuckNow && !x.stuck then [blkEvent i 0x5001 (statusWord y) (faultStamp i none)] else [])
    counts := if fell then [row] else [] }

/-- STOP1 (R91, R92): T_delay in units of 10 ms. A reset that reaches the waiting block without the conditions of R76 is ignored and
counted as R76 says. -/
def evalStop1 (i : BlkIn) (req rst tdelay : Nat) (manual : Bool) (x : BlkSt) : BlkOut :=
  let run := i.sig req
  let again := i.sig rst
  let changed := x.init && run ≠ x.pa
  let waits := x.t0.isNone && !x.q && x.mark && manual
  let ignore := waits && again && !(run && !changed)
  let y : BlkSt :=
    match x.t0 with
    | some t =>
      if t + tdelay * 1000000 ≤ i.snap.start then { x with q := false, q2 := false, t0 := none, timing := false, since := 0, wait := manual }
      else { x with q := false, q2 := true, timing := true, since := t }
    | none =>
      if x.q then
        (if run then x else { x with q := false, q2 := true, t0 := some i.snap.start, timing := true, since := i.snap.start, mark := true })
      else if run && (!waits || (again && !changed)) then { x with q := true, q2 := true, wait := false }
      else x
  { st := { y with init := true, pa := run, ignored := again && (x.ignored || ignore) }
    events := if ignore && !x.ignored then [blkEvent i 0x5002 6 0] else []
    counts := if ignore && !x.ignored then [6] else [] }

/-- TON and TOFF (R93): T in ms. -/
def evalTon (i : BlkIn) (sig t : Nat) (x : BlkSt) : BlkOut :=
  let v := i.sig sig
  let t0 := if v then some (x.t0.getD i.snap.start) else none
  let q := match t0 with
    | some s1 => decide (s1 + t * 100000 ≤ i.snap.start)
    | none => false
  { st := { x with init := true, q := q, t0 := t0, timing := v && !q, since := if v && !q then t0.getD 0 else 0 }, events := [], counts := [] }

def evalToff (i : BlkIn) (sig t : Nat) (x : BlkSt) : BlkOut :=
  let v := i.sig sig
  let t0 := if v || !x.q then none else some (x.t0.getD i.snap.start)
  let q := v || (match t0 with
    | some s0 => decide (i.snap.start < s0 + t * 100000)
    | none => false)
  { st := { x with init := true, q := q, t0 := if q then t0 else none, timing := !v && q,
                       since := if !v && q then t0.getD 0 else 0 }
    events := [], counts := [] }

/-- ROPE_IN (R94). -/
def evalRopeIn (i : BlkIn) (x : BlkSt) : BlkOut :=
  let c := tabGet 0 i.snap.rope i.ropeIdx
  { st := { x with init := true, q := bitN c 0 && !bitN c 1, wdog := bitN c 1 }, events := [], counts := [] }

/-- A plain one-bit block. -/
def evalPlain (q : Bool) (x : BlkSt) : BlkOut := ⟨{ x with init := true, q := q }, [], []⟩

/-- An input of AND or OR, inverted by its flag (R93). -/
def inv (i : BlkIn) (flags k sig : Nat) : Bool := i.sig sig ≠ bitN flags k

/-- One evaluation of a block by its type code (R98). -/
def evalBlk (i : BlkIn) (k : Blk) (x : BlkSt) : BlkOut :=
  match k.typ with
  | 0x01 => evalProtective i k.a k.p0 k.c (bitN k.flags 0) true (bitN k.flags 1) x
  | 0x02 => evalProtective i k.a k.p0 k.c (bitN k.flags 0) (bitN k.flags 2) (bitN k.flags 1) x
  | 0x03 => evalTwoHand i k.a k.b k.p0 k.p1 x
  | 0x04 => evalProtective i k.a k.p0 k.c false (bitN k.flags 2) (bitN k.flags 1) x
  | 0x05 => evalEdm i k.p0 k.a k.b k.c x
  | 0x06 => evalReset i k.a k.b x
  | 0x07 => evalStop1 i k.a k.b k.p0 (bitN k.flags 2) x
  | 0x10 => evalPlain (inv i k.flags 0 k.a && inv i k.flags 1 k.b && inv i k.flags 2 k.c && inv i k.flags 3 k.d) x
  | 0x11 => evalPlain (inv i k.flags 0 k.a || inv i k.flags 1 k.b || inv i k.flags 2 k.c || inv i k.flags 3 k.d) x
  | 0x12 => evalPlain (!i.sig k.a) x
  | 0x13 => evalTon i k.a k.p0 x
  | 0x14 => evalToff i k.a k.p0 x
  | 0x20 => evalRopeIn i x
  | 0x21 => evalPlain (i.sig k.a) x
  | _ => ⟨x, [], []⟩

/-! ## The whole image -/

/-- Block `b` as a lane sees it: of the own lane in its present state, of the other lane as `prev` has it (R66). -/
def blkSeen (lane1 : Bool) (prev cur : Tab BlkSt) (b : Nat) : BlkSt :=
  tabGet blkSt0 (if decide (4096 ≤ b) = lane1 then cur else prev) b

/-- A signal of R69 as a lane reads it. -/
def sigVal (n : Snap) (lane1 : Bool) (prev cur : Tab BlkSt) (idx : Nat) : Bool :=
  if idx < 0x80 then inBit n idx
  else if idx < 0x100 then tpfBit n (idx - 0x80)
  else if idx = 0x101 then true
  else if idx = 0x102 then bitN n.sag 0
  else if idx = 0x103 then bitN n.sag 1
  else if idx = 0x104 then n.ext
  else if idx < 0x1000 then false
  else
    let x := blkSeen lane1 prev cur ((idx - 0x1000) / 2)
    if idx % 2 = 0 then x.q else x.q2

/-- The present-scan signals of both lanes, as the maps read them (R66). -/
def mapSig (n : Snap) (cur : Tab BlkSt) (idx : Nat) : Bool := sigVal n (decide (4096 ≤ (idx - 0x1000) / 2)) cur cur idx

/-- What an evaluation carries from block to block. -/
structure EvalAcc where
  cur : Tab BlkSt
  events : List Event
  counts : List Nat
  startReset : Bool
  safe : Nat
  ropeIdx : Nat

/-- The environment of an evaluation: snapshot, states of the previous scan, effective filters, TRIAL. -/
structure EvalEnv where
  snap : Snap
  prev : Tab BlkSt
  tfil : Nat → Nat
  trial : Bool

/-- The inputs of block number `num` of a lane. -/
def blkInOf (e : EvalEnv) (lane1 : Bool) (acc : EvalAcc) (num : Nat) : BlkIn :=
  { snap := e.snap, sig := sigVal e.snap lane1 e.prev acc.cur, tfil := e.tfil, trial := e.trial, num := num,
    ropeIdx := acc.ropeIdx
    wdSig := fun idx => decide (0x1000 ≤ idx) && (blkSeen lane1 e.prev acc.cur ((idx - 0x1000) / 2)).wdog }

/-- Block `num` with record `k` is evaluated once (R65). -/
def evalStep (e : EvalEnv) (lane1 : Bool) (acc : EvalAcc) (num : Nat) (k : Blk) : EvalAcc :=
  let o := evalBlk (blkInOf e lane1 acc num) k (tabGet blkSt0 acc.cur num)
  { cur := tabPut blkSt0 acc.cur num o.st
    events := acc.events ++ o.events
    counts := acc.counts ++ o.counts
    startReset := acc.startReset || (k.typ = 6 && bitN k.flags 0 && o.st.q)
    safe := if k.typ = 0x21 then setBitN acc.safe (k.p1 % 32) o.st.q else acc.safe
    ropeIdx := if k.typ = 0x20 then acc.ropeIdx + 1 else acc.ropeIdx }

def evalLane (e : EvalEnv) (lane1 : Bool) : EvalAcc → Nat → List Blk → EvalAcc
  | acc, _, [] => acc
  | acc, num, k :: t => evalLane e lane1 (evalStep e lane1 acc num k) (num + 1) t

/-- The output image: a channel is commanded on while it is enabled and its signal is 1 (R99). -/
def outImage (n : Snap) (cur : Tab BlkSt) : Nat → List (Nat × Bool) → Nat
  | _, [] => 0
  | c, (sig, en) :: t => (if en && mapSig n cur sig then 2 ^ c else 0) + outImage n cur (c + 1) t

/-- The aspect requests: for each head the first entry in map order whose condition is 1 (R99). -/
def aspectReqs (n : Snap) (cur : Tab BlkSt) : List (Nat × Nat × Nat) → List (Nat × Nat) → List (Nat × Nat)
  | [], acc => acc
  | (sig, h, a) :: t, acc =>
    aspectReqs n cur t (if mapSig n cur sig && !(acc.any fun p => p.1 = h) then acc ++ [(h, a)] else acc)

/-- One scan of an image (R65): lane 0, lane 1, then the maps. -/
def evalImage (e : EvalEnv) (im : Image) (scan : Nat) : ScanRes :=
  let a0 := evalLane e false ⟨e.prev, [], [], false, 0, 0⟩ 0 im.blocks0
  let a1 := evalLane e true a0 4096 im.blocks1
  { scan := scan, blk := a1.cur, image := outImage e.snap a1.cur 0 (im.omap.take 24)
    aspects := aspectReqs e.snap a1.cur im.amap [], safe := a1.safe, startReset := a1.startReset
    leave := false
    events := a1.events, counts := a1.counts }

end Sys2Proof.Machine
end

