-- ==== Sys2Proof/Machine/Check.lean ====
section
/-!
DEFINITION. Check values: the cyclic redundancy computation of any width, polynomial and reflection (R368 to R371), which the
CRC units, the image and slot checks (R96, R289), the SAFE frames (R214), the journal (R308) and the summit log (R426) use.
-/
namespace Sys2Proof.Machine

/-- Bit reversal of `n` over `w` bits. -/
def reflect : Nat → Nat → Nat
  | 0, _ => 0
  | w + 1, n => n % 2 * 2 ^ w + reflect w (n / 2)

/-- One bit enters the running value of a `w`-bit unit, most significant bit first. -/
def crcBit (w poly v : Nat) (bit : Nat) : Nat :=
  let top := (v / 2 ^ (w - 1) + bit) % 2
  let sh := 2 * v % 2 ^ w
  if top = 1 then Nat.xor sh (poly % 2 ^ w) else sh

/-- The `k` lowest bits of `b` enter, the highest first. -/
def crcBits (w poly : Nat) : Nat → Nat → Nat → Nat
  | 0, _, v => v
  | k + 1, b, v => crcBits w poly k b (crcBit w poly v (b / 2 ^ k % 2))

/-- One byte enters; `refin` reflects it first. -/
def crcByte (w poly : Nat) (refin : Bool) (v : Nat) (b : Byte) : Nat :=
  crcBits w poly 8 (if refin then reflect 8 b.toNat else b.toNat) v

/-- A run of bytes. -/
def crcRun (w poly : Nat) (refin : Bool) (v : Nat) (bs : List Byte) : Nat := bs.foldl (crcByte w poly refin) v

/-- The result of a running value (R370). -/
def crcFinal (w : Nat) (refout : Bool) (xorout v : Nat) : Nat :=
  Nat.xor (if refout then reflect w v else v) (xorout % 2 ^ w)

/-- CRC-32 of R96. -/
def crc32 (bs : List Byte) : Nat := crcFinal 32 true 0xFFFFFFFF (crcRun 32 0x04C11DB7 true 0xFFFFFFFF bs)

/-- CRC-32C of R214, R308 and R426. -/
def crc32c (bs : List Byte) : Nat := crcFinal 32 true 0xFFFFFFFF (crcRun 32 0x1EDC6F41 true 0xFFFFFFFF bs)

end Sys2Proof.Machine
end

