-- ==== Sys2Proof/Machine/Image.lean ====
section
/-!
DEFINITION. The function image: its parts as parsed (R96 to R99) and its verification (R100).
-/
namespace Sys2Proof.Machine

/-- A little-endian field of `n` bytes at offset `o`. -/
def leAt (bs : List Byte) (o n : Nat) : Nat := ofLe ((bs.drop o).take n)

/-- The record at offset `o` of a block table (R97). -/
def parseBlk (bs : List Byte) (o : Nat) : Blk :=
  ⟨leAt bs o 1, leAt bs (o + 1) 1, leAt bs (o + 2) 2, leAt bs (o + 4) 2, leAt bs (o + 6) 2, leAt bs (o + 8) 2, leAt bs (o + 10) 2,
    leAt bs (o + 12) 2, leAt bs (o + 14) 2⟩

def nblk0 (bs : List Byte) : Nat := leAt bs 0x08 2
def nblk1 (bs : List Byte) : Nat := leAt bs 0x0A 2
def nasp (bs : List Byte) : Nat := leAt bs 0x18 2

/-- The image as its parts (R96). -/
def parseImage (bs : List Byte) : Image :=
  { version := leAt bs 4 2, mode := leAt bs 6 1, scan := leAt bs 7 1, cyc0 := leAt bs 0x0C 2, cyc1 := leAt bs 0x0E 2
    blocks0 := (List.range (nblk0 bs)).map fun k => parseBlk bs (64 + 16 * k)
    blocks1 := (List.range (nblk1 bs)).map fun k => parseBlk bs (64 + 16 * (nblk0 bs + k))
    omap := (List.range 24).map fun c =>
      (leAt bs (leAt bs 0x10 4 + 4 * c) 2, decide (leAt bs (leAt bs 0x10 4 + 4 * c + 2) 2 % 2 = 1))
    amap := (List.range (nasp bs)).map fun k =>
      let o := leAt bs 0x14 4 + 4 * k
      (leAt bs o 2, leAt bs (o + 2) 1, leAt bs (o + 3) 1)
    build := (bs.drop 0x20).take 16
    crc := leAt bs (leAt bs 0x30 4 - 4) 4 }

/-- A signal index of R69 whose block exists. -/
def sigOk (n0 n1 idx : Nat) : Bool :=
  decide (idx ≤ 0x104) ||
    (decide (0x1000 ≤ idx) &&
      (let b := (idx - 0x1000) / 2
       decide (b < n0) || (decide (4096 ≤ b) && decide (b < 4096 + n1))))

/-- `lo ≤ x ≤ hi`. -/
def within (lo x hi : Nat) : Bool := decide (lo ≤ x) && decide (x ≤ hi)

/-- A row of R98: the use of IN_A to IN_D (0 dash, 1 signal, 2 pair), the ranges of PARAM0 to PARAM2 (none: a dash), and the FLAGS
bits in use. -/
structure TypeRow where
  ins : List Nat
  pars : List (Option (Nat × Nat))
  flags : Nat
  deriving DecidableEq, Repr

/-- The table of R98. -/
def typeRow : Nat → Option TypeRow
  | 0x01 => some ⟨[2, 0, 1, 0], [some (1, 5000), none, none], 0x03⟩
  | 0x02 => some ⟨[2, 0, 1, 0], [some (1, 5000), none, none], 0x07⟩
  | 0x03 => some ⟨[2, 2, 0, 0], [some (1, 5000), some (100, 500), none], 0x00⟩
  | 0x04 => some ⟨[2, 0, 1, 0], [some (1, 5000), some (0, 2000), none], 0x06⟩
  | 0x05 => some ⟨[1, 1, 1, 0], [some (10, 1000), none, none], 0x00⟩
  | 0x06 => some ⟨[1, 1, 0, 0], [none, none, none], 0x01⟩
  | 0x07 => some ⟨[1, 1, 0, 0], [some (1, 60000), none, none], 0x04⟩
  | 0x10 => some ⟨[1, 1, 1, 1], [none, none, none], 0x0F⟩
  | 0x11 => some ⟨[1, 1, 1, 1], [none, none, none], 0x0F⟩
  | 0x12 => some ⟨[1, 0, 0, 0], [none, none, none], 0x00⟩
  | 0x13 => some ⟨[1, 0, 0, 0], [some (1, 65535), none, none], 0x00⟩
  | 0x14 => some ⟨[1, 0, 0, 0], [some (1, 65535), none, none], 0x00⟩
  | 0x20 => some ⟨[0, 0, 0, 0], [some (1, 65534), some (0, 31), some (0, 65535)], 0x00⟩
  | 0x21 => some ⟨[1, 0, 0, 0], [none, some (0, 31), none], 0x00⟩
  | _ => none

/-- The uses of IN_A to IN_D with their values and their offsets in the record (R97). -/
def insOf (k : Blk) : List (Nat × Nat × Nat) :=
  match typeRow k.typ with
  | none => []
  | some r => r.ins.zip [(k.a, 2), (k.b, 4), (k.c, 6), (k.d, 8)]

/-- The ranges of PARAM0 to PARAM2 with their values and their offsets in the record. -/
def parsOf (k : Blk) : List (Option (Nat × Nat) × Nat × Nat) :=
  match typeRow k.typ with
  | none => []
  | some r => r.pars.zip [(k.p0, 10), (k.p1, 12), (k.p2, 14)]

/-- Offset in the record of the first field with a dash, or unused flag, that is not 0. -/
def blkDashBad (k : Blk) : Option Nat :=
  (((insOf k).find? fun f => f.1 = 0 && f.2.1 ≠ 0).map (·.2.2)).or <|
    (((parsOf k).find? fun f => f.1.isNone && f.2.1 ≠ 0).map (·.2.2)).or <|
      match typeRow k.typ with
      | some r => if (List.range 8).any (fun b => bitN k.flags b && !bitN r.flags b) then some 1 else none
      | none => none

/-- Offset in the record of the first signal index that breaks R69 in an image of `n0` and `n1` blocks. -/
def blkSigBad (n0 n1 : Nat) (k : Blk) : Option Nat := ((insOf k).find? fun f => f.1 = 1 && !sigOk n0 n1 f.2.1).map (·.2.2)

/-- Offset in the record of the first pair number or parameter out of its range. -/
def blkParamBad (k : Blk) : Option Nat :=
  (((insOf k).find? fun f => f.1 = 2 && decide (63 < f.2.1)).map (·.2.2)).or <|
    ((parsOf k).find? fun f => match f.1 with
      | some (lo, hi) => !within lo f.2.1 hi
      | none => false).map (·.2.2)

/-- The pairs a block reads, with the offsets of their fields. -/
def blkPairs (k : Blk) : List (Nat × Nat) := ((insOf k).filter fun f => f.1 = 2).map (·.2)

/-- Offset in the record of the first pair whose FIO mode is not the one the block expects (R100). -/
def pairModeBad (s : State) (k : Blk) : Option Nat :=
  ((blkPairs k).find? fun f =>
    let m := fldGet s (Reg.FIO_PAIR_CFG f.1) F.FIO_PAIR_CFG_MODE
    m ≠ (if k.typ = 3 then 1 else if k.typ = 4 then 2 else k.flags % 2)).map (·.2)

/-- Offset of the tolerance of a light curtain whose pair's FILTER is below it (R44). -/
def toleranceBad (s : State) (k : Blk) : Option Nat :=
  if k.typ = 4 && decide (fldGet s (Reg.FIO_PAIR_CFG k.a) F.FIO_PAIR_CFG_FILTER < k.p1) then some 12 else none

/-- Offset in the image of the first failing field of the block tables, in table order. -/
def firstIn (f : Blk → Option Nat) : Nat → List Blk → Option Nat
  | _, [] => none
  | o, k :: t => match f k with
    | some x => some (o + x)
    | none => firstIn f (o + 16) t

/-- Offset in the image of the first field of `f` that repeats a value of an earlier block. -/
def firstTwice (f : Blk → List (Nat × Nat)) : List Nat → Nat → List Blk → Option Nat
  | _, _, [] => none
  | seen, o, k :: t =>
    match (f k).find? fun v => seen.contains v.1 with
    | some v => some (o + v.2)
    | none => firstTwice f (seen ++ (f k).map (·.1)) (o + 16) t

/-- No number stands twice. -/
def noDup : List Nat → Bool
  | [] => true
  | x :: t => !t.contains x && noDup t

/-- The first of several findings. -/
def firstOf : List (Option (Nat × Nat)) → Option (Nat × Nat)
  | [] => none
  | some x :: _ => some x
  | none :: t => firstOf t

/-- A finding: check `n` fails at the offset. -/
def check (n : Nat) (o : Option Nat) : Option (Nat × Nat) := o.map fun x => (n, x)
def checkAt (n : Nat) (bad : Bool) (o : Nat) : Option (Nat × Nat) := if bad then some (n, o) else none

/-- The checks of R100 over the parts of an image, in the order of the rule: number of the first that fails, and its byte offset.
DESIGN CHOICE (log entry 153): a missing start reset, which has no field, is reported at offset 64, that of the first block. -/
def verifyParts (s : State) (bs : List Byte) (im : Image) : Option (Nat × Nat) :=
  let n0 := nblk0 bs
  let n1 := nblk1 bs
  let blks := im.blocks0 ++ im.blocks1
  let omapOfs := leAt bs 0x10 4
  let amapOfs := leAt bs 0x14 4
  firstOf [
    checkAt 3 (decide (1 < im.mode) || (im.mode = 1 && s.sle.lane1 = 3)) 6,
    checkAt 3 (!within 1 im.scan 64) 7,
    checkAt 3 (!within 1 n0 4096) 8,
    checkAt 3 (decide (4096 < n1) || (im.mode = 0 && n1 ≠ 0)) 0x0A,
    checkAt 3 (decide (256 < nasp bs)) 0x18,
    checkAt 4 (im.cyc0 ≠ 800 + 2 * n0 + nasp bs || decide (10000 * im.scan < im.cyc0)) 0x0C,
    checkAt 4 (im.cyc1 ≠ (if im.mode = 0 then 0 else 800 + 2 * n1) || decide (10000 * im.scan < im.cyc1)) 0x0E,
    check 5 (firstIn (fun k => if (typeRow k.typ).isNone then some 0 else none) 64 blks),
    checkAt 6 (leAt bs 0x1C 4 ≠ 0) 0x1C,
    checkAt 6 (leAt bs 0x34 12 ≠ 0) 0x34,
    check 6 (firstIn blkDashBad 64 blks),
    check 7 (firstIn (blkSigBad n0 n1) 64 blks),
    check 7 ((im.omap.findIdx? fun e => !sigOk n0 n1 e.1).map fun c => omapOfs + 4 * c),
    check 7 ((im.amap.findIdx? fun e => !sigOk n0 n1 e.1).map fun k => amapOfs + 4 * k),
    check 8 (firstIn blkParamBad 64 blks),
    check 9 (firstTwice blkPairs [] 64 blks),
    check 10 (firstIn (pairModeBad s) 64 blks),
    check 11 (firstIn (toleranceBad s) 64 blks),
    checkAt 11 (!blks.any fun k => k.typ = 6 && bitN k.flags 0) 64,
    check 11 (firstTwice (fun k => if k.typ = 0x21 then [(k.p1, 12)] else []) [] 64 blks),
    check 12 ((((blks.zipIdx).filter fun k => k.1.typ = 0x20)[256]?).map fun k => 64 + 16 * k.2),
    check (Config.checkNumber 153).toNat
      (((List.range 24).find? fun c => chRole s c = 3 && (im.omap.getD c (0, false)).2).map fun c => omapOfs + 4 * c)]

/-- The verification of an image (R100, R153): number of the first check that fails and its byte offset. -/
def verifyImage (s : State) (bs : List Byte) : Option (Nat × Nat) :=
  let im := parseImage bs
  let omapOfs := 64 + 16 * (nblk0 bs + nblk1 bs)
  let len := omapOfs + 96 + 4 * nasp bs + 4
  if leAt bs 0 4 ≠ 0x49465856 then some (1, 0)
  else if im.version ≠ 2 then some (1, 4)
  else if leAt bs 0x30 4 ≠ len || bs.length ≠ len then some (1, 0x30)
  else if leAt bs 0x10 4 ≠ omapOfs then some (1, 0x10)
  else if leAt bs 0x14 4 ≠ omapOfs + 96 then some (1, 0x14)
  else if crc32 (bs.take (len - 4)) ≠ im.crc then some (2, len - 4)
  else verifyParts s bs im

end Sys2Proof.Machine
end

