-- ==== Sys2Proof/Machine/Sle.lean ====
section
/-!
DEFINITION. The evaluation engine: lanes, recovery, takeover, image banks and debug access (R104 to R129).
The release at a scan boundary and the start of a scan stand in Scan.lean.
-/
namespace Sys2Proof.Machine

def sleSet (s : State) (f : Sle → Sle) : State := { s with sle := f s.sle }

/-- Content of the active bank. -/
def activeBank (s : State) : List Byte := if s.sle.active then s.sle.bankB else s.sle.bankA

/-- The image that runs. -/
def runImage (s : State) : Image := parseImage (activeBank s)

/-- Mode of the running image: Wide. -/
def wide (s : State) : Bool := s.sle.hasImage && (runImage s).mode = 1

/-- t_scan in ticks (R64); without an image scan boundaries stand on the default 250 µs grid. -/
def tScan (s : State) : Nat := if s.sle.hasImage then (runImage s).scan * 6250 else 25000

/-- Now is a scan boundary. -/
def atBoundary (s : State) : Bool := decide (0 < tScan s) && decide (s.tb % tScan s = 0)

/-- The effective filter time of a pair in µs (R49). -/
def effFilter (s : State) (p : Nat) : Nat :=
  let win := fun i => match srcOf s i with
    | some n => if srcEn s n then tpWinLen s n / 100 else 0
    | none => 0
  max (filterOf s (2 * p)) (max (win (2 * p)) (win (2 * p + 1)))

/-- State of a lane (`SLE_STATUS`): 0 SPARE, 1 ACTIVE, 2 FAILED, 3 UNUSABLE. -/
def laneSt (s : State) (lane : Nat) : Nat := if lane = 0 then s.sle.lane0 else s.sle.lane1
def setLane (s : State) (lane v : Nat) : State :=
  if lane = 0 then { s with sle := { s.sle with lane0 := v } } else { s with sle := { s.sle with lane1 := v } }

/-- Lane 1 is taking over from lane 0 (R121). -/
def takingOver (s : State) : Bool :=
  match s.sle.recov with
  | some r => r.takeover
  | none => false

/-- Lane 1 stands by: SPARE, and not taking over (R122). -/
def standsBy (s : State) : Bool := s.sle.lane1 = 0 && !takingOver s

/-- A lane that evaluates: lane 0 until it fails, lane 1 in Wide mode, while it is ACTIVE and while it takes over (R114, R121). -/
def evaluating (s : State) (lane : Nat) : Bool :=
  s.sle.hasImage && (if lane = 0 then decide (s.sle.lane0 < 2) else s.sle.lane1 = 1 || (s.sle.lane1 = 0 && takingOver s))

/-- The snapshot a scan number was journaled with. -/
def snapOf (s : State) (n : Nat) : Option Snap := (s.sle.snaps.find? fun p => p.1 = n).map (·.2)

/-- Evaluate the running image for scan `n` over its journaled snapshot and the most recent cairn (R65, R110). -/
def evaluate (s : State) (n : Nat) (sn : Snap) (leaveOk : Bool) (trial : Bool) : ScanRes :=
  let r := evalImage ⟨sn, s.sle.cairn, effFilter s, trial⟩ (runImage s) n
  { r with leave := r.startReset && leaveOk && sn.ext }

/-- Neither field bank is in BROWN-OUT (R89). -/
def noBrownOut (s : State) : Bool := levelOf s 0 ≠ .brownOut && levelOf s 1 ≠ .brownOut

/-! ## Mismatch, failure and takeover -/

/-- A scan is in progress, or waits for the partner's IMAGE (R249). -/
def scanning (s : State) : Bool := s.sle.res.isSome || s.bly.waiting.isSome

/-- A recovery of lane `lane` starts now; what it re-runs and what it has skipped go on from a recovery that has not been released
(R114, R118). `lane` is the lane in which the mismatch was detected. After a completed re-run the bank it read is the cairn to
restore again. A lane that the debugger has halted has no scan to re-run: it stands at its cairn again (R127; DESIGN CHOICE, log entry
195). -/
def startRecovery (s : State) (lane sig : Nat) (takeover : Bool) : State :=
  let l := s.sle
  let r : Recov := match l.recov with
    | some v => ⟨if v.phase = 2 then s.tb else v.at_, lane, sig, 0, v.skipped, takeover, v.idle⟩
    | none => ⟨s.tb, lane, sig, 0, 0, takeover, l.halted || !scanning s⟩
  let back := match l.recov with
    | some v => v.phase = 2 && !v.idle
    | none => false
  let s1 := { s with sle := { l with
    recov := some r, res := none
    cairn := if back then l.older else l.cairn
    older := if back then l.cairn else l.older
    cairnBank := if back then !l.cairnBank else l.cairnBank
    dbgCur := if l.halted then l.cairn else l.dbgCur
    dbgNext0 := if l.halted then 0 else l.dbgNext0
    dbgMem := if l.halted then [] else l.dbgMem
    dbgVer := if l.halted then l.dbgVer + 1 else l.dbgVer } }
  if s1.dev = .run || s1.dev = .degraded then enterDev s1 .recovering 0x6001 else s1

/-- A takeover of lane 1 from lane 0's cairn starts as a recovery (R121, R319). -/
def startTakeover (s : State) (sig : Nat) : State :=
  log (startRecovery { s with sle := { s.sle with spareTest := none } } 0 sig true) 0xC001 10 1 1

/-- A lane is failed (R120 to R122): cause 1 repeated signature, 2 re-run mismatch, 3 heartbeat or comparator fault, 4 image
memory, 5 self-test slice. -/
def failLane (s : State) (lane cause sig : Nat) : State :=
  if laneSt s lane = 2 || laneSt s lane = 3 then s
  else
    let spare1 := standsBy s
    let s1 := log (setLane s lane 2) 0x6002 lane cause sig
    if !s.sle.hasImage || s.dev = .faulted then s1
    else if wide s then fatal s1 0x6002 lane
    else if lane = 0 then (if spare1 then startTakeover s1 sig else fatal s1 0x6002 lane)
    else if spare1 then (if s1.dev = .run then enterDev s1 .degraded 0x6002 else s1)
    else fatal s1 0x6002 lane

/-- The last signature, for failures that have none of their own (R120). -/
def lastSig (s : State) : Nat := (regGet s Reg.SLE_MIS_SIG).toNat

/-- Count and show a mismatch (R111, R118, R122). -/
def countMismatch (s : State) (lane : Nat) (sig : Word) : State :=
  let reg := if getF sig F.SLE_MIS_SIG_SRC = 2 then Reg.SLE_LATENT_CNT else Reg.SLE_MIS_CNT
  let s1 := regSet s reg (BitVec.ofNat 32 (satAdd 32 (regGet s reg).toNat 1))
  fldSet (regSet s1 Reg.SLE_MIS_SIG sig) Reg.SLE_STATUS F.SLE_STATUS_MIS_LANE lane

/-- Two recovered mismatches of the lane with this signature lie within the last 10 s (R120). -/
def repeated (s : State) (lane sig : Nat) : Bool :=
  decide (2 ≤ (s.sle.misHist.filter fun m => m.1 = lane && m.2.1 = sig && decide (s.tb < m.2.2 + 1000000000)).length)

/-- A recovered mismatch enters the history; entries older than 10 s leave it. -/
def recordMismatch (s : State) (lane sig : Nat) : State :=
  { s with sle := { s.sle with
      misHist := (lane, sig, s.tb) :: s.sle.misHist.filter (fun m => decide (s.tb < m.2.2 + 1000000000)) } }

/-- How far the recovery in progress is: 0 reset and restore, 1 re-run, 2 complete; 3: none is in progress. -/
def recovPhase (s : State) : Nat :=
  match s.sle.recov with
  | some r => r.phase
  | none => 3

/-- A mismatch of lane 0 while no image runs (R114): its copies are reset, and there is no scan to re-run. DESIGN CHOICE (log entry
195): the recovery completes at once. -/
def bareMismatch (s : State) (sig : Word) : State :=
  let s1 := countMismatch s 0 sig
  if repeated s 0 sig.toNat then failLane s1 0 1 sig.toNat
  else
    let s2 := regSet s1 Reg.SLE_RECOV_CNT (BitVec.ofNat 32 (satAdd 32 (regGet s1 Reg.SLE_RECOV_CNT).toNat 1))
    recordMismatch (log s2 0x6001 sig.toNat 0 0) 0 sig.toNat

/-- The comparator of the lane compares (R106, R127, R128): not while a Wide halt has broken lockstep. -/
def compared (s : State) : Bool := !(s.sle.halted && wide s)

/-- MISMATCH of an evaluating lane (R114, R118, R120): in a re-run it fails the lane; before the release of the scan, also after a
completed re-run, it starts a recovery, unless it fails the lane as the third of its signature. DESIGN CHOICE (log entry 187): while
the copies are in reset and the cairn is restored, before the re-run, it is counted and does nothing else. -/
def mismatch (s : State) (lane : Nat) (sig : Word) : State :=
  if s.dev = .faulted || !compared s then s
  else if lane = 0 && !s.sle.hasImage && decide (s.sle.lane0 < 2) && started s.dev then bareMismatch s sig
  else if !evaluating s lane then s
  else
    let s1 := countMismatch s lane sig
    if recovPhase s = 0 then s1
    else if recovPhase s = 1 then failLane { s1 with sle := { s1.sle with res := none } } lane 2 sig.toNat
    else if repeated s lane sig.toNat then failLane s1 lane 1 sig.toNat
    else startRecovery s1 lane sig.toNat (takingOver s1)

/-- The scan under recovery: the oldest journaled number that has no result released, pinned in the journal (R112, R114). -/
def pinnedScan (s : State) (r : Recov) : Nat := (s.sle.scan + 2 ^ 32 - r.skipped) % 2 ^ 32

/-- The bank that a completed evaluation has written is the cairn, and the one it read is the older one (R110). -/
def takeCairn (s : State) (r : ScanRes) : State :=
  { s with sle := { s.sle with cairn := r.blk, older := s.sle.cairn, cairnBank := !s.sle.cairnBank } }

/-- RECOVERY_COMPLETE (R115, R118): the re-run compared equal, and the bank it has written is the cairn. The mismatch enters the
history of the lane in which it was detected (R120). -/
def recoveryComplete (s : State) : State :=
  match s.sle.recov with
  | none => s
  | some r =>
    if r.phase ≠ 1 || s.dev = .faulted then s
    else
      let s0 := match s.sle.res with
        | some v => takeCairn s v
        | none => s
      let s1 := { s0 with sle := { s0.sle with recov := some { r with phase := 2 } } }
      let s2 := regSet s1 Reg.SLE_RECOV_CNT (BitVec.ofNat 32 (satAdd 32 (regGet s1 Reg.SLE_RECOV_CNT).toNat 1))
      recordMismatch (log s2 0x6001 r.sig (s.tb - r.at_) r.skipped) r.lane r.sig

/-- The recovery limit L × t_scan + 20 µs in ticks (R116). -/
def recoveryLimitTicks (s : State) : Nat := fldGet s Reg.SLE_CFG F.SLE_CFG_RLIM * tScan s + 2000

/-- RECOVERY_LIMIT (R116, R122). -/
def recoveryLimit (s : State) : State :=
  match s.sle.recov with
  | none => s
  | some r =>
    if decide (r.phase < 2) && decide (r.at_ + recoveryLimitTicks s ≤ s.tb) && s.dev ≠ .faulted then
      fatal (log s 0x6007 r.sig (s.tb - r.at_) (if r.takeover then 2 else 1)) 0x6007 r.sig
    else s

/-- SPARE_MISMATCH (R122): lane 1 while SPARE. -/
def spareMismatch (s : State) (sig : Word) : State :=
  if !wide s && standsBy s && getF sig F.SLE_MIS_SIG_SRC ≠ 2 && s.dev ≠ .faulted then
    let s1 := countMismatch s 1 sig
    if repeated s 1 sig.toNat then failLane s1 1 1 sig.toNat
    else recordMismatch (log s1 0x6001 sig.toNat 0 0) 1 sig.toNat
  else s

/-- STATE_ECC (R113): a correctable error is counted; an uncorrectable one in what a scan reads or a restore copies ends in
FAULTED. -/
def stateEcc (s : State) (lane bank word : Nat) (correctable : Bool) : State :=
  if correctable then fldBump s Reg.SLE_ECC_CNT F.SLE_ECC_CNT_STATE 1
  else if (evaluating s lane || takingOver s) && s.dev ≠ .faulted then fatal (log s 0x6005 lane bank word) 0x6005 lane
  else s

/-- COMPARATOR_FAULT (R107). -/
def comparatorFault (s : State) (lane : Nat) : State := failLane s lane 3 (lastSig s)

/-- IMAGE_ECC (R123): a correctable error is counted; an uncorrectable word of the active bank fails the lane. -/
def imageEcc (s : State) (lane : Nat) (correctable : Bool) : State :=
  if correctable then fldBump s Reg.SLE_ECC_CNT F.SLE_ECC_CNT_IMAGE 1
  else if s.sle.hasImage then failLane s lane 4 (lastSig s)
  else s

/-- The injection of this millisecond into group `g` of unit `u` (lane 0, lane 1, management pair) is due (R107, R109). -/
def injectionDue (s : State) (g : Nat) : Bool := decide (s.tb % 100000 = g * 6250)

/-- The bit position advances by one and wraps at the group's width (R107). -/
def advanceBit (s : State) (u g : Nat) : State :=
  let k := 16 * u + g
  { s with sle := { s.sle with
      hbPos := tabPut 0 s.sle.hbPos k ((tabGet 0 s.sle.hbPos k + 1) % max 1 (Config.groupWidth g).toNat) } }

/-- HEARTBEAT_INJECTION into group `g` of lane `lane` at its offset (R107, R108): `full` and `msk` are the dual-rail results,
`sig` the signature of a real difference that shows in the masked comparison. -/
def heartbeat (s : State) (lane g full msk : Nat) (sig : Word) : State :=
  if decide (laneSt s lane < 2) && injectionDue s g then
    let s1 := advanceBit s lane g
    if full = 1 && msk = 2 then
      (if lane = 0 then fldSet s1 Reg.SLE_HB_PASS F.SLE_HB_PASS_LANE0 (fldGet s1 Reg.SLE_HB_PASS F.SLE_HB_PASS_LANE0 + 1)
       else fldSet s1 Reg.SLE_HB_PASS F.SLE_HB_PASS_LANE1 (fldGet s1 Reg.SLE_HB_PASS F.SLE_HB_PASS_LANE1 + 1))
    else if full = 1 && msk = 1 then
      (if lane = 1 && standsBy s then spareMismatch s1 sig else mismatch s1 lane sig)
    else failLane s1 lane 3 (lastSig s)
  else s

/-! ## Loading and swap -/

/-- Firmware sets the loader's source and length for an image of its own (R124). The address it has chosen is a free value, and that
SRAM is the management pair's own (log entry 188). -/
def pointLoader (s : State) (bytes : List Byte) : State :=
  regSet (regSet s Reg.SLE_IMG_SRC (16#32 * (Config.imageSrc s.tb).setWidth 32)) Reg.SLE_IMG_LEN (BitVec.ofNat 32 bytes.length)

/-- LOAD (R124): a load of `bytes` starts, or is refused during a load; `readable`: their source could be read. -/
def loadStart (s : State) (bytes : List Byte) (readable : Bool) : State :=
  if s.sle.loading then fldSet s Reg.SLE_IMG_STAT F.SLE_IMG_STAT_REFUSED 1
  else fldSet { s with sle := { s.sle with loading := true, stream := bytes, streamOk := readable } } Reg.SLE_IMG_STAT
    F.SLE_IMG_STAT_RESULT 1

/-- Bytes of the largest image: header, two tables of 4096 blocks, output map, 256 aspect map entries and the CRC (R96). -/
def imageMax : Nat := 132260

/-- The pair's firmware loads an image (R124, R287, R288, R375). -/
def firmwareLoad (s : State) (bytes : List Byte) : State :=
  loadStart (if s.sle.loading then s else pointLoader s bytes) bytes true

/-- The stream has reached the inactive bank; `equal`: both lanes' read-backs are equal (R124). Before any image runs, bank A is
the inactive one. DESIGN CHOICE (log entry 157): what cannot be read, or is longer than any image, ends mismatched. DESIGN CHOICE (log
entry 188): `SLE_IMG_CRC_A` or `B` shows the CRC computed over the stream, also where it is not the one that the bank holds. -/
def loadDone (s : State) (equal : Bool) : State :=
  if !s.sle.loading then s
  else
    let bytes := s.sle.stream
    let toB := s.sle.hasImage && !s.sle.active
    let crc := crc32 (bytes.take (bytes.length - 4))
    let good := equal && s.sle.streamOk && crc = leAt bytes (bytes.length - 4) 4 && decide (4 < bytes.length) &&
      decide (bytes.length ≤ imageMax)
    let s1 := { s with sle := { s.sle with
      loading := false
      stream := []
      undefA := s.sle.undefA && toB
      undefB := s.sle.undefB && !toB
      bankA := if toB then s.sle.bankA else bytes
      bankB := if toB then bytes else s.sle.bankB } }
    let s2 := regSet s1 (if toB then Reg.SLE_IMG_CRC_B else Reg.SLE_IMG_CRC_A) (BitVec.ofNat 32 crc)
    fldSet s2 Reg.SLE_IMG_STAT F.SLE_IMG_STAT_RESULT (if good then 2 else 3)

/-- Content of the inactive bank. -/
def inactiveBank (s : State) : List Byte :=
  if s.sle.hasImage && !s.sle.active then s.sle.bankB else s.sle.bankA

/-- SWAP (R125): taken only with a MATCHED image that passes the checks and a completed handshake. -/
def swapRequest (s : State) (handshake : Bool) : State :=
  if fldGet s Reg.SLE_IMG_STAT F.SLE_IMG_STAT_RESULT = 2 && handshake && verifyImage s (inactiveBank s) = none then
    fldSet { s with sle := { s.sle with swapPend := true } } Reg.SLE_IMG_STAT F.SLE_IMG_STAT_SWAP_PEND 1
  else s

/-- The lanes as the running image starts: both evaluate in Wide mode; in Compact mode lane 0 does, and lane 1 takes its place from
the zero cairn where lane 0 has failed (R121); without a lane to evaluate it the part enters FAULTED (R122). -/
def assignLanes (s : State) : State :=
  let l := s.sle
  let failed := fatal s 0x6002 (if l.lane0 = 2 then 0 else 1)
  if wide s then
    (if l.lane0 = 2 || 2 ≤ l.lane1 then failed else setLane (setLane s 0 1) 1 1)
  else if l.lane0 < 2 then (if l.lane1 = 1 then setLane (setLane s 0 1) 1 0 else setLane s 0 1)
  else if l.lane1 < 2 then (if l.lane1 = 0 then log (setLane s 1 1) 0xC001 10 1 1 else s)
  else failed

/-- The block has the startup interlock (R75, R98). -/
def interlocked (k : Blk) : Bool := (k.typ = 0x01 || k.typ = 0x02 || k.typ = 0x04) && bitN k.flags 1

/-- The interlocked blocks of a table whose first block has number `o`. -/
def waitingBlocks (o : Nat) (l : List Blk) : Tab BlkSt :=
  (l.zipIdx).filterMap fun v => if interlocked v.1 then some (o + v.2, { blkSt0 with wait := true }) else none

/-- The zero cairn of an image: blocks with the startup interlock wait for a reset (R110). -/
def zeroCairn (im : Image) : Tab BlkSt := waitingBlocks 0 im.blocks0 ++ waitingBlocks 4096 im.blocks1

/-- The image of the inactive bank becomes the running one, from its zero cairn (R110, R119, R125). -/
def startImage (s : State) : State :=
  let toB := s.sle.hasImage && !s.sle.active
  let s1 := { s with
    sle := { s.sle with
      active := toB, hasImage := true, cairn := zeroCairn (parseImage (inactiveBank s)), older := []
      res := none, recov := none, halted := false, swapPend := false }
    bly := { s.bly with waiting := none } }
  fldSet (assignLanes s1) Reg.SLE_IMG_STAT F.SLE_IMG_STAT_SWAP_PEND 0

/-- The swap of R125 at a scan start that is not RECOVERING: none starts while the debugger has halted the lane, nor again at a TB
whose scan has started. -/
def swapNow (s : State) : State :=
  if s.sle.swapPend && atBoundary s && !s.sle.halted && s.sle.lastStart ≠ some s.tb && s.sle.recov = none &&
      (s.dev = .safeStopped || s.dev = .run || s.dev = .degraded) then
    let s1 := startImage s
    let s2 := log s1 0x6003 (b2n s1.sle.active) (runImage s1).crc 0
    enterDev s2 .safeStopped 0x6003
  else s

/-! ## Debug access -/

/-- Address of a debug word in the table of written words: lane, kind (0 state memory, 1 registers) and address. -/
def dbgKey (lane sel addr : Nat) : Nat := (lane * 2 + sel) * 2 ^ 32 + addr

/-- One more debug action in the 16-entry replay FIFO of this tick (R127); none when it is full. -/
def replayPush (s : State) : Option State :=
  let n := if s.sle.replayAt = s.tb then s.sle.replay else 0
  if 16 ≤ n then none else some { s with sle := { s.sle with replayAt := s.tb, replay := n + 1 } }

def dbgErr (s : State) : State := fldSet s Reg.SLE_DBG_CTRL F.SLE_DBG_CTRL_ERR 1
def dbgLane (s : State) : Nat := fldGet s Reg.SLE_DBG_CTRL F.SLE_DBG_CTRL_LANE

/-- The lane field is allowed: lane 1 only in Wide mode (R127, R129). -/
def dbgLaneOk (s : State) : Bool := dbgLane s = 0 || wide s

/-- The debugger halts at block `next` with the states `cur` (R127, R128). DESIGN CHOICE (log entry 155): a halt abandons a recovery in
progress, with its pinned scan. -/
def haltAt (s : State) (lane next : Nat) (cur : Tab BlkSt) : State :=
  let w := wide s
  let at1 := if next < (runImage s).blocks1.length then next else 0
  let s1 := { s with
    sle := { s.sle with
      halted := true, resumed := false, dbgNext0 := if next < (runImage s).blocks0.length then next else 0, dbgNext1 := at1
      dbgCur := cur, res := none, recov := none
      dbgMem := [], dbgVer := s.sle.dbgVer + 1 }
    kill := { s.kill with debugSplit := s.kill.debugSplit || w } }
  let s2 := fldSet s1 Reg.SLE_DBG_CTRL F.SLE_DBG_CTRL_HALTED 1
  let s3 := log s2 0x6008 1 lane (b2n w)
  if active s3.dev then enterDev s3 .safeStopped 0x6008 else s3

/-- The table index of the target lane at which the enabled breakpoint stands (R127). -/
def breakAt (s : State) : Option Nat :=
  let w := (regGet s Reg.SLE_DBG_BP).toNat
  let im := runImage s
  let k := w % 4096
  if bitN w 31 then
    (if k < (if wide s && dbgLane s = 1 then im.blocks1 else im.blocks0).length then some k else none)
  else none

/-- The states of the blocks as the evaluation of a scan reaches table index `k`: both lanes run in step (R66, R127). -/
def evalTo (s : State) (sn : Snap) (k : Nat) : Tab BlkSt :=
  let im := runImage s
  let e : EvalEnv := ⟨sn, s.sle.cairn, effFilter s, s.trial⟩
  let a0 := evalLane e false ⟨s.sle.cairn, [], [], false, 0, 0⟩ 0 (im.blocks0.take k)
  (evalLane e true a0 4096 (im.blocks1.take k)).cur

/-- BREAKPOINT (R127): the lane reaches the breakpoint's table index and halts. -/
def breakHalt (s : State) (sn : Snap) : State :=
  match breakAt s with
  | some k => haltAt s (dbgLane s) k (evalTo s sn k)
  | none => s

/-- HALT (R127). -/
def debugHalt (s : State) : State :=
  if s.sle.hasImage && !s.sle.halted && dbgLaneOk s && started s.dev && s.dev ≠ .faulted then
    haltAt s (dbgLane s) 0 s.sle.cairn
  else dbgErr s

/-- RESUME (R127, R128): Compact continues from its present state at the next scan start; Wide starts from the zero cairn. -/
def debugResume (s : State) : State :=
  if s.sle.halted && dbgLaneOk s then
    let w := s.kill.debugSplit
    let s1 := { s with sle := { s.sle with
      halted := false, resumed := w, dbgMem := []
      cairn := if w then zeroCairn (runImage s) else s.sle.dbgCur
      older := if w then [] else s.sle.older } }
    log (fldSet s1 Reg.SLE_DBG_CTRL F.SLE_DBG_CTRL_HALTED 0) 0x6008 2 (dbgLane s) (b2n w)
  else dbgErr s

/-- The next block of the target lane's table: whether it is lane 1's, its index and its record. -/
def dbgBlock (s : State) : Option (Bool × Nat × Blk) :=
  let im := runImage s
  if wide s && dbgLane s = 1 then im.blocks1[s.sle.dbgNext1]?.map fun k => (true, s.sle.dbgNext1, k)
  else im.blocks0[s.sle.dbgNext0]?.map fun k => (false, s.sle.dbgNext0, k)

/-- ROPE_IN blocks before index `n` of a lane's table: each has its own entry in the snapshot (R94, R112). -/
def ropeInsBefore (im : Image) (lane1 : Bool) (n : Nat) : Nat :=
  ((if lane1 then im.blocks0 ++ im.blocks1.take n else im.blocks0.take n).filter fun b => b.typ = 0x20).length

/-- The states of one lane's blocks from `new`, the other lane's from `old`. -/
def laneStates (lane1 : Bool) (new old : Tab BlkSt) : Tab BlkSt :=
  (if lane1 then old else new).filter (fun p => decide (p.1 < 4096)) ++ (if lane1 then new else old).filter (fun p => decide (4096 ≤ p.1))

/-- STEP (R127, R129): one block of the halted target lane over the last snapshot; after the last block of its table the next scan's
begins. -/
def debugStep (s : State) : State :=
  if !s.sle.halted || !dbgLaneOk s then dbgErr s
  else match dbgBlock s, s.sle.snaps.getLast? with
  | some (lane1, n, k), some (_, sn) =>
    let acc : EvalAcc := ⟨s.sle.dbgCur, [], [], false, 0, ropeInsBefore (runImage s) lane1 n⟩
    let acc1 := evalStep ⟨sn, s.sle.cairn, effFilter s, s.trial⟩ lane1 acc (if lane1 then 4096 + n else n) k
    let last := decide ((if lane1 then (runImage s).blocks1 else (runImage s).blocks0).length ≤ n + 1)
    let next := if last then 0 else n + 1
    { s with sle := { s.sle with
        dbgCur := acc1.cur
        dbgNext0 := if lane1 then s.sle.dbgNext0 else next
        dbgNext1 := if lane1 then next else s.sle.dbgNext1
        cairn := if last then laneStates lane1 acc1.cur s.sle.cairn else s.sle.cairn
        older := if last then s.sle.cairn else s.sle.older
        cairnBank := if last then !s.sle.cairnBank else s.sle.cairnBank
        dbgMem := [], dbgVer := s.sle.dbgVer + 1 } }
  | _, _ => s

/-- What a bank of lane `lane` holds of the image `bs` (R96, R123): the header, the lane's own block table (lane 0's in a Compact
image), the maps and the CRC. -/
def laneBank (bs : List Byte) (lane : Nat) : List Byte :=
  let t0 := 16 * nblk0 bs
  let t1 := 16 * nblk1 bs
  let own := if lane = 1 && leAt bs 6 1 = 1 then ((bs.drop (64 + t0)).take t1) else ((bs.drop 64).take t0)
  bs.take 64 ++ own ++ bs.drop (64 + t0 + t1)

/-- A word of lane `lane`'s image memory: bank A at 0, bank B at 0x20000. A bank that the March test has left reads 0; beyond the
image, and in a bank that a wake has left undefined, the word is free (R124). -/
def imageWord (s : State) (lane addr : Nat) : Word :=
  let inA := decide (addr < 0x20000)
  let bs := if inA then s.sle.bankA else s.sle.bankB
  let v := laneBank bs lane
  let o := if inA then addr else addr - 0x20000
  if o + 4 ≤ v.length then BitVec.ofNat 32 (leAt v o 4)
  else if bs = [] && !(if inA then s.sle.undefA else s.sle.undefB) then 0
  else Config.laneWord lane 2 addr 0 0

/-- A debug word: state memory and registers, whose layout the spec does not give, show what the debugger wrote since the last step,
else a free value; a halted lane's memories stand still. -/
def dbgWord (s : State) (lane sel addr : Nat) : Word :=
  if sel = 2 then imageWord s lane addr
  else (tabFind s.sle.dbgMem (dbgKey lane sel addr)).getD
    (Config.laneWord lane sel addr (if s.sle.halted then 0 else s.tb) s.sle.dbgVer)

/-- A block's state record after the debugger has written `w` at an address that covers it: free field by field (R127). -/
def freeBlk (lane addr block : Nat) (w : Word) (x : BlkSt) : BlkSt :=
  let f := fun k => bitN (Config.stateField lane addr block k w).toNat 0
  let n := fun k => (Config.stateField lane addr block k w).toNat
  { x with
    q := f 0, q2 := f 1, wait := f 2, tpf := f 3, disc := f 4, edm := f 5, sync := f 6, relWait := f 7, wdog := f 8, stuck := f 9
    safeSeen := f 10, timing := f 11, back := f 12, pa := f 13, pb := f 14, pc := f 15, pd := f 16
    dis := if f 17 then some (n 18, f 19) else none
    disR := if f 20 then some (n 21, f 22) else none
    mark := f 23, ignored := f 24
    t0 := if f 25 then some (n 26) else none
    since := n 27 }

/-- Type code of block `b` of the running image; 0 where it has none. -/
def blkTyp (s : State) (b : Nat) : Nat :=
  let im := runImage s
  match (if b < 4096 then im.blocks0[b]? else im.blocks1[b - 4096]?) with
  | some k => k.typ
  | none => 0

/-- The status bits that apply to a block's type (R103). -/
def statusMask : Nat → Nat
  | 0x01 | 0x02 | 0x04 => 0x4F04
  | 0x03 => 0x4760
  | 0x05 => 0x4480
  | 0x06 => 0x4008
  | 0x07 => 0xCC00
  | 0x13 | 0x14 => 0x4400
  | 0x20 => 0x4010
  | _ => 0x4000

/-- A record keeps the status bits of its type only: the others read 0 (R103). -/
def ofType (typ : Nat) (x : BlkSt) : BlkSt :=
  let m := bitN (statusMask typ)
  { x with
    q2 := x.q2 && m 15, q := x.q && m 14, wait := x.wait && m 11, timing := x.timing && m 10, tpf := x.tpf && m 9, disc := x.disc && m 8
    edm := x.edm && m 7, sync := x.sync && m 6, relWait := x.relWait && m 5, wdog := x.wdog && m 4, stuck := x.stuck && m 3
    safeSeen := x.safeSeen && m 2 }

/-- A word of state memory that the debugger writes changes the records it covers, those of two blocks at most: 6 bytes each
(R110, R127). -/
def pokeState (s : State) (lane addr : Nat) (w : Word) : Tab BlkSt :=
  let b := (Config.stateBlock lane addr).toNat
  let put := fun (t : Tab BlkSt) (k : Nat) => tabPut blkSt0 t k (ofType (blkTyp s k) (freeBlk lane addr k w (tabGet blkSt0 t k)))
  put (put s.sle.dbgCur b) (b + 1)

/-- A ROPE_IN watchdog count that the debugger has written: the subscription of the block is live or expired, from a free instant on
(R94, R110). -/
def pokeWatchdog (s : State) (lane addr : Nat) (w : Word) : State :=
  let k := blkTyp s (Config.contextBlock lane addr).toNat
  let im := runImage s
  let b := (Config.contextBlock lane addr).toNat
  let node := match (if b < 4096 then im.blocks0[b]? else im.blocks1[b - 4096]?) with
    | some v => v.p0
    | none => 0
  if k = 0x20 then
    let x : SubSt := { tabGet subSt0 s.rope.subs node with
      live := bitN (Config.stateField lane addr b 28 w).toNat 0, last := (Config.stateField lane addr b 29 w).toNat }
    { s with rope := { s.rope with subs := tabPut subSt0 s.rope.subs node x } }
  else s

/-- A word of state memory that covers the lane context (R110): the scan number, the outgoing SAFE bits or a ROPE_IN watchdog count is
free. The copies of the released image and of the aspect requests are read by nothing until the next scan writes them. -/
def pokeContext (s : State) (lane addr : Nat) (w : Word) : State :=
  match (Config.contextPart lane addr).toNat with
  | 1 => { s with sle := { s.sle with scan := (Config.stateField lane addr 0 30 w).toNat % 2 ^ 32 } }
  | 2 => { s with sle := { s.sle with safe := (Config.stateField lane addr 0 31 w).toNat % 2 ^ 32 } }
  | 3 => pokeWatchdog s lane addr w
  | _ => s

/-- DEBUG_RD (R127): without halting in Compact mode, halted in Wide mode. -/
def debugRead (s : State) : State :=
  let sel := fldGet s Reg.SLE_DBG_CTRL F.SLE_DBG_CTRL_SEL
  if decide (sel < 3) && dbgLaneOk s then
    regSet s Reg.SLE_DBG_DATA (dbgWord s (dbgLane s) sel (regGet s Reg.SLE_DBG_ADDR).toNat)
  else dbgErr s

/-- DEBUG_WR (R127): halted only, state memory or registers. -/
def debugWrite (s : State) : State :=
  let sel := fldGet s Reg.SLE_DBG_CTRL F.SLE_DBG_CTRL_SEL
  let a := (regGet s Reg.SLE_DBG_ADDR).toNat
  let w := regGet s Reg.SLE_DBG_DATA
  if s.sle.halted && decide (sel < 2) && dbgLaneOk s then
    let s1 := { s with sle := { s.sle with
        dbgMem := tabIns s.sle.dbgMem (dbgKey (dbgLane s) sel a) w
        dbgCur := if sel = 0 then pokeState s (dbgLane s) a w else s.sle.dbgCur } }
    if sel = 0 then pokeContext s1 (dbgLane s) a w else s1
  else dbgErr s

/-! ## The re-run -/

/-- The disturbed scan still waits for the partner's IMAGE (R249). -/
def rerunWaits (s : State) (r : Recov) : Bool := s.bly.waiting.isSome && r.skipped = 0

/-- RERUN_START (R114): reset and restore complete; the disturbed scan runs again from its journaled snapshot. -/
def rerunStart (s : State) : State :=
  match s.sle.recov with
  | none => s
  | some r =>
    if r.phase ≠ 0 || s.dev = .faulted || rerunWaits s r then s
    else if r.idle then { s with sle := { s.sle with recov := some { r with phase := 1 } } }
    else match snapOf s (pinnedScan s r) with
    | none => s
    | some sn =>
      if (breakAt s).isSome then breakHalt s sn
      else
      let res := evaluate s (pinnedScan s r) sn (noBrownOut s) s.trial
      let res1 := { res with events := res.events.map fun e => { e with tb := s.tb } }
      { s with sle := { s.sle with recov := some { r with phase := 1 }, res := some res1 } }

end Sys2Proof.Machine
end

