-- ==== Sys2Proof/Machine/Rope.lean ====
section
/-!
DEFINITION. The Rope network: frames and their bytes, own SAFE frames, forwarding and egress queues, subscriptions, ring healing
and ring time (R210 to R234).
-/
namespace Sys2Proof.Machine

def portGet (s : State) (p : Nat) : PortSt := tabGet portSt0 s.rope.ports p
def portSet (s : State) (p : Nat) (x : PortSt) : State :=
  { s with rope := { s.rope with ports := tabPut portSt0 s.rope.ports p x } }
def subGet (s : State) (n : Nat) : SubSt := tabGet subSt0 s.rope.subs n
def subSet (s : State) (n : Nat) (x : SubSt) : State :=
  { s with rope := { s.rope with subs := tabPut subSt0 s.rope.subs n x } }

/-! ## Frames as bytes (R213 to R216) -/

/-- Destination, source, EtherType, type and version of a frame of type `t` from node `n`. -/
def frameHead (t n : Nat) : List Byte :=
  [0x03, 0x56, 0x58, 0x4B, 0x00, BitVec.ofNat 8 t, 0x02, 0x56, 0x58, 0x4B, BitVec.ofNat 8 (n / 256), BitVec.ofNat 8 n,
   0x88, 0xB5, BitVec.ofNat 8 t, 0x01]

/-- Bytes 14 to 55 of a SAFE frame (R214), with HOPS as `hops`. -/
def safeBody (f : SafeFrame) (hops : Nat) : List Byte :=
  [0x01, 0x01] ++ leBytes 2 f.node.toNat ++ leBytes 4 f.seq.toNat ++ [BitVec.ofNat 8 hops, f.state] ++ leBytes 4 f.bits.toNat ++
    [f.scan, f.hlim] ++ leBytes 8 f.tbs.toNat ++ List.replicate 18 0

/-- CHK of a SAFE frame: byte 22 is taken as 0 (R214). -/
def safeChk (f : SafeFrame) : Nat := crc32c (safeBody f 0)

/-- Bytes 14 to 55 of a COMMIT frame (R216). -/
def commitBody (f : CommitFrame) (hops : Nat) : List Byte :=
  [0x03, 0x01] ++ leBytes 2 f.src.toNat ++ leBytes 4 f.num.toNat ++ [BitVec.ofNat 8 hops, 0] ++ leBytes 8 f.ta.toNat ++
    List.replicate 24 0

def commitChk (f : CommitFrame) : Nat := crc32c (commitBody f 0)

/-- A frame is padded to 64 bytes with its FCS (R216). -/
def padded (l : List Byte) : List Byte := l ++ List.replicate (60 - l.length) 0

/-- The bytes of a frame before its FCS. -/
def frameBytes : RopeFrame → List Byte
  | .safe f => frameHead 1 f.node.toNat ++ (safeBody f f.hops.toNat).drop 2 ++ leBytes 4 f.chk.toNat
  | .object f => padded (frameHead 2 f.src.toNat ++ leBytes 2 f.src.toNat ++ leBytes 2 f.dst.toNat ++ leBytes 2 f.msg.length ++
      [f.hops, 0] ++ f.msg)
  | .commit f => frameHead 3 f.src.toNat ++ (commitBody f f.hops.toNat).drop 2 ++ leBytes 4 f.chk.toNat
  | .time f => padded (frameHead 4 f.src.toNat ++ leBytes 2 f.src.toNat ++ [f.sub, 0] ++ leBytes 2 f.seq.toNat ++
      [f.hops, f.steps] ++ leBytes 8 f.t1.toNat ++ leBytes 8 f.corr.toNat ++ leBytes 8 f.t2.toNat ++ leBytes 8 f.t3.toNat)
  | .ring f => padded (frameHead 5 f.src.toNat ++ leBytes 2 f.src.toNat ++ [f.sub, f.port] ++ leBytes 2 f.seq.toNat ++
      [f.hops, 0] ++ leBytes 2 f.peer.toNat)

/-- Length on the wire, FCS included. -/
def frameLen (f : RopeFrame) : Nat := (frameBytes f).length + 4

/-- Ticks a frame of `n` bytes takes with preamble and gap: 20 more bytes of 8 ns. -/
def wireTicks (n : Nat) : Nat := ((n + 20) * 8 + 9) / 10

/-- Priority class (R217): 0 SAFE, 1 RING-CONTROL, 2 TIME, 3 COMMIT, 4 OBJECT. -/
def frameClass : RopeFrame → Nat
  | .safe _ => 0
  | .ring _ => 1
  | .time _ => 2
  | .commit _ => 3
  | .object _ => 4

/-! ## Ports -/

def nodeNum (s : State) : Nat := fldGet s Reg.ROPE_NODE F.ROPE_NODE_NODE
def portStat (s : State) (p : Nat) (f : Fld) : Nat := fldGet s (Reg.ROPE_PORT_STAT p) f

/-- The port is up (R210, R212). -/
def portUp (s : State) (p : Nat) : Bool := nodeNum s ≠ 0 && portStat s p F.ROPE_PORT_STAT_LINK = 1

/-- The port is blocked: a standby or a broken link (R226, R227). -/
def portBlocked (s : State) (p : Nat) : Bool :=
  portStat s p F.ROPE_PORT_STAT_STBY = 1 || portStat s p F.ROPE_PORT_STAT_BROKEN = 1

def inRing (s : State) : Bool := fldGet s Reg.ROPE_CFG F.ROPE_CFG_TOPO = 1

/-- Ports a frame from `p` is forwarded to: up, not blocked, not its ingress. -/
def forwardPorts (s : State) (p : Nat) : List Nat :=
  (List.range 3).filter fun q => q ≠ p && portUp s q && !portBlocked s q

def upPorts (s : State) : List Nat := (List.range 3).filter (portUp s)

/-- W in ns (R218). -/
def safeWindowNs (s : State) : Nat :=
  8000 + fldGet s Reg.ROPE_CFG F.ROPE_CFG_HMAX * (1200 + 672 * fldGet s Reg.ROPE_CFG F.ROPE_CFG_MERGES)

/-- SAFE_WINDOW (R218). -/
def safeWindow (s : State) : State :=
  if s.tb % 6250 = 0 then { s with rope := { s.rope with winEnd := s.tb + (safeWindowNs s + 9) / 10 } } else s

/-! ## Egress -/

/-- TB in ns. -/
def nowNs (s : State) : Nat := s.tb * 10

/-- A TIME frame is stamped as it leaves: T1 of an own SYNC or DREQ, the residence in CORR of a passed-on SYNC, T3 of a DRESP
(R229). The stamp of a passed-on SYNC is 1 more than the TB in ns at which its residence began, and 0 marks an own one. -/
def stampTime (s : State) (it : TxItem) : RopeFrame :=
  match it.frame with
  | .time f =>
    if f.sub = 0 then
      (if it.stamp = 0 then .time { f with t1 := BitVec.ofNat 64 (nowNs s) }
       else .time { f with corr := f.corr + BitVec.ofNat 64 (nowNs s + 1 - it.stamp) })
    else if f.sub = 1 then .time { f with t1 := BitVec.ofNat 64 (nowNs s) }
    else .time { f with t3 := BitVec.ofNat 64 (nowNs s) }
  | f => f

/-- Port `p` begins to send a frame. -/
def emit (s : State) (p : Nat) (f : RopeFrame) (bad : Bool) : State :=
  let old := if s.rope.outAt = s.tb then s.rope.out else []
  let s1 := { s with rope := { s.rope with outAt := s.tb, out := old ++ [⟨p, f, bad⟩] } }
  let x := portGet s1 p
  let s2 := portSet s1 p { x with busy := max s.tb x.busy + wireTicks (frameLen f) }
  match f with
  | .time t => if t.sub = 1 then portSet s2 p { portGet s2 p with dreqAt := nowNs s } else s2
  | _ => s2

/-- The reserved SAFE window is open: it opens at each TB multiple of 62.5 µs (R218). -/
def safeOpen (s : State) : Bool := decide (s.tb < s.rope.winEnd) || decide (s.tb % 6250 * 10 < safeWindowNs s)

/-- The egress is free for a frame other than SAFE that ends, with its gap, `n` ticks from now: no window is open or opens before
(R218). -/
def mayStart (s : State) (p n : Nat) : Bool :=
  portUp s p && decide ((portGet s p).busy ≤ s.tb) && (portGet s p).safeQ.isEmpty && !safeOpen s &&
    decide (s.tb + n ≤ (s.tb / 6250 + 1) * 6250)

/-- The frame a port sends next: the oldest of the highest class (R217). -/
def nextItem (q : List TxItem) : Option TxItem :=
  match q.find? (fun i => frameClass i.frame = 1) with
  | some i => some i
  | none => match q.find? (fun i => frameClass i.frame = 2) with
    | some i => some i
    | none => match q.find? (fun i => frameClass i.frame = 3) with
      | some i => some i
      | none => q.head?

/-- The SAFE frame a port sends next: the oldest in transit, then the own one (R217). -/
def nextSafe (q : List SafeItem) : Option SafeItem := (q.find? fun i => !i.own).or q.head?

/-- Port `p` sends the next frame of its queues if it may, a SAFE frame first (R217). -/
def pump (s : State) (p : Nat) : State :=
  match nextSafe (portGet s p).safeQ with
  | some i =>
    if !portUp s p then portSet s p { portGet s p with safeQ := [] }
    else if (portGet s p).busy ≤ s.tb then
      emit (portSet s p { portGet s p with safeQ := (portGet s p).safeQ.erase i }) p (.safe i.frame) i.bad
    else s
  | none =>
    match nextItem (portGet s p).queue with
    | none => s
    | some i =>
      if mayStart s p (wireTicks (frameLen i.frame)) then
        emit (portSet s p { portGet s p with queue := (portGet s p).queue.erase i }) p (stampTime s i) false
      else s

/-- A SAFE frame goes to egress `p`: at once where it is free, else in the first gap (R217, R219, R222). -/
def emitSafe (s : State) (p : Nat) (i : SafeItem) : State :=
  pump (portSet s p { portGet s p with safeQ := (portGet s p).safeQ ++ [i] }) p

def pumpPorts (s : State) : State := pump (pump (pump s 0) 1) 2

/-- Put a non-SAFE frame in its class queue; a full queue drops and counts it (R217). -/
def enqueue (s : State) (p : Nat) (i : TxItem) : State :=
  let x := portGet s p
  if 8 ≤ (x.queue.filter fun j => frameClass j.frame = frameClass i.frame).length then
    fldBump s (Reg.ROPE_PORT_ERR p) F.ROPE_PORT_ERR_DROP 1
  else pump (portSet s p { x with queue := x.queue ++ [i] }) p

/-- Originated frames on their way out: OBJECT responses, COMMIT and RING-CONTROL frames of this node (R314), one for each hand-over that
some port has still to send. -/
def ownQueued (s : State) : List RopeFrame :=
  let own := fun (f : RopeFrame) => match f with
    | .object g => g.src.toNat = nodeNum s
    | .commit g => g.src.toNat = nodeNum s
    | .ring g => g.src.toNat = nodeNum s
    | _ => false
  let at_ := fun (p : Nat) => ((portGet s p).queue.map (·.frame)).filter own
  let all := ((List.range 3).flatMap at_).eraseDups
  all.flatMap fun f => List.replicate (max ((at_ 0).count f) (max ((at_ 1).count f) ((at_ 2).count f))) f

def ledgerFrames (s : State) : Nat := (ownQueued s).length

/-- Own frames that have not left, those that wait for the quota among them (R262, R314). -/
def ownFrames (s : State) : List RopeFrame := ownQueued s ++ s.rope.held.map (·.2)

/-- A frame is handed over to the egress queues of the ports `ps` that are up. -/
def handOver (s : State) (ps : List Nat) (f : RopeFrame) (stamp : Nat) : State :=
  (ps.filter (portUp s)).foldl (fun s p => enqueue s p ⟨f, stamp⟩) s

/-- Frames that wait in the management pair leave it while the quota of R314 has room. -/
def releaseHeld : Nat → State → State
  | 0, s => s
  | k + 1, s =>
    match s.rope.held with
    | [] => s
    | (ps, f) :: t =>
      if ledgerFrames s < 12 then releaseHeld k (handOver { s with rope := { s.rope with held := t } } ps f 0) else s

/-- An own non-SAFE frame goes out on the ports `ps` that are up; one that the ledger counts waits while its quota is full. -/
def sendOn (s : State) (ps : List Nat) (f : RopeFrame) (stamp : Nat) : State :=
  match f with
  | .time _ => handOver s ps f stamp
  | _ => releaseHeld 13 { s with rope := { s.rope with held := s.rope.held ++ [(ps, f)] } }

/-- The ports send what they may, and frames that waited for the quota follow. -/
def pumpAll (s : State) : State := releaseHeld 13 (pumpPorts s)

/-- Forward a non-SAFE frame: cut-through if the egress is idle and 2.208 µs remain before the next window, else stored (R220).
A bad FCS is passed on inverted and counted at the egress; a stored bad frame is discarded, counted at its ingress alone. -/
def forwardItem (s : State) (q : Nat) (f : RopeFrame) (fcs : Bool) : State :=
  if (portGet s q).queue.isEmpty && mayStart s q 221 then
    (let s1 := emit s q f (!fcs)
     if fcs then s1 else fldBump s1 (Reg.ROPE_PORT_ERR q) F.ROPE_PORT_ERR_FCS 1)
  else if fcs then enqueue s q ⟨f, 0⟩
  else s

/-! ## Own SAFE frames (R215, R216, R237) -/

/-- The node is in the safe state as R215 and R10 mean it. -/
def inSafeState (s : State) : Bool := !active s.dev || killAsserted s

/-- STOP of R215. -/
def stopSent (s : State) : Bool := inSafeState s || s.sout.gstop ≠ 0

/-- SCAN of the own frames: that of the image that runs or ran last, and 4 before the first scan or without an image (R216). -/
def scanCode (s : State) : Nat := if s.sle.hasImage && s.sle.lastStart.isSome then (runImage s).scan else 4

/-- The grid of the own frames in ticks (R216). -/
def safeGrid (s : State) : Nat := scanCode s * 6250

/-- The own SAFE frame of the boundary at TB `tbs` (R214, R215). -/
def ownSafe (s : State) (tbs : Nat) : SafeFrame :=
  let hl := BitVec.ofNat 8 (fldGet s Reg.ROPE_CFG F.ROPE_CFG_HLIM)
  let stop := stopSent s
  let st := 128 * b2n stop + 64 * b2n (pairMember s) + 32 * b2n s.rope.unlocked + devCode s.dev
  let f : SafeFrame := ⟨BitVec.ofNat 16 (nodeNum s), BitVec.ofNat 32 s.rope.seq, hl, BitVec.ofNat 8 st,
    BitVec.ofNat 32 (if stop then 0 else s.sle.safe), BitVec.ofNat 8 (scanCode s), hl, BitVec.ofNat 64 tbs, 0⟩
  { f with chk := BitVec.ofNat 32 (safeChk f) }

/-- The members exchange the pair's frame: PAIRED, or in a replacement (R237). -/
def sharesSafe (s : State) : Bool := pairMember s && (pstate s = 2 || pstate s = 4 || pstate s = 5)

/-- The own SAFE frame `f` goes to every port that is up, and takes its SEQ; a frame of the pair has been sent where either member
sends it (R214, R237). -/
def sendSafe (s : State) (f : SafeFrame) : State :=
  let s1 := (upPorts s).foldl (fun s p => emitSafe s p ⟨f, false, true⟩) s
  if (upPorts s).isEmpty && !sharesSafe s then s1 else { s1 with rope := { s1.rope with seq := (f.seq.toNat + 1) % 2 ^ 32 } }

/-- The pair's frame as this member sends it: its own conditions for STOP hold at the transmit instant (R215, R216, R237). The
SAFE-STOPPED of a newcomer that has not entered RUN yet is no such condition (R237; log entry 171). -/
def pairFrame (s : State) (f : SafeFrame) : SafeFrame :=
  if s.sout.gstop ≠ 0 || (inSafeState s && !(pstate s = 5 && !s.bly.ran)) then
    let g := { f with bits := 0, state := BitVec.ofNat 8 (128 + f.state.toNat % 128 / 8 * 8 + devCode s.dev) }
    { g with chk := BitVec.ofNat 32 (safeChk g) }
  else f

/-- SAFE_FRAME_TX (R216, R237): 7.2 µs after a scan boundary. The members of a pair send the frame that the leader has built at the
boundary. -/
def safeFrameTx (s : State) : State :=
  if s.dev ≠ .powerUp && decide (720 ≤ s.tb) && decide (0 < safeGrid s) && decide ((s.tb - 720) % safeGrid s = 0) then
    match (if sharesSafe s then s.bly.copy.filter fun f => f.tbs.toNat = s.tb - 720 else none) with
    | some f => sendSafe s (pairFrame s f)
    | none => if sharesSafe s && !isLeader s then s else sendSafe s (ownSafe s (s.tb - 720))
  else s

/-! ## Receiving -/

/-- Three scan periods of the neighbour, in ticks (R227); 250 µs each before its first SAFE frame. -/
def silentTicks (x : PortSt) : Nat := 3 * (if x.nscan = 0 then 4 else x.nscan) * 6250

/-- No valid frame has arrived for that time. -/
def silent (s : State) (x : PortSt) : Bool :=
  match x.lastValid with
  | some t => decide (t + silentTicks x ≤ s.tb)
  | none => true

/-- A port hears a valid frame; a SAFE frame with HOPS = HLIM comes from the neighbour (R227). On a broken link a run of valid frames
starts or goes on (R228). -/
def heard (s : State) (p : Nat) (f : RopeFrame) : State :=
  let x := portGet s p
  let s1 := portSet s p { x with lastValid := some s.tb, good := if silent s x then some s.tb else some (x.good.getD s.tb) }
  match f with
  | .safe g =>
    if g.hops = g.hlim then
      fldSet (portSet s1 p { portGet s1 p with nscan := g.scan.toNat }) (Reg.ROPE_PORT_STAT p) F.ROPE_PORT_STAT_NEIGH g.node.toNat
    else s1
  | _ => s1

/-- Nodes the ROPE_IN blocks of the running image subscribe to, one each in block order, with PARAM2 of the first (R223, R224). -/
def subsOf : List Blk → List (Nat × Nat) → List (Nat × Nat)
  | [], acc => acc
  | k :: t, acc =>
    subsOf t (if k.typ = 0x20 && !(acc.any fun v => v.1 = k.p0) then acc ++ [(k.p0, k.p2)] else acc)

def subscriptions (s : State) : List (Nat × Nat) :=
  if s.sle.hasImage then subsOf ((runImage s).blocks0 ++ (runImage s).blocks1) [] else []

/-- T_wd in ticks (R224). -/
def tWd (s : State) (x : SubSt) (p2 : Nat) : Nat :=
  if p2 = 0 then 3 * x.scan * 6250 + x.hlim.getD (fldGet s Reg.ROPE_CFG F.ROPE_CFG_HMAX) * 120 + 2000 else p2 * tScan s

/-- A SAFE frame with good FCS and CHK meets its subscription (R223, R224). -/
def acceptSafe (s : State) (f : SafeFrame) : State :=
  match (subscriptions s).find? fun v => v.1 = f.node.toNat with
  | none => s
  | some (n, p2) =>
    let x := subGet s n
    let newer := match x.seq with
      | none => true
      | some q => serialNewer f.seq.toNat q
    if newer && decide (s.tb ≤ f.tbs.toNat + tWd s x p2) then
      let run := match x.seq with
        | some q => if f.seq.toNat = (q + 1) % 2 ^ 32 then min 2 (x.run + 1) else 1
        | none => 1
      subSet s n { seq := some f.seq.toNat, last := s.tb, bits := if bitN f.state.toNat 7 then 0 else f.bits.toNat,
                   scan := f.scan.toNat, hlim := some f.hlim.toNat, dist := (f.hlim.toNat + 33 - f.hops.toNat) % 32,
                   live := x.live || decide (2 ≤ run), run := run }
    else fldBump s Reg.ROPE_DISCARD_CNT F.ROPE_DISCARD_CNT_STALE 1

/-- DUP_NODE (R225). -/
def dupNode (s : State) (p : Nat) : State :=
  if fldGet s Reg.ROPE_STATUS F.ROPE_STATUS_DUP_NODE = 1 then s
  else fatal (log (fldSet s Reg.ROPE_STATUS F.ROPE_STATUS_DUP_NODE 1) 0x9004 (nodeNum s) p 0) 0x9004 (nodeNum s)

/-- BELAY_SPLIT (R258): in the arbitration a newer pair frame shows that the leader lives. -/
def belaySplit (s : State) (f : SafeFrame) : State :=
  let newer := match s.bly.copy with
    | some g => serialNewer f.seq.toNat g.seq.toNat
    | none => true
  if s.bly.arb.isSome && newer then
    let s1 := fldSet { s with bly := { s.bly with arb := none } } Reg.BLY_STATUS F.BLY_STATUS_PSTATE 7
    let s2 := log s1 0xA002 f.seq.toNat 0 0
    if active s2.dev then enterDev s2 .safeStopped 0 else s2
  else s

/-- Delivery of a SAFE frame with good FCS (R223, R225, R237). -/
def deliverSafe (s : State) (p : Nat) (f : SafeFrame) : State :=
  if f.chk.toNat ≠ safeChk f then fldBump s Reg.ROPE_SAFE_CNT F.ROPE_SAFE_CNT_CHK 1
  else if f.node.toNat = nodeNum s then
    (if bitN f.state.toNat 6 && pairMember s then belaySplit s f else dupNode s p)
  else acceptSafe s f

/-- The ROPE_RXn→switch FIFO of port `p` holds this many bytes: the switch takes them out at line rate, 8 ns each (R19). -/
def rxFill (s : State) (p : Nat) : Nat := ((portGet s p).rxEnd - nowNs s + 7) / 8

/-- A frame comes in through the FIFO of its port; one for which its 2 KiB have no room is dropped there, and RX_OVF shows it (R19,
R24). DESIGN CHOICE (log entry 185): such a frame does not count in `ROPE_PORTn_ERR`.DROP, which counts the egress queues. -/
def throughFifo (s : State) (p : Nat) (f : RopeFrame) (act : State → State) : State :=
  if !portUp s p then s
  else if 2048 < rxFill s p + frameLen f then
    fldSet s Reg.SYS_XING_STATUS F.SYS_XING_STATUS_RX_OVF (setBitN (fldGet s Reg.SYS_XING_STATUS F.SYS_XING_STATUS_RX_OVF) p true)
  else act (portSet s p { portGet s p with rxEnd := max (nowNs s) (portGet s p).rxEnd + 8 * frameLen f })

def foreign (s : State) : State := fldBump s Reg.ROPE_DISCARD_CNT F.ROPE_DISCARD_CNT_FOREIGN 1

/-- FOREIGN_FRAME (R213). -/
def foreignFrame (s : State) (p : Nat) : State := if portUp s p then foreign s else s

/-- SAFE_FRAME (R219, R223, R226). -/
def safeFrame (s : State) (p : Nat) (f : SafeFrame) (fcs : Bool) : State :=
  if !portUp s p then s
  else if f.hops = 0 || 19 < f.hops.toNat then foreign s
  else
    let s1 := if fcs then heard s p (.safe f) else fldBump s (Reg.ROPE_PORT_ERR p) F.ROPE_PORT_ERR_FCS 1
    if portBlocked s p then s1
    else
      let s2 := if 1 < f.hops.toNat && f.node.toNat ≠ nodeNum s then
          (forwardPorts s p).foldl (fun s q =>
            let t := emitSafe s q ⟨{ f with hops := f.hops - 1 }, !fcs, false⟩
            if fcs then t else fldBump t (Reg.ROPE_PORT_ERR q) F.ROPE_PORT_ERR_FCS 1) s1
        else s1
      if fcs then deliverSafe s2 p f else s2

/-- The port that links a Belay member to its partner: the one whose neighbour has the pair's number (R238). -/
def partnerPort (s : State) (p : Nat) : Bool :=
  pairMember s && decide (portStat s p F.ROPE_PORT_STAT_NEIGH = nodeNum s)

/-- Ports that a non-SAFE frame from `src` is forwarded to (R220, R281). -/
def relayPorts (s : State) (p src : Nat) : List Nat :=
  if src = nodeNum s then (if partnerPort s p then (forwardPorts s p).filter (fun q => !partnerPort s q) else [])
  else forwardPorts s p

/-- Reception of a non-SAFE frame that may be forwarded: HOPS, SRC, blocking and forwarding (R220, R226). The second value says
whether it is delivered here. -/
def relay (s : State) (p : Nat) (src hops : Nat) (fcs ring stays : Bool) (f out : RopeFrame) : State × Bool :=
  if !portUp s p then (s, false)
  else if hops = 0 then (foreign s, false)
  else
    let s1 := if fcs then heard s p f else fldBump s (Reg.ROPE_PORT_ERR p) F.ROPE_PORT_ERR_FCS 1
    if portBlocked s p && !ring then (s1, false)
    else
      let s2 := if 1 < hops && !stays then
          (relayPorts s p src).foldl (fun s q => forwardItem s q out fcs) s1
        else s1
      (s2, fcs && !(src = nodeNum s))

/-- OBJECT_FRAME (R220, R281): forwarding; the answer says whether the message goes to the object service. -/
def objectFrame (s : State) (p : Nat) (f : ObjFrame) (fcs : Bool) : State × Bool :=
  let own := decide (f.dst.toNat = nodeNum s)
  let pairRelay := own && pairMember s && !partnerPort s p
  let r := relay s p f.src.toNat f.hops.toNat fcs false own (.object f) (.object { f with hops := f.hops - 1 })
  let s1 := if r.2 && pairRelay then
      ((upPorts r.1).filter (partnerPort r.1)).foldl (fun s q => forwardItem s q (.object { f with hops := f.hops - 1 }) fcs) r.1
    else r.1
  (s1, r.2 && (own || f.dst = 0xFFFF))

/-- COMMIT_FRAME (R192, R220). -/
def commitFrame (s : State) (p : Nat) (f : CommitFrame) (fcs : Bool) : State :=
  let r := relay s p f.src.toNat f.hops.toNat fcs false false (.commit f) (.commit { f with hops := f.hops - 1 })
  if r.2 && f.chk.toNat = commitChk f then commitOffer r.1 f.num.toNat f.ta.toNat else r.1

/-- COMMIT_GO (R191 to R194): offered to ASP, and with SEND also sent on the Rope. -/
def commitGo (s : State) (send : Bool) : State :=
  let n := commitNum s
  let ta := commitTa s
  let s1 := commitOffer s n ta
  if send then
    let f : CommitFrame := ⟨BitVec.ofNat 16 (nodeNum s), BitVec.ofNat 32 n, 255, BitVec.ofNat 64 ta, 0⟩
    sendOn s1 [0, 1, 2] (.commit { f with chk := BitVec.ofNat 32 (commitChk f) }) 0
  else s1

/-! ## Subscriptions at a scan start (R224) -/

/-- SUB_EXPIRED of subscription `k`: its watchdog has run out. -/
def expireSub (s : State) (k : Nat) (v : Nat × Nat) : State :=
  let x := subGet s v.1
  if x.live && decide (x.last + tWd s x v.2 < s.tb) then
    log (fldBump (subSet s v.1 { x with live := false, run := 0 }) Reg.ROPE_SAFE_CNT F.ROPE_SAFE_CNT_WD 1) 0x9001 v.1 k 0
  else s

def expireFrom (s : State) : Nat → List (Nat × Nat) → State
  | _, [] => s
  | k, v :: t => expireFrom (expireSub s k v) (k + 1) t

def expireSubs (s : State) : State := expireFrom s 0 (subscriptions s)

/-- For each ROPE_IN block in block order its bit (1) and its expiry (2) (R94, R112). -/
def ropeSnap (s : State) : Tab Nat :=
  let bs := ((runImage s).blocks0 ++ (runImage s).blocks1).filter fun k => k.typ = 0x20
  (bs.zipIdx).foldl (fun t v =>
    let x := subGet s v.1.p0
    tabPut 0 t v.2 (if x.live then b2n (bitN x.bits (v.1.p1 % 32)) else 2)) []

/-! ## Links (R226 to R228) -/

/-- The port opens its standby link (R227): counted and journaled. -/
def openStandby (s : State) : State :=
  ((List.range 3).filter fun p => portStat s p F.ROPE_PORT_STAT_STBY = 1 && portStat s p F.ROPE_PORT_STAT_BROKEN = 0).foldl
    (fun s p =>
      let s1 := fldSet s (Reg.ROPE_PORT_STAT p) F.ROPE_PORT_STAT_STBY 0
      let s2 := fldSet s1 Reg.ROPE_STATUS F.ROPE_STATUS_STBY_OPEN 1
      log (fldBump s2 Reg.ROPE_HEAL_CNT F.ROPE_HEAL_CNT_OPEN 1) 0xC001 6 p 1) s

/-- A RING-CONTROL frame about port `port` (R216, R227, R228). -/
def sendRing (s : State) (sub port : Nat) (ps : List Nat) : State :=
  let f : RingFrame := ⟨BitVec.ofNat 16 (nodeNum s), BitVec.ofNat 8 sub, BitVec.ofNat 8 port, BitVec.ofNat 16 s.rope.ringSeq, 255,
    BitVec.ofNat 16 (portStat s port F.ROPE_PORT_STAT_NEIGH)⟩
  sendOn { s with rope := { s.rope with ringSeq := (s.rope.ringSeq + 1) % 65536 } } ps (.ring f) 0

/-- A link is declared broken (R227): cause 1 PCS synchronisation, 2 silence, 3 recovered clock. -/
def breakLink (s : State) (p cause : Nat) : State :=
  if portStat s p F.ROPE_PORT_STAT_BROKEN = 1 || nodeNum s = 0 then s
  else
    let s1 := portSet (fldSet s (Reg.ROPE_PORT_STAT p) F.ROPE_PORT_STAT_BROKEN 1) p { portGet s p with good := none }
    let s2 := log (fldBump s1 Reg.ROPE_HEAL_CNT F.ROPE_HEAL_CNT_BREAKS 1) 0x9002 p (portStat s p F.ROPE_PORT_STAT_NEIGH) cause
    if inRing s && decide (p < 2) then
      let s3 := sendRing s2 0 p [1 - p]
      if portStat s3 (1 - p) F.ROPE_PORT_STAT_STBY = 1 then openStandby s3 else s3
    else s2

/-- PORT_UP (R210); not while PLL_C has failed (R24). -/
def portUpEvent (s : State) (p : Nat) : State :=
  if nodeNum s ≠ 0 && s.dev ≠ .powerUp && !(p = 2 && fldGet s Reg.ROPE_CFG F.ROPE_CFG_P2EN = 0) &&
      pllLocked s 2 then
    let s1 := fldSet s (Reg.ROPE_PORT_STAT p) F.ROPE_PORT_STAT_LINK 1
    let lk := fldGet s1 Reg.SYS_CLK_STATUS F.SYS_CLK_STATUS_RX_LOCK
    let s2 := fldSet s1 Reg.SYS_CLK_STATUS F.SYS_CLK_STATUS_RX_LOCK (setBitN lk p true)
    ungateBlock (portSet { s2 with rope := { s2.rope with firstUp := some (s2.rope.firstUp.getD s2.tb) } } p
      { portGet s2 p with good := none }) (59 + p)
  else s

/-- PCS_SYNC_LOST (R227). -/
def pcsSyncLost (s : State) (p : Nat) : State :=
  if portStat s p F.ROPE_PORT_STAT_LINK = 1 then breakLink (fldSet s (Reg.ROPE_PORT_STAT p) F.ROPE_PORT_STAT_LINK 0) p 1 else s

/-- LINK_SILENCE (R227): 3 scan periods of the neighbour without a valid frame. -/
def linkSilence (s : State) (p : Nat) : State :=
  let x := portGet s p
  if portUp s p && decide (0 < x.nscan) && silent s x then breakLink s p 2 else s

/-- ROPE_RX_LOCK_LOST (R24). -/
def rxLockLost (s : State) (p : Nat) : State :=
  let lk := fldGet s Reg.SYS_CLK_STATUS F.SYS_CLK_STATUS_RX_LOCK
  if bitN lk p then
    breakLink (fldSet s Reg.SYS_CLK_STATUS F.SYS_CLK_STATUS_RX_LOCK (setBitN lk p false)) p 3
  else s

/-- RING_BREAK (R227): forwarded; a held standby port opens, unless the break is that of the standby link itself. In a ring
port 0 of a node faces port 1 of the next (R211). -/
def ringBreak (s : State) (p : Nat) (f : RingFrame) (fcs : Bool) : State :=
  let r := relay s p f.src.toNat f.hops.toNat fcs true false (.ring f) (.ring { f with hops := f.hops - 1 })
  let own := (List.range 2).any fun q => portStat s q F.ROPE_PORT_STAT_STBY = 1 && decide (f.peer.toNat = nodeNum s) &&
    decide (f.src.toNat = portStat s q F.ROPE_PORT_STAT_NEIGH) && decide (f.port.toNat = 1 - q)
  if r.2 && f.sub = 0 && !own then openStandby r.1 else r.1

/-- RING_RESTORED (R228): forwarded only. -/
def ringRestored (s : State) (p : Nat) (f : RingFrame) (fcs : Bool) : State :=
  (relay s p f.src.toNat f.hops.toNat fcs true false (.ring f) (.ring { f with hops := f.hops - 1 })).1

/-- The port has its synchronisation back and has received valid frames for 3 scan periods of the neighbour (R228). -/
def repaired (s : State) (p : Nat) : Bool :=
  let x := portGet s p
  portUp s p && bitN (fldGet s Reg.SYS_CLK_STATUS F.SYS_CLK_STATUS_RX_LOCK) p && !silent s x &&
    (match x.good with
     | some t => decide (t + silentTicks x ≤ s.tb)
     | none => false)

/-- LINK_REPAIRED (R228): the repaired link becomes the standby link. -/
def linkRepaired (s : State) (p : Nat) : State :=
  if repaired s p && portStat s p F.ROPE_PORT_STAT_BROKEN = 1 then
    let a := Reg.ROPE_PORT_STAT p
    let s1 := fldSet (fldSet s a F.ROPE_PORT_STAT_BROKEN 0) a F.ROPE_PORT_STAT_STBY 1
    let s2 := log s1 0x9005 p (portStat s p F.ROPE_PORT_STAT_NEIGH) 0
    if inRing s2 then sendRing s2 1 p [0, 1] else s2
  else s

/-- The standby link at start-up (R226). -/
def standbyInit (s : State) : State :=
  (List.range 3).foldl (fun s p =>
    fldSet s (Reg.ROPE_PORT_STAT p) F.ROPE_PORT_STAT_STBY
      (b2n (inRing s && fldGet s Reg.ROPE_CFG F.ROPE_CFG_STBY = 1 && fldGet s Reg.ROPE_CFG F.ROPE_CFG_STBY_PORT = p)))
    (fldSet s Reg.ROPE_STATUS F.ROPE_STATUS_STBY_OPEN 0)

/-! ## Ring time (R229, R230, R343) -/

def rootActive (s : State) : Bool := fldGet s Reg.ROPE_STATUS F.ROPE_STATUS_ROOT_ACTIVE = 1
def timeLocked (s : State) : Bool := fldGet s Reg.ROPE_STATUS F.ROPE_STATUS_TIME_LOCKED = 1
/-- This member may be the active root: of a pair only the leader (R238). -/
def mayRoot (s : State) : Bool := !pairMember s || isLeader s
def rootNode (s : State) : Nat := fldGet s Reg.ROPE_TIMECFG F.ROPE_TIMECFG_ROOT
def backupNode (s : State) : Nat := fldGet s Reg.ROPE_TIMECFG F.ROPE_TIMECFG_BACKUP

/-- Set or lose TIME_LOCKED (R230). -/
def setLocked (s : State) (b : Bool) : State :=
  let s1 := fldSet s Reg.ROPE_STATUS F.ROPE_STATUS_TIME_LOCKED (b2n b)
  if b then { s1 with rope := { s1.rope with unlocked := false } }
  else if timeLocked s then { s1 with rope := { s1.rope with lostLock := s1.tb } } else s1

/-- TB runs from `XIN` without correction (R343). -/
def uncorrected (s : State) : State :=
  regSet { s with rope := { s.rope with slew := 0, rateDue := 0, rateAcc := 0 } } Reg.TMR_TB_RATE 0

/-- This node becomes the active root (R229); it is its own reference. -/
def becomeRoot (s : State) : State :=
  let s1 := fldSet (fldSet s Reg.ROPE_STATUS F.ROPE_STATUS_ROOT_ACTIVE 1) Reg.ROPE_STATUS F.ROPE_STATUS_ACT_ROOT (nodeNum s)
  setLocked (uncorrected s1) true

/-- A TIME frame of this node. -/
def timeFrame (s : State) (sub steps : Nat) : TimeFrame :=
  ⟨BitVec.ofNat 16 (nodeNum s), BitVec.ofNat 8 sub, BitVec.ofNat 16 s.rope.timeSeq, 1, BitVec.ofNat 8 steps, 0, 0, 0, 0⟩

def bumpTimeSeq (s : State) : State := { s with rope := { s.rope with timeSeq := (s.rope.timeSeq + 1) % 65536 } }

/-- Ports that carry SYNC: up and not blocked (R229). -/
def syncPorts (s : State) : List Nat := (upPorts s).filter fun p => !portBlocked s p

/-- SYNC_SEND (R229): every 1 ms; the configured root becomes active with its first SYNC. -/
def syncSend (s : State) : State :=
  if nodeNum s ≠ 0 && mayRoot s && (rootActive s || nodeNum s = rootNode s) && decide (s.tb % 100000 = 0) && started s.dev &&
      !(syncPorts s).isEmpty then
    let s1 := if rootActive s then s else becomeRoot s
    bumpTimeSeq (sendOn s1 (syncPorts s1) (.time (timeFrame s1 0 1)) 0)
  else s

/-- ROOT_TAKEOVER (R229): 5 ms without a SYNC. -/
def rootTakeover (s : State) : State :=
  let due := match s.rope.lastSync, s.rope.firstUp with
    | some t, _ => decide (t + 500000 ≤ s.tb)
    | none, some t => decide (t + 500000 ≤ s.tb)
    | none, none => false
  if nodeNum s ≠ 0 && mayRoot s && nodeNum s = backupNode s && !rootActive s && due then
    log (becomeRoot s) 0xC001 7 0 (nodeNum s)
  else s

/-- ACT_ROOT after a SYNC (R229). -/
def actRootAfter (s : State) : Nat :=
  match s.rope.lastSync with
  | none => rootNode s
  | some t => if t + 500000 ≤ s.tb then backupNode s else fldGet s Reg.ROPE_STATUS F.ROPE_STATUS_ACT_ROOT

/-- The rate correction that the node applies, ppb: a free value, within the 100 ppm that R343 allows. -/
def rateOf (ofs : Int) (n : Nat) : Int := max (-100000) (min 100000 (Config.rateCorrection ofs n).toInt)

/-- The correction of TB by an offset in ns (own minus root): one step outside RUN, RECOVERING and DEGRADED above 1 µs, else, on a node
that is TIME_LOCKED, a slew and a rate (R229, R230, R343). DEDUCED (log entry 198): R343 excepts a node that is not locked from the
corrections of its ticks, not from the step of R230. -/
def correctTb (s : State) (ofs : Int) : State :=
  if !active s.dev && (1000 < ofs || ofs < -1000) then
    let s1 := stepTb { s with rope := { s.rope with slew := 0 } } (((s.tb : Int) - Int.tdiv ofs 10).toNat)
    s1
  else if timeLocked s then
    regSet { s with rope := { s.rope with slew := -(Int.tdiv (2 * ofs) 5) } } Reg.TMR_TB_RATE
      (BitVec.ofInt 32 (rateOf ofs s.rope.lockRun))
  else uncorrected s

/-- The lock count after a correction (R230). -/
def lockAfter (s : State) (ofs : Int) (steps : Nat) : State :=
  let b : Int := (20 * steps : Nat)
  if -b ≤ ofs && ofs ≤ b then
    let n := min 16 (s.rope.lockRun + 1)
    let s1 := { s with rope := { s.rope with lockRun := n } }
    if n = 16 then setLocked s1 true else s1
  else setLocked { s with rope := { s.rope with lockRun := 0 } } false

/-- TIME_SYNC (R229, R230): a SYNC on port `p`, stamped `sub` ns within the tick. -/
def timeSync (s : State) (p : Nat) (f : TimeFrame) (fcs : Bool) (sub : Nat) : State :=
  if !portUp s p then s
  else if !fcs then fldBump s (Reg.ROPE_PORT_ERR p) F.ROPE_PORT_ERR_FCS 1
  else if f.hops = 0 then foreign s
  else
    let h := heard s p (.time f)
    let s0 := if f.sub = 0 then { h with rope := { h.rope with syncAt := some s.tb } } else h
    if portBlocked s p || rootActive s || f.sub ≠ 0 then s0
    else
      let stamp := nowNs s + sub
      let root := f.t1.toNat + f.corr.toNat + fldGet s (Reg.ROPE_PORT_DELAY p) F.ROPE_PORT_DELAY_D
      let ofs : Int := (stamp : Int) - (root : Nat)
      let s1 := fldSet s0 Reg.ROPE_STATUS F.ROPE_STATUS_ACT_ROOT (actRootAfter s0)
      let s2 := regSet s1 Reg.ROPE_TIME_OFS (BitVec.ofInt 32 ofs)
      let s3 := { s2 with rope := { s2.rope with lastSync := some s.tb, steps := f.steps.toNat } }
      let s4 := lockAfter s3 ofs f.steps.toNat
      let g := { timeFrame s4 0 (f.steps.toNat + 1) with
        t1 := f.t1, corr := f.corr + BitVec.ofNat 64 (fldGet s (Reg.ROPE_PORT_DELAY p) F.ROPE_PORT_DELAY_D) }
      let s5 := bumpTimeSeq (sendOn s4 ((syncPorts s4).filter fun q => q ≠ p) (.time g) (stamp + 1))
      correctTb s5 ofs

/-- DELAY_MEASURE (R229): every 100 ms a port sends DREQ. -/
def delayMeasure (s : State) (p : Nat) : State :=
  if portUp s p && decide (s.tb % 10000000 = 0) then
    bumpTimeSeq (sendOn s [p] (.time (timeFrame s 1 0)) 0)
  else s

/-- TIME_DREQ (R229): answered with a DRESP on the same link. -/
def timeDreq (s : State) (p : Nat) (f : TimeFrame) (fcs : Bool) (sub : Nat) : State :=
  if !portUp s p then s
  else if !fcs then fldBump s (Reg.ROPE_PORT_ERR p) F.ROPE_PORT_ERR_FCS 1
  else if f.hops = 0 then foreign s
  else
    let g := { timeFrame s 2 0 with seq := f.seq, t1 := f.t1, t2 := BitVec.ofNat 64 (nowNs s + sub) }
    sendOn (heard s p (.time f)) [p] (.time g) 0

/-- TIME_DRESP (R229): half the round trip after subtracting the asymmetry. -/
def timeDresp (s : State) (p : Nat) (f : TimeFrame) (fcs : Bool) (sub : Nat) : State :=
  if !portUp s p then s
  else if !fcs then fldBump s (Reg.ROPE_PORT_ERR p) F.ROPE_PORT_ERR_FCS 1
  else if f.hops = 0 then foreign s
  else
    let trip : Int := ((nowNs s + sub : Nat) : Int) - (f.t1.toNat : Nat) - ((f.t3.toNat : Nat) - (f.t2.toNat : Nat))
    let d := (trip - ofTwos 16 (fldGet s (Reg.ROPE_PORT_ASYM p) F.ROPE_PORT_ASYM_A)) / 2
    fldSet (heard s p (.time f)) (Reg.ROPE_PORT_DELAY p) F.ROPE_PORT_DELAY_D d.toNat

/-- TIME_UNLOCKED (R230): 10 ms without lock, journaled once. -/
def timeUnlocked (s : State) : State :=
  if !timeLocked s && !s.rope.unlocked && nodeNum s ≠ 0 && decide (s.rope.lostLock + 1000000 ≤ s.tb) then
    log { s with rope := { s.rope with unlocked := true } } 0x9003 (regGet s Reg.ROPE_TIME_OFS).toNat 0 0
  else s

/-! ## Views -/

/-- `ROPE_PORTn_STAT` as read: ALIVE within the time of R227. -/
def portStatView (s : State) (p : Nat) : Word :=
  setF (regGet s (Reg.ROPE_PORT_STAT p)) F.ROPE_PORT_STAT_ALIVE (b2n (portUp s p && !silent s (portGet s p)))

/-- `ROPE_STATUS` as read: STBY_HELD and BROKEN follow the ports. -/
def ropeStatus (s : State) : Word :=
  let held := (List.range 3).any fun p => portStat s p F.ROPE_PORT_STAT_STBY = 1
  let w := setF (regGet s Reg.ROPE_STATUS) F.ROPE_STATUS_STBY_HELD (b2n held)
  setF w F.ROPE_STATUS_BROKEN (packBits (fun p => portStat s p F.ROPE_PORT_STAT_BROKEN = 1) 3)

/-- `ROPE_SUBk` (R223). -/
def subView (s : State) (k : Nat) : Word :=
  match (subscriptions s)[k]? with
  | none => 0
  | some (n, _) =>
    let x := subGet s n
    BitVec.ofNat 32 (n * 65536 + 32768 + 16384 * b2n (!x.live) + x.dist)

end Sys2Proof.Machine
end

