-- ==== Sys2Proof/Machine/Aes.lean ====
section
/-!
DEFINITION. The AES-CMAC of R289 and R393: AES with a 128-bit key and the CMAC mode of NIST SP 800-38B, which the spec names and
does not restate. PRESUMED: both are taken from the published standards.
-/
namespace Sys2Proof.Machine

/-- Doubling in the field of AES, modulo x^8 + x^4 + x^3 + x + 1. -/
def xtime (a : Nat) : Nat := if a < 128 then 2 * a else Nat.xor (2 * a - 256) 0x1B

/-- Product in that field, over the `k` lowest bits of `b`. -/
def gfMul : Nat → Nat → Nat → Nat
  | 0, _, _ => 0
  | k + 1, a, b => Nat.xor (if b % 2 = 1 then a else 0) (gfMul k (xtime a) (b / 2))

def gfSquare (a : Nat) : Nat := gfMul 8 a a

/-- The inverse, a^254; 0 for 0. -/
def gfInv (a : Nat) : Nat :=
  let a2 := gfSquare a
  let a4 := gfSquare a2
  let a8 := gfSquare a4
  let a16 := gfSquare a8
  let a32 := gfSquare a16
  let a64 := gfSquare a32
  let a128 := gfSquare a64
  gfMul 8 a2 (gfMul 8 a4 (gfMul 8 a8 (gfMul 8 a16 (gfMul 8 a32 (gfMul 8 a64 a128)))))

/-- Rotation of a byte to the left by `k`. -/
def rotl8 (a k : Nat) : Nat := a * 2 ^ k % 256 + a / 2 ^ (8 - k)

/-- The substitution box. -/
def sbox (a : Nat) : Nat :=
  let i := gfInv a
  Nat.xor 0x63 (Nat.xor i (Nat.xor (rotl8 i 1) (Nat.xor (rotl8 i 2) (Nat.xor (rotl8 i 3) (rotl8 i 4)))))

/-- Byte-wise exclusive or of two lists of numbers. -/
def xorL : List Nat → List Nat → List Nat
  | x :: a, y :: b => Nat.xor x y :: xorL a b
  | _, _ => []

/-- The next round key; `rc` is the round constant. -/
def nextKey (k : List Nat) (rc : Nat) : List Nat :=
  let w := fun i => (k.drop (4 * i)).take 4
  let t := match w 3 with
    | [a, b, c, d] => [Nat.xor (sbox b) rc, sbox c, sbox d, sbox a]
    | l => l
  let w0 := xorL (w 0) t
  let w1 := xorL (w 1) w0
  let w2 := xorL (w 2) w1
  w0 ++ w1 ++ w2 ++ xorL (w 3) w2

/-- Row shift: byte `i` of the column-ordered state comes from column `i/4 + i%4`. -/
def shiftRows (s : List Nat) : List Nat := (List.range 16).map fun i => s.getD ((i + 4 * (i % 4)) % 16) 0

def mixColumn : List Nat → List Nat
  | [a, b, c, d] =>
    let m := fun x y z w => Nat.xor (xtime x) (Nat.xor (Nat.xor (xtime y) y) (Nat.xor z w))
    [m a b c d, m b c d a, m c d a b, m d a b c]
  | l => l

def mixColumns (s : List Nat) : List Nat := (List.range 4).flatMap fun i => mixColumn ((s.drop (4 * i)).take 4)

/-- `n` rounds left; the last one mixes no columns. -/
def aesRounds : Nat → List Nat → Nat → List Nat → List Nat
  | 0, _, _, s => s
  | n + 1, key, rc, s =>
    let k := nextKey key rc
    let t := shiftRows (s.map sbox)
    aesRounds n k (xtime rc) (xorL (if n = 0 then t else mixColumns t) k)

/-- One block under a 16-byte key. -/
def aes128 (key block : List Nat) : List Nat := aesRounds 10 key 1 (xorL block key)

def ofBe (l : List Nat) : Nat := l.foldl (fun n b => n * 256 + b) 0
def beBytes : Nat → Nat → List Nat
  | 0, _ => []
  | k + 1, n => beBytes k (n / 256) ++ [n % 256]

/-- A subkey: doubling modulo x^128 + x^7 + x^2 + x + 1. -/
def cmacDouble (l : List Nat) : List Nat :=
  let n := ofBe l
  beBytes 16 (if n < 2 ^ 127 then 2 * n else Nat.xor (2 * n - 2 ^ 128) 0x87)

/-- The chain over `n` blocks and the last one. -/
def cmacChain (key k1 k2 : List Nat) : Nat → List Nat → List Nat → List Nat
  | 0, x, m =>
    aes128 key (xorL x (if m.length = 16 then xorL m k1
      else xorL (m ++ 0x80 :: List.replicate (15 - m.length) 0) k2))
  | n + 1, x, m => cmacChain key k1 k2 n (aes128 key (xorL x (m.take 16))) (m.drop 16)

/-- AES-CMAC of a message. -/
def aesCmac (key msg : List Byte) : List Byte :=
  let k := key.map BitVec.toNat
  let m := msg.map BitVec.toNat
  let k1 := cmacDouble (aes128 k (List.replicate 16 0))
  (cmacChain k k1 (cmacDouble k1) ((m.length - 1) / 16) (List.replicate 16 0) m).map (BitVec.ofNat 8)

end Sys2Proof.Machine
end

