-- ==== Sys2Proof/Machine/Otp.lean ====
section
/-!
DEFINITION. The one-time-programmable memory: cells, redirection, locks, programming, the start-up check, the relocation map and
the odometers (R376, R388, R389, R393, R396 to R409).
-/
namespace Sys2Proof.Machine

/-! ## Life cycle (R388, R389) -/

/-- Step `k` (1–5) of the LC field is taken. -/
def lcStep (s : State) (k : Nat) : Bool := s.otp.lc / 4 ^ (k - 1) % 4 ≠ 0

/-- The life-cycle state: the highest step taken. -/
def lcState (s : State) : Nat :=
  if lcStep s 5 then 5 else if lcStep s 4 then 4 else if lcStep s 3 then 3 else if lcStep s 2 then 2 else b2n (lcStep s 1)

/-- `BIST_LC.STEPS`. -/
def lcSteps (s : State) : Nat := packBits (fun k => lcStep s (k + 1)) 5

/-- Slots verify only in PROVISIONED and DEPLOYED. -/
def slotsVerify (s : State) : Bool := lcState s = 2 || lcState s = 3

/-- A permission field grants only 0b01 (R377); a field that failed parity grants nothing (R376). -/
def dbgPermitted (s : State) : Bool := s.otp.dbgPerm = 1 && !bitN s.otp.parity 3
def scanPermitted (s : State) : Bool := s.otp.scanPerm = 1 && !bitN s.otp.parity 4

/-- `COMPAT_BIST_HALT` (R376). -/
def haltPolicy (s : State) : Bool := !(s.otp.native = 3) || bitN s.otp.parity 1

/-- The trims of the bandgaps and of the DIAG RC oscillator; mid-code for one that failed parity (R376). -/
def bgTrim (s : State) : Nat := if bitN s.otp.parity 5 then 0x80 else s.otp.bgTrim
def rcTrim (s : State) : Nat := if bitN s.otp.parity 6 then 0x80 else s.otp.rcTrim

/-- Lane 1 is present (R376). -/
def lane1Present (s : State) : Bool := s.otp.lane1 = 3 && !bitN s.otp.parity 2

/-! ## Words -/

def cell (t : Tab Word) (row : Nat) : Word := tabGet 0 t row

/-- Rows 0 to 511 hold the words of the regions, 512 to 543 the spare rows, and 544 to 547 the wired row (R396). DESIGN CHOICE (log
entry 199): the places of its fields. 544 holds WLOCK and 545 RLOCK, two bits a region; 546 LC in bits 9:0, NATIVE 11:10, LANE1_EN 13:12,
DBG_PERM 15:14 and SCAN_PERM 17:16; 547 BG_TRIM 7:0 and RC_TRIM 15:8. -/
def wlockRow : Nat := 544
def rlockRow : Nat := 545
def fuseRow : Nat := 546
def trimRow : Nat := 547

/-- A row at normal and at strict margin: a bit reads 1 when either cell does (R396, R404). -/
def rowNormal (s : State) (row : Nat) : Word := cell s.otp.cellA row ||| cell s.otp.cellB row
def rowStrict (s : State) (row : Nat) : Word :=
  (cell s.otp.cellA row &&& ~~~(cell s.otp.weakA row)) ||| (cell s.otp.cellB row &&& ~~~(cell s.otp.weakB row))

/-- Redirection entry `i` (R399), of word i div 2 of region 0 as in use (R404). -/
def redirect (s : State) (i : Nat) : Nat := ((tabFind s.otp.held (i / 2)).getD (rowNormal s (i / 2))).toNat / 65536 ^ (i % 2) % 65536

/-- The physical row of word `w` of region `r`: the lowest valid entry that names it redirects it; rows of region 0 never. -/
def otpRow (s : State) (r w : Nat) : Nat :=
  let row := 32 * r + w
  if r = 0 then row
  else match (List.range 32).find? (fun i => decide (32768 ≤ redirect s i) && decide (redirect s i % 512 = row)) with
    | some i => 512 + i
    | none => row

/-- The value in use of word `w` of physical region `r` (R404). -/
def otpWord (s : State) (r w : Nat) : Word := (tabFind s.otp.held (32 * r + w)).getD (rowNormal s (otpRow s r w))

/-- The row reads differently at the two margins (R404). -/
def rowMarginal (s : State) (row : Nat) : Bool := rowNormal s row ≠ rowStrict s row

/-- Words that differ at the two margins. -/
def marginal (s : State) (r w : Nat) : Bool := rowMarginal s (otpRow s r w)

def marginalIn (s : State) (r : Nat) : Nat := ((List.range 32).filter (marginal s r)).length

/-- The word that physical row `p` holds: 32 × region + word, or a row of the wired row under its own number; none for a row that
no word uses. -/
def rowWord (s : State) (p : Nat) : Option Nat :=
  if p < 512 then (if otpRow s (p / 32) (p % 32) = p then some p else none)
  else if p < 544 then
    let j := redirect s (p - 512) % 512
    if otpRow s (j / 32) (j % 32) = p then some j else none
  else some p

def wlocked (s : State) (r : Nat) : Bool := s.otp.wlock / 4 ^ r % 4 ≠ 0
def rlocked (s : State) (r : Nat) : Bool := s.otp.rlock / 4 ^ r % 4 ≠ 0

/-- The bytes of a region, each word least significant byte first (R398). -/
def regionBytes (s : State) (r : Nat) : List Byte := (List.range 32).flatMap fun w => leBytes 4 (otpWord s r w).toNat

/-- The bytes the CRC word covers: words 4 to 30 of region 15 count as 0. -/
def crcBytes (s : State) (r : Nat) : List Byte :=
  if r = 15 then (regionBytes s r).take 16 ++ List.replicate 108 0 else (regionBytes s r).take 124

def crcGood (s : State) (r : Nat) : Bool := crc32 (crcBytes s r) = (otpWord s r 31).toNat

/-- A blank region (R398). -/
def regionBlank (s : State) (r : Nat) : Bool :=
  (List.range 32).all (fun w => otpWord s r w = 0) && !wlocked s r && !rlocked s r && r ≠ 14

/-! ## Relocation (R406) -/

/-- Target of region `r` in a map; 0 leaves it in place. -/
def mapField (m r : Nat) : Nat := m / 16 ^ (r - 8) % 16

def genMap (s : State) (g : Nat) : Nat := (otpWord s 14 (2 * g)).toNat

/-- Generation `g` is valid. -/
def genValid (s : State) (g : Nat) : Bool :=
  let m := genMap s g
  let rs := (List.range 8).map (· + 8)
  let targets := (rs.map (mapField m)).filter (· ≠ 0)
  otpWord s 14 (2 * g + 1) = ~~~(otpWord s 14 (2 * g)) && targets.all (fun t => decide (8 ≤ t) && t ≠ 14 && mapField m t = 0 &&
    !regionBlank s t && decide ((targets.filter (· = t)).length = 1)) && mapField m 14 = 0

/-- The map in force: that of the highest valid generation. -/
def relocMap (s : State) : Nat :=
  match ((List.range 15).reverse).find? (genValid s) with
  | some g => genMap s g
  | none => 0

/-- A generation that is not all zero and not valid. -/
def mapBad (s : State) : Bool :=
  (List.range 15).any fun g => (genMap s g ≠ 0 || otpWord s 14 (2 * g + 1) ≠ 0) && !genValid s g

/-- The physical region a logical region reads, by the map in force. -/
def physRegion (s : State) (r : Nat) : Nat :=
  let t := mapField (regGet s Reg.OTP_RELOC).toNat r
  if 8 ≤ r && t ≠ 0 then t else r

/-! ## Region states (R405) -/

/-- Code of the state of region `r`; `skip`: read-locked regions are not sensed in this start (R392). -/
def regionCode (s : State) (skip : Bool) (r : Nat) : Nat :=
  if rlocked s r && skip then 5
  else if decide (8 ≤ r) && mapField (relocMap s) r ≠ 0 then 4
  else if r = 14 then 1
  else if regionBlank s r then 0
  else if crcGood s r then 1
  else if wlocked s r then 3 else 2

/-- The code as the start found it. -/
def regionState (s : State) (r : Nat) : Nat := (regGet s (Reg.OTP_REGSTATE (r / 8))).toNat / 16 ^ (r % 8) % 16

/-- A vendor region is damaged (R405). -/
def vendorDamaged (s : State) : Bool :=
  regionState s 0 ≠ 1 || regionState s 1 ≠ 1 || s.otp.parity ≠ 0 || (slotsVerify s && regionState s 2 ≠ 1) ||
    ([3, 4, 5, 6, 7].any fun r => regionState s r = 2 || regionState s r = 3)

/-- A customer region that reads all 0 (R405). -/
def regionAbsent (s : State) (r : Nat) : Bool := decide (8 ≤ r) && (regionState s r = 2 || regionState s r = 3)

/-! ## Odometers (R407) -/

def odoWord (s : State) (c : Nat) : Nat := (otpWord s (physRegion s 15) c).toNat
def odoLen (s : State) (c : Nat) : Nat := odoWord s c / 65536 % 1024
def odoFirst (s : State) (c : Nat) : Nat := odoWord s c % 1024
def odoBit (s : State) (b : Nat) : Bool := bitN (otpWord s (physRegion s 15) (4 + b / 32)).toNat (b % 32)

/-- The value: position of the highest set bit within the range, plus 1. -/
def odoValue (s : State) (c : Nat) : Nat :=
  match ((List.range (odoLen s c)).reverse).find? (fun k => odoBit s (odoFirst s c + k)) with
  | some k => k + 1
  | none => 0

def odoView (s : State) (c : Nat) : Word :=
  BitVec.ofNat 32 (odoWord s c / 2 ^ 31 * 2 ^ 31 + odoLen s c * 65536 + odoValue s c % 1024)

/-- Show the counters. -/
def showOdo (s : State) : State := (List.range 4).foldl (fun s c => regSet s (Reg.OTP_ODO c) (odoView s c)) s

/-- The wired row is sensed into the latches of the fields (R376). -/
def wiredSense (s : State) : State :=
  let f := fun (row lo n : Nat) => (rowNormal s row).toNat / 2 ^ lo % 2 ^ n
  { s with otp := { s.otp with
      wlock := f wlockRow 0 32, rlock := f rlockRow 0 32, lc := f fuseRow 0 10, native := f fuseRow 10 2, lane1 := f fuseRow 12 2,
      dbgPerm := f fuseRow 14 2, scanPerm := f fuseRow 16 2, bgTrim := f trimRow 0 8, rcTrim := f trimRow 8 8 } }

/-- Show the locks. -/
def showLocks (s : State) : State :=
  regSet s Reg.OTP_LOCK (BitVec.ofNat 32 (packBits (rlocked s) 16 * 65536 + packBits (wlocked s) 16))

/-! ## The start-up check (R404, R405) -/

/-- The words with `known` marginal ones are shown in `OTP_MARGIN` (R404): those of the regions, and those of the wired row, which
belong to no region. -/
def showMargin (s : State) (known : List Nat) : State :=
  regSet { s with otp := { s.otp with known := known } } Reg.OTP_MARGIN
    (BitVec.ofNat 32 (packBits (fun r => known.any (· / 32 = r)) 16 * 65536 + min known.length 0xFFFF))

/-- Scan has been enabled in this start: read-locked regions are not sensed (R392). -/
def unsensed (s : State) (r : Nat) : Bool := s.ports.scanUsed && decide (r < 16) && rlocked s r

/-- All regions are read at both margins; the status registers, the key shadow and the alarms are loaded. -/
def otpSense (s0 : State) : State :=
  let s := { s0 with otp := { s0.otp with held := [], cmd := none, key := [] } }
  let skip := s.ports.scanUsed
  let codes := fun lo => ((List.range 8).map fun k => regionCode s skip (lo + k) * 16 ^ k).foldl (· + ·) 0
  let alarm := packBits (fun r => regionCode s skip r = 2 || regionCode s skip r = 3) 16 + 65536 * b2n (mapBad s) +
    131072 * b2n (s.otp.parity ≠ 0)
  let words := (List.range 548).filter fun p =>
    if p < 512 then rowMarginal s (otpRow s (p / 32) (p % 32)) && !unsensed s (p / 32) else decide (544 ≤ p) && rowMarginal s p
  let s1 := regSet s Reg.OTP_RELOC (BitVec.ofNat 32 (relocMap s))
  let s2 := regSet s1 (Reg.OTP_REGSTATE 0) (BitVec.ofNat 32 (codes 0))
  let s3 := regSet s2 (Reg.OTP_REGSTATE 1) (BitVec.ofNat 32 (codes 8))
  let s4 := regSet s3 Reg.OTP_ALARM (BitVec.ofNat 32 alarm)
  let s5 := showMargin s4 words
  let sensed := slotsVerify s && !skip
  let s6 := showOdo (showLocks (regSet s5 Reg.OTP_STATUS (if sensed then 0x20000000#32 else 0#32)))
  let s7 := { s6 with otp := { s6.otp with key := if sensed then (regionBytes s 2).take 16 else [] } }
  if alarm ≠ 0 || words ≠ [] then log s7 0x2005 (alarm % 65536) words.length 0 else s7

/-! ## Programming (R401 to R403) -/

/-- The region's data may be programmed in the present life-cycle state (R388, R397). -/
def otpPermitted (s : State) (r : Nat) : Bool :=
  (lcState s = 0 && r = 0) || (lcState s = 1 && decide (r < 8)) || (lcState s = 2 && decide (8 ≤ r))

/-- GO may program word `w` of region `r` now: in DEPLOYED the odometer bits of region 15 (R397). -/
def goPermitted (s : State) (r w : Nat) : Bool :=
  otpPermitted s r || (lcState s = 3 && r = 15 && decide (4 ≤ w) && decide (w ≤ 30))

/-- A command starts, or is refused while one runs (R403). -/
def otpStart (s : State) (kind : Nat) : State :=
  if s.otp.cmd.isSome then fldSet s Reg.OTP_PROG_STAT F.OTP_PROG_STAT_REFUSED 1
  else
    let c : OtpCmd := ⟨kind, fldGet s Reg.OTP_PROG_ADDR F.OTP_PROG_ADDR_REGION, fldGet s Reg.OTP_PROG_ADDR F.OTP_PROG_ADDR_WORD,
      (regGet s Reg.OTP_PROG_DATA).toNat⟩
    let s1 := { s with otp := { s.otp with cmd := some c } }
    let s2 := fldSet s1 Reg.OTP_PROG_STAT F.OTP_PROG_STAT_RESULT 1
    regSet s2 Reg.OTP_STATUS (regGet s2 Reg.OTP_STATUS ||| (if kind = 4 then 0xC0000000#32 else 0x80000000#32))

/-- The command ends with a result. -/
def otpEnd (s : State) (result : Nat) : State :=
  let s1 := { s with otp := { s.otp with cmd := none } }
  let s2 := fldSet s1 Reg.OTP_PROG_STAT F.OTP_PROG_STAT_RESULT result
  regSet s2 Reg.OTP_STATUS (regGet s2 Reg.OTP_STATUS &&& 0x20000000#32)

/-- The cells of the bits `need` of a row as the programming leaves them: `okA`, `okB` verified at strict margin, `wkA`, `wkB` at
normal margin only. -/
def programRow (s : State) (row : Nat) (need okA okB wkA wkB : Word) : State :=
  let o := s.otp
  let put := fun (t : Tab Word) (v : Word) => tabPut 0 t row v
  { s with otp := { o with
      cellA := put o.cellA (cell o.cellA row ||| (need &&& (okA ||| wkA)))
      cellB := put o.cellB (cell o.cellB row ||| (need &&& (okB ||| wkB)))
      weakA := put o.weakA ((cell o.weakA row &&& ~~~(need &&& okA)) ||| (need &&& wkA &&& ~~~okA))
      weakB := put o.weakB ((cell o.weakB row &&& ~~~(need &&& okB)) ||| (need &&& wkB &&& ~~~okB)) } }

/-- Number of set bits. -/
def bitCount (w : Word) : Nat := ((List.range 32).filter fun i => bitN w.toNat i).length

/-- R402: verify the requested bits. -/
def otpResult (need okA okB : Word) : Nat :=
  if need &&& ~~~(okA ||| okB) ≠ 0 then 4 else if need &&& ~~~(okA &&& okB) ≠ 0 then 3 else 2

/-- End of a command that programmed the bits `need` of a row. -/
def otpProgrammed (s : State) (row : Nat) (need okA okB wkA wkB : Word) : State :=
  let s1 := programRow s row need okA okB wkA wkB
  otpEnd (fldSet s1 Reg.OTP_PROG_STAT F.OTP_PROG_STAT_WEAK (bitCount (need &&& ~~~okA) + bitCount (need &&& ~~~okB)))
    (otpResult need okA okB)

/-- A lock command programmed both bits of the lock of region `r` in row `row`; the lock acts from now on (R400), and the latches of
the other fields stay (R376). -/
def lockProgrammed (s : State) (row r : Nat) (okA okB wkA wkB : Word) : State :=
  let need := BitVec.ofNat 32 (3 * 4 ^ r)
  let s1 := otpProgrammed s row need okA okB wkA wkB
  let v := (rowNormal s1 row &&& need).toNat
  showLocks (if row = wlockRow then { s1 with otp := { s1.otp with wlock := Nat.lor s1.otp.wlock v } }
    else { s1 with otp := { s1.otp with rlock := Nat.lor s1.otp.rlock v } })

/-- The region whose rows a running command works on. -/
def cmdRegion (s : State) (c : OtpCmd) : Nat := if c.kind = 3 then physRegion s 15 else c.region

/-- OTP_COMMAND_DONE (R401, R402, R407): the masks say which cells of the requested bits verified, in the row that is programmed. -/
def otpDone (s : State) (okA okB wkA wkB : Word) : State :=
  match s.otp.cmd with
  | none => s
  | some c =>
    if c.kind = 4 then
      otpEnd (fldSet s Reg.OTP_PROG_STAT F.OTP_PROG_STAT_MARG (marginalIn s c.region)) 2
    else if c.kind = 3 then
      (let k := c.word % 4
       let v := odoValue s k
       let b := odoFirst s k + v
       if !(lcState s = 2 || lcState s = 3) then otpEnd s 6
       else if odoWord s k < 2 ^ 31 || v = odoLen s k || 863 < b then otpEnd (log s (openCode 2 3) k v 0) 7
       else showOdo (otpProgrammed s (otpRow s (physRegion s 15) (4 + b / 32)) (BitVec.ofNat 32 (2 ^ (b % 32))) okA okB wkA wkB))
    else if !(if c.kind = 0 then goPermitted s c.region c.word else otpPermitted s c.region) then otpEnd s 6
    else if c.kind = 0 then
      (if wlocked s c.region then otpEnd s 5
       else
         let row := otpRow s c.region c.word
         otpProgrammed s row (BitVec.ofNat 32 c.data &&& ~~~(rowNormal s row)) okA okB wkA wkB)
    else lockProgrammed s (if c.kind = 1 then wlockRow else rlockRow) c.region okA okB wkA wkB

/-- A read of the data window (R408); none: bus error. -/
def otpWindow (s : State) (n : Nat) : Option Word :=
  if rlocked s (n / 32) || regionState s (n / 32) = 5 then none else some (otpWord s (n / 32) (n % 32))

/-- The value of `0x9000`+r`:01` (R405, R409); none: read-locked. -/
def regionValue (s : State) (r : Nat) : Option (List Byte) :=
  let p := physRegion s r
  if rlocked s p || regionState s p = 5 then none
  else if regionAbsent s r || regionAbsent s p then some (List.replicate 128 0)
  else some (regionBytes s p)

end Sys2Proof.Machine
end

