-- ==== Sys2Proof/Machine/Slot.lean ====
section
/-!
DEFINITION. Configuration slots: header, sections, seal and state (R289 to R293), and the states of a commit (R294 to R297).
-/
namespace Sys2Proof.Machine

/-- A field of an area of the flash; bytes beyond those listed are erased. -/
def flashAt (bs : List Byte) (o n : Nat) : Nat := ofLe ((List.range n).map fun k => bs.getD (o + k) 0xFF#8)

def hdrSeq (bs : List Byte) : Nat := flashAt bs 0x08 4
def hdrLen (bs : List Byte) : Nat := flashAt bs 0x0C 4
def hdrCrc (bs : List Byte) : Nat := flashAt bs 0x10 4
def hdrValid (bs : List Byte) : Nat := flashAt bs 0x3C 4

/-- The body that follows the header (R289). -/
def slotBody (bs : List Byte) : List Byte := (bs.drop 64).take (hdrLen bs)

/-- MAGIC, FORMAT and PART match. -/
def hdrMatches (magic : Nat) (bs : List Byte) : Bool := flashAt bs 0 4 = magic && flashAt bs 4 2 = 1 && flashAt bs 6 2 = 0x6432

/-- LENGTH lies in range. -/
def lenOk (bs : List Byte) : Bool := decide (16 ≤ hdrLen bs) && decide (hdrLen bs ≤ 0xFFFC0)

def bodyCrcOk (bs : List Byte) : Bool := (slotBody bs).length = hdrLen bs && crc32 (slotBody bs) = hdrCrc bs

/-- The seal matches; without a sensed key nothing verifies (R388, R393). -/
def sealOk (key bs : List Byte) : Bool := key ≠ [] && aesCmac key (bs.take 0x28 ++ slotBody bs) = (bs.drop 0x28).take 16

/-- An area starts with an erased header. -/
def erased (bs : List Byte) : Bool := (bs.take 64).all (· = 0xFF#8)

def slotMagic : Nat := 0x544F4C53
def patchMagic : Nat := 0x48544150

/-- The state of a slot (`0x1F00:04`, R291, R293). -/
def areaState (magic : Nat) (key bs : List Byte) : Nat :=
  if erased bs then 1
  else if !hdrMatches magic bs then 5
  else if hdrValid bs ≠ 0x5AC33CA5 then 2
  else if !lenOk bs then 5
  else if !bodyCrcOk bs then 3
  else if !sealOk key bs then 4
  else 0

/-- `n` bytes from `o` are zero padding. -/
def zeroPad (bs : List Byte) (o n : Nat) : Bool := ((bs.drop o).take n).all (· = 0#8)

/-- Sections of a body: ID and content; none where the body is not a sequence of sections (R290). -/
def sections : Nat → List Byte → Option (List (Nat × List Byte))
  | _, [] => some []
  | 0, _ => none
  | k + 1, bs =>
    let len := leAt bs 4 4
    let pad := (len + 3) / 4 * 4
    if bs.length < 8 + pad || leAt bs 2 2 ≠ 0 || !zeroPad bs (8 + len) (pad - len) then none
    else (sections k (bs.drop (8 + pad))).map fun t => (leAt bs 0 2, (bs.drop 8).take len) :: t

def bodySections (body : List Byte) : Option (List (Nat × List Byte)) := sections body.length body

/-- Content of section `id`. -/
def sectionOf (body : List Byte) (id : Nat) : Option (List Byte) :=
  (bodySections body).bind fun l => (l.find? fun p => p.1 = id).map (·.2)

/-- Sections 1 and 2 are there, no ID stands twice, and a firmware patch is at most 256 KiB (R290). -/
def sectionsOk (body : List Byte) : Bool :=
  match bodySections body with
  | none => false
  | some l => noDup (l.map (·.1)) && l.any (·.1 = 1) && l.any (·.1 = 2) && l.all fun p => p.1 ≠ 7 || decide (p.2.length ≤ 0x40000)

/-- Entries of a parameter record: index, subindex and value (R290). -/
def params : Nat → List Byte → Option (List (Nat × Nat × List Byte))
  | _, [] => some []
  | 0, _ => none
  | k + 1, bs =>
    let len := leAt bs 3 1
    let pad := (len + 3) / 4 * 4
    if bs.length < 4 + pad || !zeroPad bs (4 + len) (pad - len) then none
    else (params k (bs.drop (4 + pad))).map fun t => (leAt bs 0 2, leAt bs 2 1, (bs.drop 4).take len) :: t

/-- Flash content of slot `k`. -/
def slotBytes (s : State) (k : Nat) : List Byte := if k = 0 then s.flash.a else s.flash.b
def setSlotBytes (s : State) (k : Nat) (bs : List Byte) : State :=
  if k = 0 then { s with flash := { s.flash with a := bs } } else { s with flash := { s.flash with b := bs } }

def slotState (s : State) (k : Nat) : Nat := areaState slotMagic s.otp.key (slotBytes s k)
def slotIntact (s : State) (k : Nat) : Bool := slotState s k = 0

/-- `a` is newer than `b` (R291). -/
def seqNewer (a b : Nat) : Bool := serialNewer a b

/-- The slot to boot (R291): 255 when none is intact. -/
def bootChoice (s : State) : Nat :=
  match slotIntact s 0, slotIntact s 1 with
  | true, true => if seqNewer (hdrSeq s.flash.b) (hdrSeq s.flash.a) then 1 else 0
  | true, false => 0
  | false, true => 1
  | false, false => 255

/-- The slot that WRITE erases (R294). -/
def freeSlot (s : State) : Nat :=
  if s.slots.booted = 0 then 1
  else if s.slots.booted = 1 then 0
  else if slotIntact s 0 && !slotIntact s 1 then 1
  else 0

/-- The slot the running commit writes: chosen when WRITE begins. -/
def targetSlot (s : State) : Nat := s.slots.target

/-- Show sequence numbers and states of both slots (R293). -/
def showSlots (s : State) : State :=
  let sq := fun k => if erased (slotBytes s k) then 0 else hdrSeq (slotBytes s k)
  { s with slots := { s.slots with seqA := sq 0, seqB := sq 1, stA := slotState s 0, stB := slotState s 1 } }

/-! ## The states of a commit (R294) -/

/-- The BODY_CRC a commit reports: of the slot in the buffer, or the CRC of a trial image (R288). -/
def commitCrc (s : State) : Nat :=
  if s.slots.trialImage then s.slots.trialCrc else hdrCrc s.slots.buf

/-- Every transition is journaled as COMMIT_STEP (R294, R306). -/
def setCommit (s : State) (st : Nat) : State :=
  let s0 := if st = 2 || st = 4 then ungateBlock s 26 else s
  let s1 := { s0 with slots := { s0.slots with commit := st } }
  log s1 0x2004 st s1.slots.result (commitCrc s1)

/-- The commit ends in FAIL with a status code; a failed adoption sets ADOPT_FAIL (R264). -/
def failCommit (s : State) (code : Nat) : State :=
  let s1 := setCommit { s with slots := { s.slots with result := code, window := none } } 6
  let s2 := { s1 with slots := { s1.slots with adopt := false, trialImage := false } }
  if s.slots.adopt then
    fldSet { s2 with bly := { s2.bly with adopting := false } } Reg.BLY_STATUS F.BLY_STATUS_ADOPT_FAIL 1
  else s2

/-- The commit is in CHECK, WRITE, CONFIRM or FINAL. -/
def committing (s : State) : Bool := decide (1 ≤ s.slots.commit) && decide (s.slots.commit ≤ 4)

/-- CONFIRM: the CRC is shown and the window runs (R294). -/
def enterConfirm (s : State) : State :=
  setCommit { s with slots := { s.slots with shown := commitCrc s, window := some s.tb } } 3

/-- End of the window of T_CONFIRM. -/
def confirmEnd (s : State) (t : Nat) : Nat := t + s.slots.tConfirm * 100000000

/-- FINAL (R294): a confirmed slot programs VALID; a trial image requests the swap (R288). -/
def confirmCommit (s : State) : State :=
  let s1 := setCommit { s with slots := { s.slots with window := none } } 4
  if s.slots.trialImage then
    fldSet { s1 with sle := { s1.sle with swapPend := true } } Reg.SLE_IMG_STAT F.SLE_IMG_STAT_SWAP_PEND 1
  else s1

/-- A commit starts in CHECK with the slot in the buffer (R294). -/
def startCommit (s : State) (adopt : Bool) : State :=
  setCommit { s with slots := { s.slots with trialImage := false, adopt := adopt, result := 0, window := none } } 1

end Sys2Proof.Machine
end

