-- ==== Sys2Proof/Machine/Snap.lean ====
section
/-!
DEFINITION. The snapshot of a scan and the input journal (R42, R112), the start of an evaluation (R65), and the causes of
DEGRADED (R320, R384).
-/
namespace Sys2Proof.Machine

/-- DEGRADED causes, `0x8003:02`: bit 0 a lane failed or unusable, bit 1 ALONE or RESYNC_SRC, bit 2 a block marked unusable. -/
def degradedCauses (s : State) : Nat :=
  let lane := decide (2 ≤ s.sle.lane0) || decide (2 ≤ s.sle.lane1)
  let alone := pstate s = 3 || pstate s = 4
  let marked := regGet s Reg.BIST_UNUSABLE ≠ 0 || regGet s Reg.BIST_IN_UNUSABLE ≠ 0 || regGet s Reg.BIST_OUT_UNUSABLE ≠ 0 ||
    regGet s Reg.BIST_STR_UNUSABLE ≠ 0
  b2n lane + 2 * b2n alone + 4 * b2n marked

/-- The state in which the part runs: DEGRADED while a cause of it holds (R303, R384). -/
def runState (s : State) : DevState := if degradedCauses s = 0 then .run else .degraded

/-- The device enters RUN, or DEGRADED, under R89: EXT_DISC clears with it (R155). -/
def enterRun (s : State) : State := enterDev { s with kill := { s.kill with extDisc := false } } (runState s) 0x5002

/-- A new cause of DEGRADED takes a part in RUN there; no row of R303 or R482 names the cause, so it carries 0. -/
def degrade (s : State) : State := if s.dev = .run && degradedCauses s ≠ 0 then enterDev s .degraded 0 else s

/-- To the safe state: RUN, RECOVERING and DEGRADED enter SAFE-STOPPED. -/
def safeStop (s : State) (cause : Nat) : State := if active s.dev then enterDev s .safeStopped cause else s

/-- XING_FULL (R20): a write to a full safety FIFO is refused. -/
def xingFull (s : State) (f : Fld) : State :=
  let s1 := fldSet s Reg.SYS_XING_STATUS f 1
  let w := (regGet s1 Reg.SYS_XING_STATUS).toNat
  fatal (log s1 0x6006 w 0 0) 0x6006 w

/-! ## Snapshots -/

/-- Time stamps of the inputs whose stamp is not 0. -/
def tsTable (s : State) : Tab Nat := s.fio.ins.filterMap fun p => if p.2.ts = 0 then none else some (p.1, p.2.ts)

/-- The inputs of this input bank are forced OFF: its field bank sags (R58), or it is unusable (R382). -/
def forcedOff (s : State) (i : Nat) : Bool := sagging s (bankOfInput i) || bitN (regGet s Reg.BIST_IN_UNUSABLE).toNat (i / 16)

/-- The snapshot of this scan start (R42): a sagging bank and an unusable input bank deliver forced OFF values (R58, R382). -/
def snapNow (s : State) : Snap :=
  { start := s.tb
    filt := packBits (snapOn s) 128
    raw := packBits (fun i => bitN s.fio.raw i && !forcedOff s i) 128
    tpf := packBits (fun i => (inGet s i).noPulse || (inGet s i).xshort) 128
    ts := tsTable s
    sag := packBits (sagging s) 2
    ext := s.kill.extA && s.kill.extB
    rope := ropeSnap s }

/-- Drop the oldest entry that is not pinned. -/
def dropOldest (pin : Option Nat) : List (Nat × Snap) → List (Nat × Snap)
  | [] => []
  | x :: t => if some x.1 = pin then x :: dropOldest pin t else t

/-- Journal a snapshot under its scan number: the journal holds four, and that of a scan under recovery is pinned (R112). -/
def pushSnap (s : State) (n : Nat) (sn : Snap) : State :=
  let l := s.sle.snaps.filter (fun p => p.1 ≠ n) ++ [(n, sn)]
  let pin := s.sle.recov.map (pinnedScan s)
  { s with sle := { s.sle with snaps := if 4 < l.length then dropOldest pin l else l } }

/-- The lane evaluates scan `n` over snapshot `sn`, which is journaled (R65, R110); an enabled breakpoint halts it (R127). -/
def runScan (s : State) (n : Nat) (sn : Snap) : State :=
  let s1 := pushSnap s n sn
  if (breakAt s1).isSome then breakHalt s1 sn
  else { s1 with sle := { s1.sle with res := some (evaluate s1 n sn (noBrownOut s1) s1.trial) } }

end Sys2Proof.Machine
end

