-- ==== Sys2Proof/Machine/Stream.lean ====
section
/-!
DEFINITION. The stream of a hot replacement as bytes (R261, R262): the operational record, the cairn and the in-flight ledger, each a
sequence of U64 values, little-endian. DESIGN CHOICE (log entry 162): the source gives what the records hold and no layout of them.
-/
namespace Sys2Proof.Machine

/-! ## Values as bytes -/

/-- A sequence of values as bytes. -/
def natBytes (l : List Nat) : List Byte := l.flatMap (leBytes 8)

/-- The values that a byte string holds, `k` at most. -/
def bytesNats : Nat → List Byte → List Nat
  | 0, _ => []
  | k + 1, l => if l.length < 8 then [] else ofLe (l.take 8) :: bytesNats k (l.drop 8)

/-- What a reader takes off the front of a sequence. -/
abbrev Reader (α : Type) := List Nat → Option (α × List Nat)

def readNat : Reader Nat
  | [] => none
  | n :: t => some (n, t)

/-- `k` items one after the other. -/
def readMany {α : Type} (f : Reader α) : Nat → Reader (List α)
  | 0, l => some ([], l)
  | k + 1, l =>
    match f l with
    | none => none
    | some (a, t) => (readMany f k t).map fun r => (a :: r.1, r.2)

/-- A count and that many items. -/
def listNats {α : Type} (f : α → List Nat) (l : List α) : List Nat := l.length :: l.flatMap f
def readList {α : Type} (f : Reader α) : Reader (List α)
  | [] => none
  | n :: t => readMany f n t

def optNats {α : Type} (f : α → List Nat) : Option α → List Nat
  | none => [0]
  | some a => 1 :: f a
def readOpt {α : Type} (f : Reader α) : Reader (Option α)
  | 0 :: t => some (none, t)
  | 1 :: t => (f t).map fun r => (some r.1, r.2)
  | _ => none

def pairNats (p : Nat × Nat) : List Nat := [p.1, p.2]
def readPair : Reader (Nat × Nat)
  | a :: b :: t => some ((a, b), t)
  | _ => none

def byteNats (l : List Byte) : List Nat := listNats (fun b => [b.toNat]) l
def readBytes : Reader (List Byte) := fun l => (readList readNat l).map fun r => (r.1.map (BitVec.ofNat 8), r.2)

/-! ## The cairn -/

/-- The state record of a block. -/
def blkNats (x : BlkSt) : List Nat :=
  let bits := [x.init, x.q, x.q2, x.wait, x.tpf, x.disc, x.edm, x.sync, x.relWait, x.wdog, x.stuck, x.safeSeen, x.timing, x.back, x.pa,
    x.pb, x.pc, x.pd, x.mark, x.ignored]
  let dis := fun (d : Option (Nat × Bool)) => optNats (fun p => [p.1, b2n p.2]) d
  [packBits (fun k => bits.getD k false) 20, x.since] ++ dis x.dis ++ dis x.disR ++ optNats (fun n => [n]) x.t0

def readDis : Reader (Nat × Bool)
  | a :: b :: t => some ((a, b = 1), t)
  | _ => none

def readBlk : Reader BlkSt
  | p :: since :: t =>
    match readOpt readDis t with
    | none => none
    | some (dis, t1) =>
      match readOpt readDis t1 with
      | none => none
      | some (disR, t2) =>
        match readOpt readNat t2 with
        | none => none
        | some (t0, t3) =>
          let b := bitN p
          some ({ init := b 0, q := b 1, q2 := b 2, wait := b 3, tpf := b 4, disc := b 5, edm := b 6, sync := b 7, relWait := b 8,
                  wdog := b 9, stuck := b 10, safeSeen := b 11, timing := b 12, back := b 13, pa := b 14, pb := b 15, pc := b 16,
                  pd := b 17, dis := dis, disR := disR, mark := b 18, ignored := b 19, t0 := t0, since := since }, t3)
  | _ => none

def readEntry : Reader (Nat × BlkSt)
  | k :: t => (readBlk t).map fun r => ((k, r.1), r.2)
  | _ => none

/-- The cairn: the number of its scan, and the records. -/
def cairnNats (s : State) : List Nat := s.sle.scan :: listNats (fun p => p.1 :: blkNats p.2) s.sle.cairn

def readCairn (l : List Nat) : Option (Nat × Tab BlkSt) :=
  match l with
  | n :: t => (readList readEntry t).map fun r => (n, r.1.foldl (fun c p => tabPut blkSt0 c p.1 p.2) [])
  | [] => none

/-! ## The operational record -/

/-- Registers of the operational record (R262): the RW registers of FIO, LMP and ASP. -/
def inRecord (a : Nat) : Bool :=
  a = Reg.FIO_LEAK_CFG || a = Reg.ASP_COMMIT_NUM || a = Reg.ASP_COMMIT_TA_LO || a = Reg.ASP_COMMIT_TA_HI ||
    (List.range 32).any (fun n => a = Reg.LMP_STR_RUN n || a = Reg.LMP_STR_SAIL n || a = Reg.ASP_HEAD_SEL n) ||
    (List.range 16).any (fun e => a = Reg.LMP_SAIL_CFG e || a = Reg.LMP_SAIL_LVL e) ||
    (List.range 8).any (fun k => a = Reg.LMP_MTX_COL k) ||
    (List.range 128).any (fun k => a = Reg.LMP_MTX_DOT k)

/-- The next journal number, the record that a start reset has accepted a reset (R263), and the register values. -/
def recordNats (s : State) : List Nat :=
  [s.jrn.nextSeq, b2n (active s.dev)] ++ listNats (fun p => [p.1, p.2.toNat]) (s.regs.filter fun p => inRecord p.1)

def readRecord (l : List Nat) : Option (Nat × Bool × List (Nat × Nat)) :=
  match l with
  | q :: a :: t => (readList readPair t).map fun r => (q, a = 1, r.1)
  | _ => none

/-! ## The ledger -/

def commitNats (c : Commit) : List Nat :=
  [c.num, c.start] ++ listNats pairNats c.heads ++ listNats (fun v => [v.1, v.2.1, v.2.2]) c.strs ++
    optNats (listNats fun p => [p.1, p.2.toNat]) c.mtx ++
    [packBits (fun k => [c.need0, c.need1, c.needM, c.done0, c.done1, c.doneM].getD k false) 6]

def readTriple : Reader (Nat × Nat × Nat)
  | a :: b :: c :: t => some ((a, b, c), t)
  | _ => none

def readCommit : Reader Commit
  | n :: st :: t =>
    match readList readPair t with
    | none => none
    | some (hs, t1) =>
      match readList readTriple t1 with
      | none => none
      | some (ss, t2) =>
        match readOpt (readList readPair) t2 with
        | none => none
        | some (mx, t3) =>
          match t3 with
          | p :: t4 =>
            let b := bitN p
            some (⟨n, st, hs, ss, mx.map fun l => l.map fun v => (v.1, BitVec.ofNat 32 v.2), b 0, b 1, b 2, b 3, b 4, b 5⟩, t4)
          | [] => none
  | _ => none

/-- A record of the source table: TXN, the response once it exists, and when it was applied (R318). -/
def sourceNats (x : TxnRec) : List Nat := [x.src, x.txn, b2n x.sent] ++ optNats byteNats x.resp ++ optNats (fun n => [n]) x.applied

def readSource : Reader TxnRec
  | a :: b :: c :: t =>
    match readOpt readBytes t with
    | none => none
    | some (m, t1) => (readOpt readNat t1).map fun r => (⟨a, b, 0, m, c = 1, false, r.1⟩, r.2)
  | _ => none

/-- An accepted write or set that has not been answered, applied or not (R315, R316). One of the survivor's own mailbox is answered
there. -/
def waitNats (w : OdWait) : List Nat :=
  [w.src, w.txn, w.op, w.index, w.sub, w.mode, w.at_, b2n (w.silent || w.src = 0)] ++
    optNats (fun n => [n]) w.applied ++
    listNats (fun (v : Nat × Nat × List Byte) => [v.1, v.2.1] ++ byteNats v.2.2) w.items

def readItem : Reader (Nat × Nat × List Byte)
  | a :: b :: t => (readBytes t).map fun r => ((a, b, r.1), r.2)
  | _ => none

def readWait : Reader OdWait
  | a :: b :: c :: d :: e :: f :: g :: h :: t =>
    match readOpt readNat t with
    | none => none
    | some (ap, t1) => (readList readItem t1).map fun r => (⟨a, b, c, d, e, f, r.1, g, h = 1, ap⟩, r.2)
  | _ => none

/-- A Rope frame of the ledger: OBJECT response, COMMIT, RING-CONTROL. -/
def frameNats : RopeFrame → List Nat
  | .object f => [2, f.src.toNat, f.dst.toNat] ++ byteNats f.msg
  | .commit f => [3, f.src.toNat, f.num.toNat, f.ta.toNat, f.chk.toNat]
  | .ring f => [5, f.src.toNat, f.sub.toNat, f.port.toNat, f.seq.toNat, f.peer.toNat]
  | _ => [0]

def readFrame : Reader (Option RopeFrame)
  | 2 :: a :: b :: t =>
    (readBytes t).map fun r => (some (.object ⟨BitVec.ofNat 16 a, BitVec.ofNat 16 b, 255, r.1⟩), r.2)
  | 3 :: a :: n :: ta :: c :: t =>
    some (some (.commit ⟨BitVec.ofNat 16 a, BitVec.ofNat 32 n, 255, BitVec.ofNat 64 ta, BitVec.ofNat 32 c⟩), t)
  | 5 :: a :: b :: p :: q :: e :: t =>
    some (some (.ring ⟨BitVec.ofNat 16 a, BitVec.ofNat 8 b, BitVec.ofNat 8 p, BitVec.ofNat 16 q, 255, BitVec.ofNat 16 e⟩), t)
  | _ :: t => some (none, t)
  | [] => none

/-- What the ledger of the stream holds (R262). -/
structure Ledger where
  last : Option Nat
  commits : List Commit
  sources : List TxnRec
  waits : List OdWait
  frames : List (Option RopeFrame)

def ledgerNats (s : State) : List Nat :=
  optNats (fun n => [n]) s.asp.lastNum ++ listNats commitNats s.asp.commits ++ listNats sourceNats s.od.table ++
    listNats waitNats s.od.waits ++ listNats frameNats (ownFrames s)

def readLedger (l : List Nat) : Option Ledger :=
  match readOpt readNat l with
  | none => none
  | some (n, t) =>
    match readList readCommit t with
    | none => none
    | some (c, t1) =>
      match readList readSource t1 with
      | none => none
      | some (x, t2) =>
        match readList readWait t2 with
        | none => none
        | some (w, t3) => (readList readFrame t3).map fun r => ⟨n, c, x, w, r.1⟩

/-- A response marked as repeated: FLAGS.DUP (R276). -/
def withDup (m : List Byte) : List Byte :=
  match m with
  | a :: f :: t => a :: (f ||| 8#8) :: t
  | l => l

/-! ## Frames of the stream -/

/-- A byte string in STREAM frames of at most 1024 data bytes (R241), the first at byte offset `off`. -/
def chunks (kind : Nat) : Nat → Nat → List Byte → List StreamData
  | 0, _, _ => []
  | _, _, [] => []
  | k + 1, off, l => ⟨BitVec.ofNat 8 kind, BitVec.ofNat 32 off, l.take 1024⟩ :: chunks kind k (off + 1024) (l.drop 1024)

def streamFrames (kind : Nat) (l : List Byte) : List StreamData := chunks kind (l.length / 1024 + 1) 0 l

end Sys2Proof.Machine
end

