-- ==== Sys2Proof/Machine/Bly.lean ====
section
/-!
DEFINITION. The Belay link and pair: frames, per-scan exchange, pair states, loss of the partner and hot replacement (R235 to R266).
-/
namespace Sys2Proof.Machine

def setPstate (s : State) (v : Nat) : State := fldSet s Reg.BLY_STATUS F.BLY_STATUS_PSTATE v
def blyBit (s : State) (f : Fld) : Bool := fldGet s Reg.BLY_STATUS f = 1
def setBlyBit (s : State) (f : Fld) (b : Bool) : State := fldSet s Reg.BLY_STATUS f (b2n b)
def ownPos (s : State) : Bool := blyBit s F.BLY_STATUS_POS
def linkUp (s : State) : Bool := blyBit s F.BLY_STATUS_LINK
def ownSerial (s : State) : Nat := (regGet s Reg.BLY_SN_LO).toNat + 2 ^ 32 * (regGet s Reg.BLY_SN_HI).toNat
def peerSerial (s : State) : Nat := (regGet s Reg.BLY_PSN_LO).toNat + 2 ^ 32 * (regGet s Reg.BLY_PSN_HI).toNat

/-- A RESYNC entry (R306): outcome 0 complete, 1 newcomer lost, 2 survivor lost, 3 time-out or ABORT, 4 hold time expired. -/
def logResync (s : State) (outcome : Nat) (partner : Bool) : State :=
  let dur := match s.bly.resyncAt with
    | some t => (s.tb - t) / 10000
    | none => 0
  logAt s s.tb 0xA004 outcome dur (fldGet s Reg.BLY_CNT F.BLY_CNT_RESTART) partner

/-! ## Sending -/

/-- TYPE of a frame (R241). -/
def blyType : BlyFrame → Nat
  | .hello _ => 1
  | .image _ => 2
  | .outimg _ => 3
  | .safeCopy _ => 4
  | .heartbeat _ => 5
  | .control _ => 6
  | .stream _ => 7

/-- The payload of a frame (R241). -/
def blyPayload : BlyFrame → List Byte
  | .hello m => leBytes 8 m.serial.toNat ++ leBytes 2 m.node.toNat ++ leBytes 1 (b2n m.pos) ++ leBytes 1 m.dstate.toNat ++
      leBytes 4 m.crc.toNat ++ leBytes 4 m.slotSeq.toNat ++ leBytes 4 0
  | .image m => leBytes 8 m.tbs.toNat ++ leBytes 16 m.filt.toNat ++ leBytes 16 m.tpf.toNat ++ leBytes 1 (b2n m.sag0 + 2 * b2n m.sag1) ++
      leBytes 1 (b2n m.ext) ++ leBytes 2 0 ++ m.width.flatMap (fun w => leBytes 2 w.toNat) ++ m.ts.flatMap fun t => leBytes 4 t.toNat
  | .outimg m => leBytes 8 m.tbs.toNat ++ leBytes 4 m.image.toNat ++ leBytes 4 m.safe.toNat ++ leBytes 1 m.dstate.toNat ++ leBytes 7 0
  | .safeCopy f => safeBody f f.hops.toNat
  | .heartbeat m => leBytes 8 m.tb.toNat ++ leBytes 1 m.dstate.toNat ++ leBytes 1 m.pstate.toNat ++
      leBytes 1 (b2n m.bypass + 2 * b2n m.lamps) ++ leBytes 1 0 ++ leBytes 4 m.crc.toNat
  | .control m => leBytes 1 m.sub.toNat ++ leBytes 1 0 ++ leBytes 2 m.arg.toNat ++ leBytes 4 m.val.toNat ++ leBytes 8 m.tbs.toNat
  | .stream m => leBytes 1 m.kind.toNat ++ leBytes 3 0 ++ leBytes 4 m.off.toNat ++ m.bytes

/-- The 8 bytes of a start block (R240). -/
def startBlock (typ : Nat) (leader : Bool) (len seq : Nat) : List Byte :=
  leBytes 1 typ ++ leBytes 1 (b2n leader) ++ leBytes 2 len ++ leBytes 4 seq

/-- The CRC-32C of the closing block, over the start block and the unpadded payload. -/
def blyCrc (f : BlyFrame) (leader : Bool) (seq : Nat) : Nat :=
  crc32c (startBlock (blyType f) leader (blyPayload f).length seq ++ blyPayload f)

/-- A frame as its blocks of 8 bytes, without their headers (R240). -/
def blyWire (x : BlySent) : List Byte :=
  let p := blyPayload x.frame
  startBlock (blyType x.frame) x.leader p.length x.seq ++ p ++ List.replicate ((8 - p.length % 8) % 8) 0 ++
    leBytes 4 (blyCrc x.frame x.leader x.seq) ++ leBytes 4 0

/-- BODY_CRC of the slot that the member runs, or of the new one while a confirmed commit with its image loaded waits for the
swap (R290, R297). -/
def ownSlotCrc (s : State) : Nat :=
  if s.slots.commit = 4 && !s.slots.trialImage && s.sle.swapPend then hdrCrc s.slots.buf else s.slots.crc

/-- Ticks a frame takes: 68 ns a block. -/
def blyTicks (f : BlyFrame) : Nat := ((2 + ((blyPayload f).length + 7) / 8) * 68 + 9) / 10

/-- The transmitter starts a frame, which takes the next SEQ (R240). -/
def blyEmit (s : State) (f : BlyFrame) : State :=
  if linkUp s then
    let old := if s.bly.outAt = s.tb then s.bly.out else []
    { s with bly := { s.bly with
        outAt := s.tb, out := old ++ [⟨s.bly.txSeq, isLeader s, f⟩], txSeq := (s.bly.txSeq + 1) % 2 ^ 32
        busy := max s.tb s.bly.busy + blyTicks f } }
  else s

/-- A frame outside the exchange of the boundary may start now: the transmitter is free, 7.2 µs have passed since the boundary, and the
frame ends before the next one (R242). -/
def mayTransmit (s : State) (f : BlyFrame) : Bool :=
  let ph := if 0 < tScan s then s.tb % tScan s else 0
  linkUp s && decide (s.bly.busy ≤ s.tb) && decide (720 ≤ ph) && decide (ph + blyTicks f ≤ tScan s)

/-- The frame that leaves next: HELLO, CONTROL, STREAM (R242), and STREAM_END after the stream. -/
def blyNext (s : State) : Option BlyFrame :=
  let q := s.bly.queue
  (q.find? fun f => blyType f = 1).or <| (q.find? fun f => blyType f = 6).or <| q.head?.or (s.bly.tail.map BlyFrame.control)

/-- The HEARTBEAT of this instant. -/
def heartbeatOf (s : State) : BlyFrame :=
  .heartbeat ⟨BitVec.ofNat 64 s.tb, BitVec.ofNat 8 (devCode s.dev), BitVec.ofNat 8 (pstate s), bypassOn s,
    (List.range 32).any (stageRuns s), BitVec.ofNat 32 (ownSlotCrc s)⟩

/-- A HEARTBEAT is due and may start now: every 20 µs, at the first opportunity (R242). -/
def heartbeatDue (s : State) : Bool := pairMember s && decide (s.bly.hbAt + 2000 ≤ s.tb) && mayTransmit s (heartbeatOf s)

/-- The transmitter takes the next waiting frame if it may start and no HEARTBEAT is due (R242). -/
def blyPump (s : State) : State :=
  match blyNext s with
  | none => s
  | some f =>
    if mayTransmit s f && !heartbeatDue s then
      blyEmit { s with bly := { s.bly with queue := s.bly.queue.erase f, tail := if s.bly.queue = [] then none else s.bly.tail } } f
    else s

/-- A HELLO, CONTROL or STREAM frame is handed to the transmitter. -/
def blySend (s : State) (f : BlyFrame) : State :=
  if linkUp s then blyPump { s with bly := { s.bly with queue := s.bly.queue ++ [f] } } else s

/-- What waits for the transmitter is dropped: the link is down. -/
def blyIdle (s : State) : State := { s with bly := { s.bly with queue := [], tail := none, txQ := [] } }

def sendHello (s : State) : State :=
  blySend s (.hello ⟨BitVec.ofNat 64 (ownSerial s), BitVec.ofNat 16 (nodeNum s), ownPos s, BitVec.ofNat 8 (devCode s.dev),
    BitVec.ofNat 32 s.slots.crc, BitVec.ofNat 32 s.slots.seq⟩)

/-- A CONTROL frame. -/
def sendControl (s : State) (sub val tbs : Nat) : State :=
  blySend s (.control ⟨BitVec.ofNat 8 sub, 0, BitVec.ofNat 32 val, BitVec.ofNat 64 tbs⟩)

/-- The IMAGE frame of a snapshot (R241). -/
def imageOf (s : State) (sn : Snap) : ImageMsg :=
  { tbs := BitVec.ofNat 64 sn.start, filt := BitVec.ofNat 128 sn.filt, tpf := BitVec.ofNat 128 sn.tpf
    sag0 := bitN sn.sag 0, sag1 := bitN sn.sag 1, ext := sn.ext
    width := (List.range 16).map fun n => BitVec.ofNat 16 (tpNextWidth s n)
    ts := (List.range 128).map fun i => BitVec.ofNat 32 (tsOf sn i) }

/-- HEARTBEAT_TX (R242). -/
def heartbeatTx (s : State) : State :=
  if heartbeatDue s then
    blyEmit { s with bly := { s.bly with hbAt := s.tb } } (heartbeatOf s)
  else s

/-! ## Receiving (R240) -/

/-- A frame that cannot be used is discarded and counted. -/
def blyDiscard (s : State) : State := fldBump s Reg.BLY_LINK_ERR F.BLY_LINK_ERR_CRC 1

/-- LEN and CRC of a received frame match its content. -/
def blyOk (h : BlyHead) (f : BlyFrame) : Bool :=
  h.len.toNat = (blyPayload f).length && h.crc.toNat = blyCrc f h.leader h.seq.toNat

/-- Reception of frame `f`: CRC and SEQ; the second value says whether it is valid. -/
def blyRx (s : State) (h : BlyHead) (f : BlyFrame) : State × Bool :=
  let next := fun (n : Nat) => { s with bly := { s.bly with rxSeq := some ((n + 1) % 2 ^ 32) } }
  if !pairMember s || !linkUp s || s.dev = .powerUp then (s, false)
  else if !blyOk h f then
    (blyDiscard (match s.bly.rxSeq with
      | some e => next e
      | none => s), false)
  else if s.bly.rxSeq = none || s.bly.rxSeq = some h.seq.toNat then
    ({ next h.seq.toNat with bly := { (next h.seq.toNat).bly with lastValid := s.tb } }, true)
  else (blyDiscard (next h.seq.toNat), false)

/-! ## Leadership (R236) -/

/-- A change is journaled; a member that leads no longer is no active root (R238). -/
def setLeader (s : State) (b : Bool) : State :=
  if isLeader s = b then s
  else
    let s1 := log (setBlyBit s F.BLY_STATUS_LEADER b) 0xC001 5 0 (b2n b)
    if b then s1 else fldSet s1 Reg.ROPE_STATUS F.ROPE_STATUS_ROOT_ACTIVE 0

/-- LEADER_CHANGE: the lower serial number leads. -/
def decideLeader (s : State) : State :=
  setLeader { s with bly := { s.bly with decide := false } } (decide (ownSerial s < peerSerial s))

/-! ## Link and search (R239, R256) -/

/-- LINK_TRAINED (R239); not while PLL_C has failed (R24). -/
def linkTrained (s : State) : State :=
  if pairMember s && started s.dev && !linkUp s && pllLocked s 2 then
    let s1 := setBlyBit s F.BLY_STATUS_LINK true
    let s2 := fldSet s1 Reg.SYS_CLK_STATUS F.SYS_CLK_STATUS_BLY_LOCK 1
    sendHello { s2 with bly := { s2.bly with lastValid := s.tb, quiet := s.tb, rxSeq := none, hbAt := s.tb } }
  else s

/-- POS_CLASH and SLOT_DIFF follow the partner's HELLO; a new one is journaled (R256). -/
def showClash (s : State) (m : Hello) : State :=
  let clash := decide (m.pos = ownPos s)
  let diff := decide (m.crc.toNat ≠ s.slots.crc)
  let new := (clash && !blyBit s F.BLY_STATUS_POS_CLASH) || (diff && !blyBit s F.BLY_STATUS_SLOT_DIFF)
  let s1 := setBlyBit (setBlyBit s F.BLY_STATUS_POS_CLASH clash) F.BLY_STATUS_SLOT_DIFF diff
  if new then log s1 (openCode 10 1) (b2n clash + 2 * b2n diff) m.crc.toNat 0 else s1

/-- The survivor accepts a newcomer with an equal slot CRC: step 2 of R261. -/
def startResync (s : State) : State :=
  let s1 := sendControl (setPstate s 4) 0x02 0 s.tb
  { s1 with bly := { s1.bly with resyncAt := some s.tb, freeze := true, compareFrom := none, equal := 0, released := false } }

/-- Step 2 of R264: a newcomer beside a partner that runs alone on another slot waits for its adoption; the difference has been
journaled with SLOT_DIFF. -/
def adoptWait (s : State) : State :=
  let differs := match s.bly.hello with
    | some m => decide (m.pos ≠ ownPos s) && decide (m.crc.toNat ≠ s.slots.crc)
    | none => false
  if pstate s = 1 && differs && partnerAlone s then setPstate { s with bly := { s.bly with waitFrom := s.tb } } 6 else s

/-- HELLO (R256, R261, R264). The first one of a partner is answered, so that a member whose link trains later hears it too. -/
def helloRx (s0 : State) (h : BlyHead) (m : Hello) : State :=
  let r := blyRx s0 h (.hello m)
  if !r.2 then r.1
  else
    let s1 := regSet (regSet r.1 Reg.BLY_PSN_LO (BitVec.ofNat 32 m.serial.toNat)) Reg.BLY_PSN_HI
      (BitVec.ofNat 32 (m.serial.toNat / 2 ^ 32))
    let s2 := fldSet s1 Reg.BLY_STATUS F.BLY_STATUS_PDSTATE m.dstate.toNat
    let s3 := if s2.bly.hello = none then sendHello s2 else s2
    let s := adoptWait (showClash { s3 with bly := { s3.bly with hello := some m } } m)
    let equal := decide (m.crc.toNat = s.slots.crc)
    let apart := decide (m.pos ≠ ownPos s)
    if pstate s = 3 && apart && equal && decide (m.node.toNat = nodeNum s) then startResync s else s

/-- The pair may form (R256); `peer`: the partner is TIME_LOCKED. -/
def pairReady (s : State) (peer : Bool) : Bool :=
  match s.bly.hello with
  | some m => linkUp s && m.pos ≠ ownPos s && m.crc.toNat = s.slots.crc && m.node.toNat = nodeNum s &&
      ((timeLocked s && peer) || (nodeNum s ≠ 0 && nodeNum s = rootNode s)) && !partnerAlone s
  | none => false

/-- PAIR_FORM (R236, R256). -/
def pairForm (s : State) (peer : Bool) : State :=
  if pstate s = 1 && pairReady s peer && atBoundary s && s.dev = .safeStopped then
    decideLeader { setPstate s 2 with bly := { s.bly with images := [], early := [], lastCmp := none } }
  else s

/-! ## The bypass (R245, R248, R259, R260) -/

/-- The feedback input of the relay of the member at position `pos`. -/
def fbInput (s : State) (pos : Bool) : Nat :=
  fldGet s Reg.BLY_BYPASS_CFG (if pos then F.BLY_BYPASS_CFG_FB_Q else F.BLY_BYPASS_CFG_FB_P)

/-- That feedback shows the relay released. -/
def relayReleased (s : State) (pos : Bool) : Bool := decide (127 < fbInput s pos) || inputOn s (fbInput s pos)

/-- TBP has passed since the bypass channel last changed. -/
def bypassDue (s : State) : Bool :=
  match bypassChannel s with
  | some c => decide ((chGet s c).changed + fldGet s Reg.BLY_BYPASS_CFG F.BLY_BYPASS_CFG_TBP * 100000 ≤ s.tb)
  | none => false

/-- BRIDGED ends: the comparisons of the Belay channels resume after a mask, and the next pulses have width OW_MAX (R248). -/
def unbridge (s : State) : State :=
  if bridged s then
    ((List.range 24).filter fun c => chMode s c = 3 || chMode s c = 4).foldl
      (fun s c => chSet s c { chGet s c with mask := some (s.tb + owMax s c * 100), histH := [], histL := [], width := none,
                                             lastH := none, lastL := none })
      (setBlyBit s F.BLY_STATUS_BRIDGED false)
  else s

/-- BP_WELD (R259). -/
def bypassWeld (s : State) : State :=
  if blyBit s F.BLY_STATUS_BP_WELD then s
  else safeStop (log (setBlyBit s F.BLY_STATUS_BP_WELD true) 0xA005 2 0 0) 0xA005

/-- BP_FAIL (R259): the own relay has not pulled in within TBP of its channel turning on, anew each time the part runs. -/
def bpFail (s : State) : State :=
  if pairMember s && bypassOn s && bypassDue s && relayReleased s (ownPos s) &&
      !(blyBit s F.BLY_STATUS_BP_FAIL && !active s.dev) then
    safeStop (log (setBlyBit s F.BLY_STATUS_BP_FAIL true) 0xA005 1 0 0) 0xA005
  else s

/-- BYPASS_RELEASE_TIMEOUT (R259): TBP after the channel has turned off, a relay still shows OFF. -/
def bypassReleaseTimeout (s : State) (own : Bool) : State :=
  let off := if own then !bypassOn s && bypassDue s else !s.bly.peerBypass
  if pairMember s && started s.dev && off && !relayReleased s (if own then ownPos s else !ownPos s) then bypassWeld s else s

/-- HOLD_EXP (R260, R265). -/
def holdExpire (s : State) : State :=
  match s.bly.holdEnd with
  | none => s
  | some e =>
    if e ≤ s.tb then
      let s1 := setBlyBit { s with bly := { s.bly with holdEnd := none } } F.BLY_STATUS_HOLD_EXP true
      let s2 := safeStop (log s1 0xA005 3 0 0) 0xA005
      if pstate s2 = 4 then logResync s2 4 false else s2
    else s

/-! ## Losing the partner (R257 to R260) -/

/-- The scan that waits for the partner's IMAGE has its snapshot: it is evaluated, but one that a recovery has skipped or will re-run
is only journaled (R112, R115). -/
def startWaiting (s : State) (sn : Snap) : State :=
  let s1 := { s with bly := { s.bly with waiting := none } }
  if s.sle.recov.isSome then pushSnap s1 s.sle.scan sn else runScan s1 s.sle.scan sn

/-- A scan that still waits for the partner's IMAGE takes the own snapshot (R251). -/
def runOwn (s : State) : State :=
  match s.bly.waiting with
  | none => s
  | some _ =>
    match snapOf s s.sle.scan with
    | some sn => startWaiting s sn
    | none => { s with bly := { s.bly with waiting := none } }

/-- Nothing is heard of the partner's bypass any more: its relay counts as released once its feedback shows so (R248). -/
def forgetPartner (s : State) : State :=
  let s1 := { s with bly := { s.bly with
    peer := none, peerOut := none, peerBypass := false, peerPstate := 0, early := [], rxQ := [] } }
  if relayReleased s1 (!ownPos s1) then unbridge s1 else s1

/-- The member becomes the survivor (R259, R260). -/
def survive (s0 : State) : State :=
  let s := forgetPartner (setLeader (setPstate (runOwn s0) 3) true)
  let s1 := { s with bly := { s.bly with
    arb := none, resyncAt := none, freeze := false, compareFrom := none, released := false, swapAt := none, swapWait := none } }
  let hold := fldGet s1 Reg.BLY_CFG F.BLY_CFG_HOLD
  if hold = 0 then safeStop s1 0
  else
    degrade { s1 with
      sout := { s1.sout with bypassReq := true }
      bly := { s1.bly with holdEnd := some (s1.tb + hold * 6000000000) } }

/-- The pair search starts anew (R256, R265). -/
def backToSearch (s : State) : State :=
  let s1 := forgetPartner (setPstate (safeStop s 0) 1)
  { s1 with bly := { s1.bly with resyncAt := none, compareFrom := none, caughtUp := false, released := false, waiting := none,
                                 backlog := [], adopting := false } }

/-- The newcomer is lost during a resynchronisation: the survivor stays alone (R265). -/
def resyncLost (s : State) (outcome : Nat) : State :=
  let s1 := logResync (setPstate s 3) outcome false
  { s1 with
    sout := { s1.sout with bypassReq := s1.bly.holdEnd.isSome || s1.sout.bypassReq }
    bly := { s1.bly with resyncAt := none, freeze := false, compareFrom := none, equal := 0, released := false, tail := none,
                         queue := s1.bly.queue.filter fun f => blyType f ≠ 7 } }

/-- The partner is declared lost with a cause of R257: once, while its loss is arbitrated (R258). -/
def partnerLost (s : State) (cause : Nat) : State :=
  let p := pstate s
  if s.bly.arb = none && (p = 2 || p = 4 || p = 5 || p = 6) then
    let s1 := fldBump s Reg.BLY_CNT F.BLY_CNT_LOSS 1
    let s2 := log s1 0xA001 cause (regGet s Reg.BLY_PSN_LO).toNat 0
    let s3 := { s2 with bly := { s2.bly with rxSeq := none, hello := none } }
    if p = 2 || (p = 5 && active s.dev) then
      (if isLeader s then survive s3 else { s3 with bly := { s3.bly with arb := some s.tb } })
    else if p = 4 then resyncLost (fldBump s3 Reg.BLY_CNT F.BLY_CNT_RESTART 1) 1
    else if p = 5 then logResync (backToSearch s3) 2 false
    else backToSearch s3
  else s

/-- PARTNER_LOST: no valid frame for 300 µs. -/
def partnerSilent (s : State) : State :=
  if pairMember s && decide (s.bly.lastValid + 30000 ≤ s.tb) && s.bly.arb = none then partnerLost s 1 else s

/-- BLY_LOCK_LOST (R24, R257). A member without a partner to lose journals the lost clock; one whose loss is arbitrated has. -/
def blyLockLost (s : State) : State :=
  if linkUp s then
    let s1 := blyIdle (fldSet (setBlyBit s F.BLY_STATUS_LINK false) Reg.SYS_CLK_STATUS F.SYS_CLK_STATUS_BLY_LOCK 0)
    if pstate s1 = 2 || pstate s1 = 4 || pstate s1 = 5 || pstate s1 = 6 then partnerLost s1 2
    else log { s1 with bly := { s1.bly with rxSeq := none, hello := none } } 0xA001 2 (regGet s Reg.BLY_PSN_LO).toNat 0
  else s

/-- ARBITRATION_END (R258): t_arb = t_scan + 10 µs. -/
def arbitrationEnd (s : State) : State :=
  match s.bly.arb with
  | some t => if t + tScan s + 1000 ≤ s.tb then survive s else s
  | none => s

/-- SOLO_START (R256). -/
def soloStart (s : State) : State :=
  if pstate s = 1 && fldGet s Reg.BLY_CFG F.BLY_CFG_SOLO = 1 && !linkUp s && decide (s.bly.quiet + 1000000000 ≤ s.tb) then survive s
  else s

/-! ## The per-scan exchange (R249 to R254) -/

/-- A 32-bit time stamp of the partner, as a count near the present one. -/
def widenTs (now t : Nat) : Nat := now - (now + 2 ^ 32 - t % 2 ^ 32) % 2 ^ 32

def peerTs (s : State) (m : ImageMsg) (i : Nat) : Nat := widenTs (s.tb / 100) ((m.ts.getD i 0).toNat)

/-- The merged time stamp of input `i` (R249). -/
def mergeTs (a b : Bool) (ta tb : Nat) : Nat :=
  match a, b with
  | false, false => min ta tb
  | true, true => max ta tb
  | true, false => tb
  | false, true => ta

/-- The merged snapshot. -/
def mergeSnap (s : State) (own : Snap) (m : ImageMsg) : Snap :=
  { own with
    filt := Nat.land own.filt m.filt.toNat
    tpf := Nat.lor own.tpf m.tpf.toNat
    sag := Nat.lor own.sag (b2n m.sag0 + 2 * b2n m.sag1)
    ext := own.ext && m.ext
    ts := (List.range 128).foldl (fun t i =>
      tabPut 0 t i (mergeTs (bitN own.filt i) (bitN m.filt.toNat i) (tsOf own i) (peerTs s m i))) [] }

/-- The partner's snapshot, as a newcomer uses it. -/
def peerSnap (s : State) (own : Snap) (m : ImageMsg) : Snap :=
  { own with
    start := m.tbs.toNat, filt := m.filt.toNat, tpf := m.tpf.toNat, sag := b2n m.sag0 + 2 * b2n m.sag1, ext := m.ext
    ts := (List.range 128).foldl (fun t i => tabPut 0 t i (peerTs s m i)) [] }

/-- Differences and agreements of the inputs, by IMAGE (R252). -/
def trackDiff (s : State) (m : ImageMsg) : State :=
  let step := fun (acc : Tab Nat × Tab Nat) (i : Nat) =>
    if bitN m.filt.toNat i ≠ inputOn s i then
      (if (tabFind acc.1 i).isSome then acc.1 else tabIns acc.1 i s.tb, tabErase acc.2 i)
    else (tabErase acc.1 i, if (tabFind acc.2 i).isSome then acc.2 else tabIns acc.2 i s.tb)
  let r := (List.range 128).foldl step (s.bly.diffAt, s.bly.sameAt)
  { s with bly := { s.bly with diffAt := r.1, sameAt := r.2 } }

/-- The SLE reads an IMAGE: it is merged into the snapshot that waits for it, and kept by a newcomer that catches up (R249, R261). -/
def takeImage (s0 : State) (m : ImageMsg) : State :=
  let s := trackDiff { s0 with bly := { s0.bly with peer := some m } } m
  let s2 := if pstate s = 5 && !s.bly.caughtUp then { s with bly := { s.bly with backlog := s.bly.backlog ++ [m] } } else s
  if s2.bly.waiting = some m.tbs.toNat then
    match snapOf s2 s2.sle.scan with
    | some own => startWaiting s2 (if pstate s2 = 5 then peerSnap s2 own m else mergeSnap s2 own m)
    | none => s2
  else s2

/-- IMAGE (R249, R261) comes through the BLY→SLE FIFO (R19, R20); `stall`: the SLE does not read it now. -/
def imageRx (s0 : State) (h : BlyHead) (m : ImageMsg) (stall : Bool) : State :=
  let r := blyRx s0 h (.image m)
  let q := r.1.bly.rxQ ++ [m]
  if !r.2 then r.1
  else if 8 < q.length then xingFull r.1 F.SYS_XING_STATUS_BLY_RX_OVF
  else if stall then { r.1 with bly := { r.1.bly with rxQ := q } }
  else q.foldl takeImage { r.1 with bly := { r.1.bly with rxQ := [] } }

/-- IMAGE_MISS (R251). -/
def imageMiss (s : State) : State :=
  match s.bly.waiting with
  | some t => if t + 600 ≤ s.tb then runOwn (fldBump s Reg.BLY_LINK_ERR F.BLY_LINK_ERR_MISS 1) else s
  | none => s

/-- IDIFF (R252). -/
def idiffTicks (s : State) : Nat := fldGet s Reg.BLY_CFG F.BLY_CFG_IDIFF * 100000
def idiffBit (s : State) (i : Nat) : Bool := bitN (regGet s (Reg.BLY_IDIFF (i / 32))).toNat (i % 32)
def setIdiff (s : State) (i : Nat) (b : Bool) : State :=
  let a := Reg.BLY_IDIFF (i / 32)
  regSet s a (BitVec.ofNat 32 (setBitN (regGet s a).toNat (i % 32) b))

def idiffSet (s : State) (i : Nat) : State :=
  match tabFind s.bly.diffAt i with
  | some t => if t + idiffTicks s ≤ s.tb && !idiffBit s i then log (setIdiff s i true) (openCode 10 2) i 1 0 else s
  | none => s

def idiffClear (s : State) (i : Nat) : State :=
  match tabFind s.bly.sameAt i with
  | some t => if t + idiffTicks s ≤ s.tb && idiffBit s i then setIdiff s i false else s
  | none => s

/-- An image difference (R253). -/
def imgMismatch (s : State) (tbs own peer : Nat) : State :=
  let s1 := fldBump (setBlyBit s F.BLY_STATUS_IMG_MIS true) Reg.BLY_CNT F.BLY_CNT_MIS 1
  safeStop (log s1 0xA003 tbs own peer) 0xA003

/-- The other conditions under which SAFE-STOPPED may be left hold now: those of R89, no trial values (R287), and nothing that a start
holds the part for (R381, R405), nor an accepted request for SLEEP or HIBERNATE (log entry 206). -/
def leaveOk (s : State) : Bool :=
  noBrownOut s && s.kill.extA && s.kill.extB && !s.trial && !s.kill.hold && !s.pwr.vendorBad && s.pwr.req.isNone

/-- The replacement is complete: step 9 of R261. -/
def replacementComplete (s : State) : State :=
  let dur := match s.bly.resyncAt with
    | some t => (s.tb - t) / 10000
    | none => 0
  let s1 := logResync (setPstate s 2) 0 false
  let s2 := fldBump (fldSet s1 Reg.BLY_RESYNC F.BLY_RESYNC_DUR (min dur 0xFFFF)) Reg.BLY_RESYNC F.BLY_RESYNC_DONE 1
  let s3 := setBlyBit (unbridge s2) F.BLY_STATUS_HOLD_EXP false
  let s4 := { s3 with bly := { s3.bly with
    holdEnd := none, resyncAt := none, compareFrom := none, equal := 0, released := false, caughtUp := false, retries := 0
    decide := true, lastCmp := none } }
  if s4.dev = .degraded && degradedCauses s4 = 0 then enterDev s4 .run 0 else s4

/-- RELEASE has been sent or received; where the survivor's relay is released already, as in SAFE-STOPPED, the replacement is complete
with it (R260, R261, R265). -/
def afterRelease (s : State) (pos : Bool) : State :=
  let s1 := { s with bly := { s.bly with released := true } }
  if relayReleased s1 pos then replacementComplete s1 else s1

/-- The survivor has the second equal real-time image: step 8 of R261. -/
def releaseBypass (s : State) : State :=
  afterRelease (sendControl { s with sout := { s.sout with bypassReq := false } } 0x05 0 s.tb) (ownPos s)

/-- OUTIMG of a PAIRED partner: own images that the partner skipped are counted (R254). -/
def countSkipped (s : State) (t : Nat) : State :=
  let skipped := (s.bly.images.filter fun v =>
    (match s.bly.lastCmp with
     | some l => decide (l < v.1)
     | none => false) && decide (v.1 < t)).length
  fldBump { s with bly := { s.bly with lastCmp := some t } } Reg.BLY_CNT F.BLY_CNT_CMPSKIP skipped

/-- The partner was in RUN, RECOVERING or DEGRADED when it sent its image. -/
def peerRuns (m : OutImg) : Bool := decide (3 ≤ m.dstate.toNat) && decide (m.dstate.toNat ≤ 5)

/-- The own image `im` with SAFE bits `sf` and the partner's OUTIMG of the same TBS are compared: in a pair (R253), by the survivor and by
the newcomer of a replacement (R261, R263). -/
def compareImage (s : State) (im sf : Nat) (m : OutImg) : State :=
  let t := m.tbs.toNat
  let same := im = m.image.toNat && sf = m.safe.toNat
  if pstate s = 2 then (if same then s else imgMismatch s t im m.image.toNat)
  else
    match s.bly.compareFrom with
    | none => s
    | some from_ =>
      if t < from_ || s.bly.released then s
      else if pstate s = 4 then
        let n := if same then s.bly.equal + 1 else 0
        let s2 := { s with bly := { s.bly with equal := n } }
        if n = 2 then releaseBypass s2 else s2
      else if pstate s = 5 && same && s.dev = .safeStopped && s.bly.mayRun && peerRuns m && leaveOk s &&
          !blyBit s F.BLY_STATUS_BP_WELD then
        enterRun { s with bly := { s.bly with ran := true } }
      else s

/-- OUTIMG (R253, R261, R263). One whose own image of that TBS is still to be released waits for it (R115, R253). -/
def outimgRx (s0 : State) (h : BlyHead) (m : OutImg) : State :=
  let r := blyRx s0 h (.outimg m)
  if !r.2 then r.1
  else
    let s1 := fldSet r.1 Reg.BLY_STATUS F.BLY_STATUS_PDSTATE m.dstate.toNat
    let s2 := { s1 with bly := { s1.bly with peerOut := some m.image.toNat } }
    let s := if pstate s2 = 2 then countSkipped s2 m.tbs.toNat else s2
    match s.bly.images.find? fun v => v.1 = m.tbs.toNat with
    | some v => compareImage s v.2.1 v.2.2 m
    | none => { s with bly := { s.bly with early := (m :: s.bly.early).take 8 } }

/-- The own image of TBS `t` has been released: an OUTIMG of the partner that came before is compared now. -/
def compareEarly (s : State) (t im sf : Nat) : State :=
  match s.bly.early.find? fun m => m.tbs.toNat = t with
  | some m => compareImage { s with bly := { s.bly with early := s.bly.early.erase m } } im sf m
  | none => s

/-- SAFE_COPY (R237): bytes 14 to 55, from which the follower works out CHK. -/
def safeCopyRx (s0 : State) (h : BlyHead) (f : SafeFrame) : State :=
  let r := blyRx s0 h (.safeCopy f)
  if r.2 && !isLeader r.1 then
    { r.1 with bly := { r.1.bly with copy := some { f with chk := BitVec.ofNat 32 (safeChk f) } } }
  else r.1

/-! ## Image swap of a pair (R254, R297) -/

/-- The leader names the scan start of the swap, at least two scans ahead. -/
def sendSwap (s : State) : State :=
  let t := (s.tb / tScan s + 3) * tScan s
  let s1 := sendControl s 0x07 0 t
  { s1 with bly := { s1.bly with swapAt := some t, swapWait := none } }

/-- At a scan start the leader names the swap that `SLE_IMG_CTRL` or a trial image has requested; that of a slot commit waits for the
follower's report (R125, R254, R297). -/
def leaderSwap (s : State) : State :=
  if pstate s = 2 && isLeader s && s.sle.swapPend && s.bly.swapAt = none && s.bly.swapWait = none && atBoundary s then sendSwap s else s

/-- A received CONTROL frame with SUB `sub`. -/
def controlRx (s : State) (h : BlyHead) (sub : Nat) (c : CtlArgs) : State × Bool :=
  blyRx s h (.control ⟨BitVec.ofNat 8 sub, c.arg, c.val, c.tbs⟩)

/-- CONTROL_SWAP (R254). -/
def controlSwap (s0 : State) (h : BlyHead) (c : CtlArgs) : State :=
  let r := controlRx s0 h 0x07 c
  if r.2 && pstate r.1 = 2 && !isLeader r.1 then { r.1 with bly := { r.1.bly with swapAt := some c.tbs.toNat } } else r.1

/-- PAIR_SWAP_CANCEL (R297). -/
def pairSwapCancel (s : State) : State :=
  match s.bly.swapWait with
  | some t =>
    if t + s.slots.tConfirm * 100000000 ≤ s.tb then
      let s1 := fldSet { s with
        bly := { s.bly with swapWait := none }
        sle := { s.sle with swapPend := false } } Reg.SLE_IMG_STAT F.SLE_IMG_STAT_SWAP_PEND 0
      failCommit (log s1 (openCode 10 4) (hdrCrc s.slots.buf) 0 0) 0x0206
    else s
  | none => s

/-- HEARTBEAT (R248, R257, R297). -/
def heartbeatRx (s0 : State) (h : BlyHead) (m : Heartbeat) : State :=
  let r := blyRx s0 h (.heartbeat m)
  if !r.2 then r.1
  else
    let s1 := fldSet r.1 Reg.BLY_STATUS F.BLY_STATUS_PDSTATE m.dstate.toNat
    let s2 := { s1 with bly := { s1.bly with peerBypass := m.bypass, peerPstate := m.pstate.toNat } }
    let s3 := if pstate s2 = 1 && decide (m.dstate.toNat < 2) then { s2 with bly := { s2.bly with hello := none } } else s2
    let s := adoptWait (if m.bypass then setBlyBit s3 F.BLY_STATUS_BRIDGED true
             else if relayReleased s3 (!ownPos s3) then unbridge s3 else s3)
    if m.dstate.toNat = 0 || m.dstate.toNat = 1 || m.dstate.toNat = 6 || m.pstate.toNat = 7 then partnerLost s 3
    else if s.bly.swapWait.isSome && m.crc.toNat = hdrCrc s.slots.buf then sendSwap s
    else s

/-! ## Hot replacement (R261 to R265) -/

/-- Frames of a stream wait for the transmitter. -/
def blyStream (s : State) (l : List StreamData) : State :=
  if linkUp s then blyPump { s with bly := { s.bly with queue := s.bly.queue ++ l.map BlyFrame.stream } } else s

/-- The CRC-32C over the stream (R261). -/
def streamCrc (rec cairn ledger : List Byte) : Nat := crc32c (rec ++ cairn ++ ledger)

/-- Steps 3 and 4 at the boundary that released scan `s.sle.scan`: the survivor streams the operational record, the cairn and the
ledger, then STREAM_END. -/
def sendStream (s : State) : State :=
  let rec_ := natBytes (recordNats s)
  let cairn := natBytes (cairnNats s)
  let ledger := natBytes (ledgerNats s)
  blyStream { s with bly := { s.bly with
      freeze := false, tail := some ⟨0x03, 0, BitVec.ofNat 32 (streamCrc rec_ cairn ledger), BitVec.ofNat 64 s.tb⟩ } }
    (streamFrames 1 rec_ ++ streamFrames 2 cairn ++ streamFrames 3 ledger)

/-- STREAM_START at the newcomer. -/
def streamStart (s0 : State) (h : BlyHead) (c : CtlArgs) : State :=
  let r := controlRx s0 h 0x02 c
  let s := r.1
  if r.2 && pstate s = 1 && s.dev = .safeStopped then
    let s1 := setPstate s 5
    { s1 with bly := { s1.bly with
        resyncAt := some s.tb, compareFrom := none, caughtUp := false, ran := false, released := false, inRecord := [], inCairn := [], inLedger := []
        mayRun := false, backlog := [], images := [] } }
  else s

/-- A part of the adopted slot; when the whole of it is there, its commit starts (R264). -/
def adoptPart (s : State) (bs : List Byte) : State :=
  if decide (64 ≤ bs.length) && bs.length = 64 + hdrLen bs && !committing s then
    startCommit { s with slots := { s.slots with buf := bs }, bly := { s.bly with inSlot := [] } } true
  else { s with bly := { s.bly with inSlot := bs } }

/-- Data of a stream join those received so far where their offset is the next. -/
def joinPart (l : List Byte) (d : StreamData) : List Byte := if d.off.toNat = l.length then l ++ d.bytes else l

/-- STREAM (R262). -/
def streamRx (s0 : State) (h : BlyHead) (d : StreamData) : State :=
  let r := blyRx s0 h (.stream d)
  let s := r.1
  let b := s.bly
  if !r.2 then s
  else if d.kind = 0 then (if pstate s = 6 && b.adopting then adoptPart s (joinPart b.inSlot d) else s)
  else if pstate s ≠ 5 || b.caughtUp then s
  else if d.kind = 1 then { s with bly := { b with inRecord := joinPart b.inRecord d } }
  else if d.kind = 2 then { s with bly := { b with inCairn := joinPart b.inCairn d } }
  else if d.kind = 3 then { s with bly := { b with inLedger := joinPart b.inLedger d } }
  else s

/-- The values that a received byte string holds. -/
def valuesOf (l : List Byte) : List Nat := bytesNats l.length l

/-- The newcomer takes over the operational record (R262, R313). -/
def loadRecord (s : State) (q : Nat) (run : Bool) (regs : List (Nat × Nat)) : State :=
  let s1 := { s with regs := s.regs.filter fun p => !inRecord p.1 }
  let s2 := regs.foldl (fun t p => if inRecord p.1 then regSet t p.1 (BitVec.ofNat 32 p.2) else t) s1
  { s2 with jrn := { s2.jrn with nextSeq := max s2.jrn.nextSeq q }, bly := { s2.bly with mayRun := run } }

/-- A frame of the ledger is sent on every port that is up; a response with DUP, as the survivor sends it too (R315, R318). -/
def resendFrame (s : State) : Option RopeFrame → State
  | some (.object f) => sendOn s [0, 1, 2] (.object { f with msg := withDup f.msg }) 0
  | some f => sendOn s [0, 1, 2] f 0
  | none => s

/-- The newcomer replays the ledger (R262, R315, R316): source records, accepted transactions in their order and applied ones that are to
be answered, aspect commits, frames. -/
def replayLedger (s : State) (l : Ledger) : State :=
  let s1 := { s with
    od := { s.od with table := l.sources.map fun x => { x with seen := s.tb }, waits := l.waits }
    asp := { s.asp with lastNum := l.last.or s.asp.lastNum, commits := l.commits } }
  l.frames.foldl resendFrame s1

/-- The newcomer re-runs one scan from the survivor's snapshot; results but the last become the cairn at once (R261). -/
def rerunImage (s : State) (m : ImageMsg) : State :=
  let s1 := match s.sle.res with
    | some r =>
      let t := r.events.foldl (fun u e => logAt u e.tb e.code e.p0 e.p1 e.p2 e.partner) s
      { t with
        sle := { t.sle with cairn := r.blk, res := none }
        bly := { t.bly with images := ((m.tbs.toNat, r.image, r.safe) :: t.bly.images).take 8 } }
    | none => s
  let n := (s1.sle.scan + 1) % 2 ^ 32
  runScan { s1 with sle := { s1.sle with scan := n } } n (peerSnap s1 (snapNow s1) m)

/-- The newcomer restores what the stream holds; lane 1 comes from its own lane 0 as SPARE (R262), and SOUT starts from the cairn's scan
number (R316). -/
def restoreStream (s : State) (n : Nat) (cairn : Tab BlkSt) : State :=
  { s with
    sle := { s.sle with
      cairn := cairn, scan := n, inQ := [], res := none, recov := none, snaps := [], older := []
      lane1 := if s.sle.lane1 = 1 && !wide s then 0 else s.sle.lane1 }
    sout := { s.sout with scan := some n, fifo := [] }
    bly := { s.bly with waiting := none, early := [] } }

/-- The first scan boundary after now, whose scan is the first real-time one of a newcomer that has caught up (R261). -/
def nextBoundary (s : State) : Nat := (s.tb / tScan s + 1) * tScan s

/-- Step 5 of R261: the stream is whole. Events that the replay raises are marked (R308). -/
def catchUp (s : State) (rec : Nat × Bool × List (Nat × Nat)) (cairn : Nat × Tab BlkSt) (ledger : Ledger) : State :=
  let mark := fun (t : State) =>
    { t with jrn := { t.jrn with
        queue := t.jrn.queue.take s.jrn.queue.length ++ (t.jrn.queue.drop s.jrn.queue.length).map fun e => { e with replay := true } } }
  let s1 := restoreStream (loadRecord s rec.1 rec.2.1 rec.2.2) cairn.1 cairn.2
  let s2 := mark (s.bly.backlog.foldl rerunImage (replayLedger s1 ledger))
  let s3 := sendControl s2 0x04 0 s.tb
  { s3 with bly := { s3.bly with caughtUp := true, backlog := [], compareFrom := some (nextBoundary s), equal := 0 } }

/-- STREAM_END at the newcomer: a stream whose CRC does not match is not used (R261). -/
def streamEnd (s0 : State) (h : BlyHead) (c : CtlArgs) : State :=
  let r := controlRx s0 h 0x03 c
  let s := r.1
  let b := s.bly
  if r.2 && pstate s = 5 && !b.caughtUp && s.sle.hasImage && c.val.toNat = streamCrc b.inRecord b.inCairn b.inLedger then
    match readRecord (valuesOf b.inRecord), readCairn (valuesOf b.inCairn), readLedger (valuesOf b.inLedger) with
    | some rec, some cairn, some ledger => catchUp s rec cairn ledger
    | _, _, _ => s
  else s

/-- CAUGHT_UP at the survivor: step 6 of R261. -/
def caughtUpRx (s0 : State) (h : BlyHead) (c : CtlArgs) : State :=
  let r := controlRx s0 h 0x04 c
  let s := r.1
  if r.2 && pstate s = 4 then { s with bly := { s.bly with compareFrom := some (nextBoundary s), equal := 0 } } else s

/-- RELEASE at the newcomer: step 8 of R261. -/
def releaseRx (s0 : State) (h : BlyHead) (c : CtlArgs) : State :=
  let r := controlRx s0 h 0x05 c
  if r.2 && pstate r.1 = 5 then afterRelease r.1 (!ownPos r.1) else r.1

/-- ABORT at the newcomer (R265): it retries after 1 s, at most three times. -/
def abortRx (s0 : State) (h : BlyHead) (c : CtlArgs) : State :=
  let r := controlRx s0 h 0x06 c
  let s := r.1
  if r.2 && pstate s = 5 then
    let s1 := backToSearch (logResync s 3 true)
    { s1 with bly := { s1.bly with retryAt := if s.bly.retries < 3 then some (s.tb + 100000000) else none } }
  else s

/-- RESYNC_TIMEOUT (R265). -/
def resyncTimeout (s : State) : State :=
  match s.bly.resyncAt with
  | some t =>
    if pstate s = 4 && decide (t + 20000000 ≤ s.tb) then sendControl (resyncLost s 3) 0x06 0 s.tb else s
  | none => s

/-- RESYNC_RETRY (R265): the newcomer sends HELLO again. -/
def resyncRetry (s : State) : State :=
  match s.bly.retryAt with
  | some t =>
    if t ≤ s.tb && pstate s = 1 then
      sendHello { s with bly := { s.bly with retryAt := none, retries := s.bly.retries + 1 } }
    else s
  | none => s

/-- ADOPT_REQ at the survivor (R264): it streams its slot. -/
def adoptReq (s0 : State) (h : BlyHead) (c : CtlArgs) : State :=
  let r := controlRx s0 h 0x01 c
  let s := r.1
  if r.2 && pstate s = 3 && decide (s.slots.booted < 2) then
    let bs := slotBytes s s.slots.booted
    blyStream s (streamFrames 0 (bs.take (64 + hdrLen bs)))
  else s

/-- The newcomer's operator has confirmed the adoption (R264). -/
def adoptConfirm (s : State) : State :=
  let s1 := sendControl s 0x01 0 s.tb
  { s1 with bly := { s1.bly with adopting := true, inSlot := [] } }

/-- What a filtered change of input `i` means for the pair: the feedback inputs of the two relays (R248, R259, R261). A relay that pulls in
clears BP_FAIL. -/
def feedbackChange (s : State) (i : Nat) (on : Bool) : State :=
  let own := decide (i = fbInput s (ownPos s))
  let peer := decide (i = fbInput s (!ownPos s))
  if !pairMember s || !(own || peer) then s
  else if !on then
    (if own && bypassOn s then setBlyBit s F.BLY_STATUS_BP_FAIL false
     else if own || !s.bly.peerBypass then bypassWeld s
     else s)
  else
    let s1 := if relayReleased s (if own then !ownPos s else ownPos s) || (if own then s.bly.peerBypass else bypassOn s) then
        setBlyBit s F.BLY_STATUS_BP_WELD false else s
    let s2 := if peer && !s1.bly.peerBypass then unbridge s1 else s1
    if own && pstate s2 = 4 && s2.bly.released then replacementComplete s2
    else if peer && pstate s2 = 5 && s2.bly.released then replacementComplete s2
    else s2

/-- FILTERED_CHANGE (R39, R40, R49): the raw value has held, and the filtered value and its time stamp change. -/
def filteredChange (s : State) (i : Nat) (on : Bool) (first : Nat) : State :=
  if started s.dev && filterReady s i on first then feedbackChange (setFilt s i on first) i on else s

/-- TP_WINDOW_END (R50 to R53): the window's end, and what a low it lets pass means for the pair. -/
def windowEnd (s : State) (n : Nat) (resp : List (Nat × Nat)) (lows : List (Nat × Bool)) (late : List (Nat × Nat)) : State :=
  let t := tpWindowEnd s n resp lows late
  late.foldl (fun u p => if (inGet s p.1).filt && !(inGet t p.1).filt then feedbackChange u p.1 false else u) t

/-- In which pair states the part may leave SAFE-STOPPED on a start reset (R256, R259, R260, R263). -/
def mayLeave (s : State) : Bool :=
  !pairMember s || pstate s = 2 && !blyBit s F.BLY_STATUS_BP_WELD ||
    ((pstate s = 3 || pstate s = 4) && s.bly.holdEnd.isSome && !blyBit s F.BLY_STATUS_BP_WELD)

/-- `BLY_STATUS` as read: BYPASS_ON is the own bypass request. -/
def blyStatus (s : State) : Word := setF (regGet s Reg.BLY_STATUS) F.BLY_STATUS_BYPASS_ON (b2n s.sout.bypassReq)

/-- `BLY_HOLD_LEFT`. -/
def holdLeft (s : State) : Nat :=
  match s.bly.holdEnd with
  | some e => (e - s.tb) / 100000000
  | none => 0xFFFF

end Sys2Proof.Machine
end

