-- ==== Sys2Proof/Machine/Journal.lean ====
section
/-!
DEFINITION. The event journal, its mirror (R308 to R312), the conditions of the guarantee (R300, R302) and the summit log's bytes
(R426).
-/
namespace Sys2Proof.Machine

/-! ## Writing entries -/

/-- The management pair is up and has continued the journal (R312, R379, R381). -/
def pairUp (s : State) : Bool :=
  s.pwr.stage = 4 && decide (s.pwr.state < 2) && s.pwr.step = 0 && fldGet s Reg.BIST_STATUS F.BIST_STATUS_ESSENTIAL % 2 = 0

/-- It is in no recovery (R315). -/
def pairRuns (s : State) : Bool := pairUp s && s.od.mgmt = none

/-- FLAGS of an entry (R308). -/
def entryFlags (s : State) (adj replay partner : Bool) : Nat :=
  b2n adj + 2 * b2n replay + 4 * b2n partner + 8 * b2n (pairMember s && fldGet s Reg.BLY_STATUS F.BLY_STATUS_POS = 1)

/-- An entry joins the ring; the oldest leaves a full one, and is counted when it has not been mirrored (R308, R311). -/
def ringPush (s : State) (e : Entry) : State :=
  let j := s.jrn
  match j.ring with
  | o :: t =>
    if 4096 ≤ j.ring.length then
      { s with jrn := { j with
          ring := t ++ [e], nextSeq := j.nextSeq + 1, lastTb := some e.tb
          pend := (if j.mirrorNext ≤ o.seq then j.pend.drop 1 else j.pend) ++ [s.tb]
          mirrorLost := if j.mirrorNext ≤ o.seq then satAdd 32 j.mirrorLost 1 else j.mirrorLost
          mirrorNext := max j.mirrorNext (o.seq + 1) } }
    else { s with jrn := { j with ring := j.ring ++ [e], nextSeq := j.nextSeq + 1, lastTb := some e.tb, pend := j.pend ++ [s.tb] } }
  | [] => { s with jrn := { j with ring := [e], nextSeq := j.nextSeq + 1, lastTb := some e.tb, pend := j.pend ++ [s.tb] } }

/-- Write one event (R309): TB rises strictly within a start. -/
def writeEvent (s : State) (e : Event) : State :=
  let late := match s.jrn.lastTb with
    | some l => decide (e.tb ≤ l)
    | none => false
  let t := if late then (s.jrn.lastTb.getD 0) + 1 else e.tb
  ringPush s ⟨s.jrn.nextSeq, t, e.code, devCode s.dev, entryFlags s late e.replay e.partner, e.p0, e.p1, e.p2⟩

/-- The event with the smallest TB, the first queued among equals. -/
def earliest : List Event → Option Event
  | [] => none
  | e :: t => match earliest t with
    | none => some e
    | some f => if f.tb < e.tb then some f else some e

/-- As soon as the queue has room again after a loss, an event 0xE002 enters it (R309). -/
def noteLost (s : State) : State :=
  if s.jrn.lostSince = 0 then s
  else log { s with jrn := { s.jrn with lostSince := 0 } } 0xE002 2 s.jrn.lostSince s.jrn.lost

/-- JOURNAL_WRITE (R309). -/
def journalWrite (s : State) : State :=
  match earliest s.jrn.queue with
  | none => s
  | some e =>
    if pairRuns s && decide (e.since + 2000 ≤ s.tb) then
      noteLost (writeEvent { s with jrn := { s.jrn with queue := s.jrn.queue.erase e } } e)
    else s

/-! ## The mirror -/

/-- Entries not yet mirrored. -/
def unmirrored (s : State) : List Entry := s.jrn.ring.filter fun e => decide (s.jrn.mirrorNext ≤ e.seq)

/-- A page is due (R311). -/
def pageDue (s : State) : Bool :=
  let p := unmirrored s
  decide (8 ≤ p.length) || p.any (fun e => e.code / 4096 = 0xF || e.code / 4096 = 0x6) ||
    (match s.jrn.pend.head? with
     | some t => decide (t + 100000000 ≤ s.tb)
     | none => false)

/-- The mirror holds 8192 entries in four sectors; the next one is erased before it is reused (R311). -/
def mirrorAppend (m p : List Entry) : List Entry :=
  let l := m ++ p
  if 8192 < l.length then l.drop 2048 else l

/-- Write the next page, 8 entries at most. -/
def mirrorPage (s : State) : State :=
  let p := (unmirrored s).take 8
  match p.getLast? with
  | none => s
  | some e => { s with
      flash := { s.flash with mirror := mirrorAppend s.flash.mirror p }
      jrn := { s.jrn with mirrorNext := e.seq + 1, pend := s.jrn.pend.drop p.length } }

/-- The mirror stops until the next reset (R311). -/
def mirrorFails (s : State) : State := log { s with jrn := { s.jrn with mirrorStopped := true } } 0xE002 1 0 0

/-- MIRROR_WRITE (R311); `ok`: programming and read-back succeed. Mirror writes wait while a slot commit is in WRITE or FINAL. -/
def mirrorWrite (s : State) (ok : Bool) : State :=
  if pairRuns s && !s.jrn.mirrorStopped && pageDue s && s.slots.commit ≠ 2 && s.slots.commit ≠ 4 then
    (let s1 := ungateBlock (ungateBlock s 0) 26
     if ok then mirrorPage s1 else mirrorFails s1)
  else s

/-- Before a power transition the pending page is written (R413). -/
def mirrorAll : Nat → State → State
  | 0, s => s
  | k + 1, s => if unmirrored s = [] then s else mirrorAll k (mirrorPage s)

/-- Everything queued is written, whatever its age, and mirrored. -/
def flushQueue : Nat → State → State
  | 0, s => s
  | k + 1, s => match earliest s.jrn.queue with
    | none => s
    | some e => flushQueue k (noteLost (writeEvent { s with jrn := { s.jrn with queue := s.jrn.queue.erase e } } e))

/-- The pending page is written at once; `ok`: programming and read-back succeed (R311, R413). -/
def flushJournal (s : State) (ok : Bool) : State :=
  let s1 := flushQueue 66 s
  if s1.jrn.mirrorStopped || unmirrored s1 = [] then s1 else if ok then mirrorAll 512 s1 else mirrorFails s1

/-- A page that is to be written waits for a slot commit in WRITE or FINAL (R311). -/
def pageWaits (s : State) : Bool :=
  (s.slots.commit = 2 || s.slots.commit = 4) && !s.jrn.mirrorStopped && (s.jrn.queue ≠ [] || unmirrored s ≠ [])

/-- The journal of a start continues from the mirror, or restarts with 0x0003 at TB `t` (R312). -/
def journalContinue (s : State) (t : Nat) : State :=
  match s.flash.mirror.getLast? with
  | some e => { s with jrn := { s.jrn with ring := [], nextSeq := e.seq + 1, lastTb := none, mirrorNext := e.seq + 1, pend := [] } }
  | none =>
    let s1 := { s with jrn := { s.jrn with ring := [], nextSeq := 0, lastTb := none, mirrorNext := 0, pend := [] } }
    ringPush s1 ⟨0, t, 0x0003, devCode s.dev, entryFlags s false false false, 0, 0, 0⟩

/-- An entry as its 32 bytes (R308). -/
def entryBytes (e : Entry) : List Byte :=
  let b := leBytes 4 e.seq ++ leBytes 8 e.tb ++ leBytes 2 e.code ++ leBytes 1 e.dstate ++ leBytes 1 e.flags ++ leBytes 4 e.p0 ++
    leBytes 4 e.p1 ++ leBytes 4 e.p2
  b ++ leBytes 4 (crc32c b)

/-- `0x8000:03`: from the ring, or from the mirror. -/
def selectedEntry (s : State) : Option Entry :=
  (s.jrn.ring.find? fun e => e.seq = s.jrn.selector).or (s.flash.mirror.find? fun e => e.seq = s.jrn.selector)

/-! ## The conditions of the guarantee -/

/-- LED banks that carry a proved string: one in the map of an enabled head. -/
def provedBank (s : State) (b : Nat) : Bool := (stringsOf b).any fun n => (headOf s n).isSome

/-- Unmet conditions, `0x8003:01` (R300, R302, R320). -/
def unmet (s : State) : Nat :=
  let cyc := fldGet s Reg.BIST_BG_CFG F.BIST_BG_CFG_CYCLE
  let off := fldGet s Reg.BIST_BG_CFG F.BIST_BG_CFG_EN = 0 || cyc = 0 || decide (24 < cyc)
  let slow := fun b => provedBank s b &&
    (decide (10000 < fldGet s Reg.ASP_CFG F.ASP_CFG_PROBEN * tPwm s b + 500) ||
     decide (10000 < 2 * fldGet s Reg.ASP_CFG F.ASP_CFG_NDARK * tPwm s b + 8))
  let mtx := (mtxHead s).isSome && decide (1000000 < 2 * mtxLines s * mtxFrameTicks s + 800)
  b2n off + 2 * b2n s.od.limits + 4 * b2n (slow 0 || slow 1) + 8 * b2n mtx

/-- A change of `0x8003:01` is journaled (R302). -/
def guarCheck (s : State) : State :=
  let u := unmet s
  if u = s.od.guarLog then s else log { s with od := { s.od with guarLog := u } } 0x0004 u 0 0

/-- Range of a measured quantity of R462, mV, or °C for the last: 0 VDD_IO18, 1 VDD_IO33, 2 VDD_ANA, 3 VAON, 4 and 5 VFIELD0 and VFIELD1,
6 and 7 VLED0 and VLED1, 8 the hottest die sensor. -/
def limitRange (q : Nat) : Int × Int :=
  if q = 0 || q = 2 then (1710, 1890)
  else if q = 1 then (3135, 3465)
  else if q = 3 then (1800, 3600)
  else if q = 4 || q = 5 then (0, 30500)
  else if q = 6 || q = 7 then (0, 31000)
  else (-32768, 125)

/-- Value of quantity `q` as measured: the die temperature is signed. -/
def limitValue (q : Nat) (v : BitVec 16) : Int := if q = 8 then v.toInt else v.toNat

def limitOut (q : Nat) (lo hi : BitVec 16) : Bool :=
  decide (limitValue q hi < (limitRange q).1) || decide ((limitRange q).2 < limitValue q lo)
def limitIn (q : Nat) (v : BitVec 16 × BitVec 16) : Bool :=
  decide ((limitRange q).1 ≤ limitValue q v.1) && decide (limitValue q v.2 ≤ (limitRange q).2)

/-- Bit 1 of `0x8003:01` changes. -/
def limitsSet (s : State) (b : Bool) : State :=
  if s.od.limits ≠ b then guarCheck { s with od := { s.od with limits := b } } else s

/-- LIMITS_EXCEEDED (R462): quantity `q` has been out of range for 10 ms, in which it lay between `lo` and `hi`. -/
def limitsExceeded (s : State) (q : Nat) (lo hi : BitVec 16) : State :=
  if s.dev ≠ .powerUp && limitOut q lo hi then limitsSet s true else s

/-- LIMITS_RESTORED (R462): in the last 10 ms the quantities lay between the bounds of `vs`, all in range. -/
def limitsRestored (s : State) (vs : List (BitVec 16 × BitVec 16)) : State :=
  if s.dev ≠ .powerUp && (vs.take 9).zipIdx.all (fun p => limitIn p.2 p.1) then limitsSet s false else s

/-! ## The management pair's mismatches -/

/-- Entries in the ledger: object dictionary, Millrace, frames, commits (R314, `0x8004:01`). -/
def responseWaits (s : State) (m : List Byte) : Bool :=
  (ownFrames s).any fun f => match f with
    | .object g => g.msg = m
    | _ => false
/-- Responses to writes and sets that have not left on every path. -/
def leavingOd (s : State) : List (List Byte) := s.od.leaving.filter (responseWaits s)
def ledgerOd (s : State) : Nat := s.od.waits.length + (leavingOd s).length + b2n s.od.lcReq.isSome
def ledgerMrc (s : State) : Nat := (List.range 16).countP fun n => (tabGet mrcSt0 s.mrc n).act.isSome
def ledgerCommits (s : State) : Nat := s.asp.commits.length

/-- MGMT_MISMATCH (R315): both copies are reset and the checkpoint is restored, anew where one comes during a recovery; the third
mismatch of one signature within 10 s fails the pair. The checkpoint of the last request or page is what `od` and `jrn` hold: every
command is whole, and a recovery takes no effect back (log entry 105). -/
def mgmtMismatch (s : State) (sig : Word) : State :=
  if !pairUp s then s
  else
    let recent := s.od.misHist.filter fun p => decide (s.tb < p.2 + 1000000000)
    if 2 ≤ (recent.filter fun p => p.1 = sig.toNat).length then fatal (log s 0xE004 sig.toNat 0 0) 0xE004 sig.toNat
    else { s with od := { s.od with mgmt := some (sig.toNat, s.tb), misHist := recent ++ [(sig.toNat, s.tb)] } }

/-- HEARTBEAT_INJECTION into group `g` of the management pair's comparator (R107, R109). DESIGN CHOICE (log entry 158): a failed one
fails the pair, as it fails a lane. -/
def mgmtInjection (s : State) (g full msk : Nat) (sig : Word) : State :=
  if pairRuns s && injectionDue s g then
    let s1 := advanceBit s 2 g
    if full = 1 && msk = 2 then s1
    else if full = 1 && msk = 1 then mgmtMismatch s1 sig
    else fatal (log s1 0xE004 sig.toNat 0 0) 0xE004 sig.toNat
  else s

/-- HEARTBEAT_INJECTION into group `g` of comparator `u`: lane 0, lane 1, management pair (R107, R109). -/
def injection (s : State) (u g full msk : Nat) (sig : Word) : State :=
  if u < 2 then heartbeat s u g full msk sig else mgmtInjection s g full msk sig

/-- MGMT_RECOVERED (R315, R306): the ledger is replayed and the pair resumes. -/
def mgmtRecovered (s : State) : State :=
  match s.od.mgmt with
  | none => s
  | some (sig, t) =>
    let s1 := { s with od := { s.od with mgmt := none, mgmtRecov := satAdd 32 s.od.mgmtRecov 1 } }
    logAt s1 t 0xE001 sig (s.tb - t) (ledgerOd s + ledgerMrc s + ledgerFrames s + ledgerCommits s) false

/-! ## The summit log -/

def recBytes (r : SumRec) : List Byte :=
  [BitVec.ofNat 8 r.frm, BitVec.ofNat 8 r.dst, BitVec.ofNat 8 r.result, BitVec.ofNat 8 r.arg] ++ leBytes 4 r.dur ++ leBytes 8 r.rtc

/-- The 256 bytes of the summit log (R426). -/
def summitBytes (s : State) : List Byte :=
  let m := s.summit
  let b := leBytes 4 m.boot ++ leBytes 2 m.fatal ++ leBytes 1 m.wake ++ leBytes 1 m.newest ++ leBytes 8 m.tbEntry ++
    (List.range 8).flatMap (fun i => recBytes (tabGet sumRec0 m.recs i)) ++ leBytes 8 m.rtcEntry ++ List.replicate 100 0#8
  b ++ leBytes 4 (crc32c b)

end Sys2Proof.Machine
end

