-- ==== Sys2Proof/Machine/Mem.lean ====
section
/-!
DEFINITION. System SRAM and retention SRAM (R30, R382, R415, R480) as bytes by address, and the banks an access may reach.
-/
namespace Sys2Proof.Machine

def sramBase : Nat := 0x20000000
def sramSize : Nat := 0x200000
def retBase : Nat := 0x20800000
def retSize : Nat := 0x8000

/-- The boot ROM (R30). -/
def inRom (a : Nat) : Bool := decide (a < 0x80000)
def inSram (a : Nat) : Bool := decide (sramBase ≤ a) && decide (a < sramBase + sramSize)
def inRet (a : Nat) : Bool := decide (retBase ≤ a) && decide (a < retBase + retSize)

/-- Bank of an SRAM address (256 KiB each), of a retention address (8 KiB each). -/
def sramBank (a : Nat) : Nat := (a - sramBase) / 0x40000
def retBank (a : Nat) : Nat := (a - retBase) / 0x2000

/-- The epoch of undefined content an unlisted byte belongs to; none: it reads 0 (R480). -/
def memEpoch (m : Mem) (a : Nat) : Option Nat :=
  if inRet a then (if retBank a = 0 then m.ret0 else m.ret) else m.sram

/-- What an unlisted byte reads as. -/
def memBlank (m : Mem) (a : Nat) : Byte :=
  match memEpoch m a with
  | none => 0
  | some e => Config.undefByte e a

def memByte (m : Mem) (a : Nat) : Byte := (tabFind m.cells a).getD (memBlank m a)

/-- Write one byte. Where unlisted bytes are undefined every written byte is listed; else a 0 is unlisted. -/
def memSetByte (m : Mem) (a : Nat) (b : Byte) : Mem :=
  if memEpoch m a = none then { m with cells := tabPut 0 m.cells a b } else { m with cells := tabIns m.cells a b }

/-- The canonical form over the keys from `lo` on: addresses strictly rising, and no entry that reads as it would unlisted where
an unlisted byte reads 0. -/
def memWfFrom (m : Mem) : Nat → Tab Byte → Bool
  | _, [] => true
  | lo, (a, b) :: t => decide (lo ≤ a) && !(memEpoch m a = none && b = 0) && memWfFrom m (a + 1) t

/-- The canonical form of the memory. -/
def Mem.wf (m : Mem) : Bool := memWfFrom m 0 m.cells

def memBytes (m : Mem) (a : Nat) : Nat → List Byte
  | 0 => []
  | k + 1 => memByte m a :: memBytes m (a + 1) k

def memSetBytes (m : Mem) (a : Nat) : List Byte → Mem
  | [] => m
  | b :: t => memSetBytes (memSetByte m a b) (a + 1) t

def memWord (m : Mem) (a : Nat) : Nat := ofLe (memBytes m a 4)
def memSetWord (m : Mem) (a : Nat) (w : Nat) : Mem := memSetBytes m a (leBytes 4 w)

/-- Bank `b` of system SRAM is usable (R382); bank 0 is essential. -/
def sramUsable (s : State) (b : Nat) : Bool := b = 0 || !bitN (fldGet s Reg.BIST_UNUSABLE F.BIST_UNUSABLE_SRAM) (b - 1)
def retUsable (s : State) (b : Nat) : Bool := !bitN (fldGet s Reg.BIST_UNUSABLE F.BIST_UNUSABLE_RET) b

/-- A memory address whose bank can be accessed. -/
def memReadable (s : State) (a : Nat) : Bool :=
  (inSram a && sramUsable s (sramBank a)) || (inRet a && retUsable s (retBank a))

/-- Drop what is listed of the addresses `p` names. -/
def memForget (p : Nat → Bool) (m : Mem) : Mem := { m with cells := m.cells.filter fun c => !p c.1 }

/-- Every word reads 0: the March test has passed (R480), or the wipe has run (R392). -/
def memZero (m : Mem) : Mem := { m with cells := [], sram := none, ret0 := none, ret := none }

/-- All content is undefined from here on (R480). -/
def memLose (m : Mem) : Mem := { m with cells := [], sram := some m.epoch, ret0 := some m.epoch, ret := some m.epoch, epoch := m.epoch + 1 }

/-- System SRAM was unpowered (R480). -/
def memLoseSram (m : Mem) : Mem := { memForget inSram m with sram := some m.epoch, epoch := m.epoch + 1 }

/-- The power controller writes retention bank 0, whose layout the spec does not give (R416). -/
def memSaveBank0 (m : Mem) : Mem :=
  { memForget (fun a => inRet a && retBank a = 0) m with ret0 := some m.epoch, epoch := m.epoch + 1 }

/-- Banks 1 to 3 in `bs` are cleared to 0 (R422): what they held is listed away, byte by byte where the rest stays undefined. -/
def memClearRet (m : Mem) (b : Nat) : Mem :=
  if m.ret = none then memForget (fun a => inRet a && retBank a = b) m
  else (List.range 0x2000).foldl (fun n k => memSetByte n (retBase + b * 0x2000 + k) 0) m

end Sys2Proof.Machine
end

