-- ==== Sys2Proof/Machine/Mrc.lean ====
section
/-!
DEFINITION. Millrace control (R355 to R367): channels, the doorbell, the check of a descriptor, the tailrace queue and the
descriptor boundary. What a descriptor moves stands in MrcRun, over the bus.
-/
namespace Sys2Proof.Machine

def mrcGet (s : State) (n : Nat) : MrcSt := tabGet mrcSt0 s.mrc n
def mrcSet (s : State) (n : Nat) (x : MrcSt) : State := { s with mrc := tabPut mrcSt0 s.mrc n x }

/-- Channel `n` is enabled (R355). -/
def mrcEnabled (s : State) (n : Nat) : Bool := bitN (regGet s Reg.MRC_EN).toNat n

/-- A channel is busy in every state but IDLE. -/
def mrcBusy (s : State) (n : Nat) : Bool := (mrcGet s n).state ≠ 0

/-! ## Descriptors -/

def descType (d : Desc) : Nat := d.ctrl.toNat / 2 ^ 28 % 4
def descE (d : Desc) : Nat := 4 * 2 ^ (d.ctrl.toNat / 2 ^ 25 % 8)
def descEoc (d : Desc) : Bool := bitN d.ctrl.toNat 31
def descInt (d : Desc) : Bool := bitN d.ctrl.toNat 30
def descSfix (d : Desc) : Bool := bitN d.ctrl.toNat 24
def descDfix (d : Desc) : Bool := bitN d.ctrl.toNat 23
def descTag (d : Desc) : Nat := d.ctrl.toNat % 2 ^ 16

/-- FORMAT of R358: type, element size and reserved fields. IDX of a copy or fill is not reserved, and is not read. -/
def descFormatBad (d : Desc) : Bool :=
  descType d = 3 || decide (4 < d.ctrl.toNat / 2 ^ 25 % 8) || d.ctrl.toNat / 2 ^ 16 % 128 ≠ 0 || d.r0 ≠ 0 || d.r1 ≠ 0

/-- MISALIGNED of R358; IDX is checked whatever the type, since R358 excepts only SRC, and only for fill. -/
def descMisaligned (d : Desc) : Bool :=
  let e := descE d
  (descType d ≠ 1 && d.src.toNat % e ≠ 0) || d.dst.toNat % e ≠ 0 || d.idx.toNat % 4 ≠ 0 ||
    d.len = 0 || (descType d ≠ 2 && d.len.toNat % e ≠ 0) || ((descSfix d || descDfix d) && e ≠ 4)

/-- The status with which a load refuses a descriptor; 0: it starts. -/
def descCheck (d : Desc) : Nat := if descFormatBad d then 5 else if descMisaligned d then 2 else 0

/-- The shadow descriptor of a channel. -/
def shadowDesc (s : State) (n : Nat) : Desc :=
  let w := fun j => regGet s (Reg.MRC_CH_SH n j)
  ⟨w 0, w 1, w 2, w 3, w 4, w 5, 0, 0⟩

/-- The descriptor in memory at `a`. -/
def memDesc (m : Mem) (a : Nat) : Desc :=
  let w := fun j => BitVec.ofNat 32 (memWord m (a + 4 * j))
  ⟨w 0, w 1, w 2, w 3, w 4, w 5, w 6, w 7⟩

/-- Where the chain goes after `d`; none: it ends. -/
def descNext (d : Desc) : Option Nat := if descEoc d then none else some d.nxt.toNat

/-! ## The tailrace queue -/

def tqBase (s : State) (n : Nat) : Nat := (regGet s (Reg.MRC_CH_TQ_BASE n)).toNat
def tqSize (s : State) (n : Nat) : Nat := (regGet s (Reg.MRC_CH_TQ_SIZE n)).toNat % 512
def tqHead (s : State) (n : Nat) : Nat := (regGet s (Reg.MRC_CH_TQ_HEAD n)).toNat % 256
def tqTail (s : State) (n : Nat) : Nat := (regGet s (Reg.MRC_CH_TQ_TAIL n)).toNat % 256

/-- The settings keep R363: a 16-byte aligned base, a power of two of records from 2 to 256, in SRAM. -/
def tqOk (s : State) (n : Nat) : Bool :=
  [2, 4, 8, 16, 32, 64, 128, 256].contains (tqSize s n) && tqBase s n % 16 = 0 && inSram (tqBase s n) &&
    inSram (tqBase s n + 16 * tqSize s n - 1)

/-- HEAD + 1 equals TAIL modulo the size (R363). -/
def tqFull (s : State) (n : Nat) : Bool := (tqHead s n + 1) % tqSize s n = tqTail s n % tqSize s n

/-- The bytes of a record (R365). -/
def recordBytes (n tag status bytes tb : Nat) (int : Bool) : List Byte :=
  leBytes 2 tag ++ leBytes 1 status ++ leBytes 1 (n + 128 * b2n int) ++ leBytes 4 bytes ++ leBytes 8 tb

/-- The slot at HEAD. -/
def slotAt (s : State) (n : Nat) : Nat := tqBase s n + 16 * (tqHead s n % tqSize s n)

/-- A load takes the slot at HEAD for the descriptor (R316, R364). -/
def takeSlot (s : State) (n : Nat) : State := mrcSet s n { mrcGet s n with slot := (slotAt s n, tqSize s n) }

/-- The record is written into the slot that the load has taken, and HEAD advances (R364, R365, R372). -/
def mrcRecord (s : State) (n tag status bytes : Nat) (int : Bool) : State :=
  let a := (mrcGet s n).slot.1
  let s1 := if memReadable s a then { s with mem := memSetBytes s.mem a (recordBytes n tag status bytes s.tb int) } else s
  let s2 := regSet s1 (Reg.MRC_CH_TQ_HEAD n) (BitVec.ofNat 32 ((tqHead s n + 1) % (mrcGet s n).slot.2))
  let s3 := fldSet s2 (Reg.MRC_CH_STAT n) F.MRC_CH_STAT_LAST status
  let s4 := fldSet s3 (Reg.MRC_CH_STAT n) F.MRC_CH_STAT_DESC (fldGet s3 (Reg.MRC_CH_STAT n) F.MRC_CH_STAT_DESC + 1)
  if int then regSet s4 Reg.MRC_DONE (BitVec.ofNat 32 (setBitN (regGet s4 Reg.MRC_DONE).toNat n true)) else s4

/-! ## The boundary -/

/-- STOP takes effect (R367). -/
def mrcStopped (s : State) (n : Nat) (nxt : Option Nat) : State :=
  let s1 := mrcSet s n { mrcGet s n with state := 0, act := none, nxt := none, armed := false, stop := false }
  regSet (fldSet s1 (Reg.MRC_CH_STAT n) F.MRC_CH_STAT_STOPPED 1) (Reg.MRC_CH_NEXT n) (BitVec.ofNat 32 (nxt.getD 0))

/-- After a record is written (R359, R367): STOP wins; else the channel goes on to NEXT, samples ARMED at the end of the chain, or
becomes IDLE. -/
def mrcBoundary (s : State) (n : Nat) (nxt : Option Nat) : State :=
  let x := mrcGet s n
  if x.stop then mrcStopped s n nxt
  else mrcSet s n { x with act := none, nxt := nxt, state := if nxt.isSome || x.armed then 1 else 0 }

/-- The descriptor is checked and starts, or its record refuses it (R358). -/
def mrcBegin (s : State) (n : Nat) (d : Desc) : State :=
  if descCheck d = 0 then mrcSet s n { mrcGet s n with state := 2, act := some d }
  else mrcBoundary (mrcRecord s n (descTag d) (descCheck d) 0 (descInt d)) n (descNext d)

/-- The queue is full: the channel waits, or stops there (R364, R367). -/
def mrcWait (s : State) (n : Nat) : State :=
  let x := mrcGet s n
  if x.stop then mrcStopped s n x.nxt else mrcSet s n { x with state := 5 }

/-- The shadow is loaded and ARMED clears (R359). -/
def mrcLoadShadow (s : State) (n : Nat) : State :=
  if tqFull s n then mrcWait s n
  else
    let t := takeSlot s n
    mrcBegin (mrcSet t n { mrcGet t n with armed := false }) n (shadowDesc s n)

/-- Where the boundary has sampled ARMED, the shadow is loaded at once. -/
def mrcSample (s : State) (n : Nat) : State :=
  let x := mrcGet s n
  if x.state = 1 && x.nxt = none then mrcLoadShadow s n else s

/-- A descriptor ends with its record, and the channel goes on. -/
def mrcFinish (s : State) (n : Nat) (d : Desc) (status bytes : Nat) : State :=
  mrcSample (mrcBoundary (mrcRecord s n (descTag d) status bytes (descInt d)) n (descNext d)) n

/-- A chained descriptor is fetched (R366: outside SRAM, misaligned or in a bank without access it is a fetch error). -/
def mrcFetch (s : State) (n a : Nat) : State :=
  if tqFull s n then mrcWait s n
  else if inSram a && memReadable s a && a % 32 = 0 then mrcSample (mrcBegin (takeSlot s n) n (memDesc s.mem a)) n
  else
    let s1 := mrcRecord (fldSet (takeSlot s n) (Reg.MRC_CH_STAT n) F.MRC_CH_STAT_FETCH_ERR 1) n 0 4 0 false
    mrcSample (mrcBoundary s1 n none) n

/-- The channel loads what comes next. -/
def mrcLoad (s : State) (n : Nat) : State :=
  match (mrcGet s n).nxt with
  | some a => mrcFetch s n a
  | none => mrcLoadShadow s n

/-- DESCRIPTOR_FETCH. -/
def descriptorFetch (s : State) (n : Nat) : State := if (mrcGet s n).state = 1 then mrcLoad s n else s

/-! ## Writes -/

/-- SHADOW_ARM, the doorbell (R359, R360); none: bus error. -/
def doorbell (s : State) (n : Nat) : Option State :=
  let x := mrcGet s n
  if !mrcEnabled s n then none
  else if x.armed then some (fldSet s (Reg.MRC_CH_STAT n) F.MRC_CH_STAT_ARM_DUP 1)
  else if x.dirty || !tqOk s n then some (fldSet s (Reg.MRC_CH_STAT n) F.MRC_CH_STAT_CFG_ERR 1)
  else if x.state = 0 then some (mrcLoadShadow (mrcSet s n { x with armed := true, nxt := none }) n)
  else some (mrcSet s n { x with armed := true })

/-- STOP (R367): nothing on an IDLE channel, at once in QWAIT, else at the next boundary. -/
def mrcStop (s : State) (n : Nat) : State :=
  let x := mrcGet s n
  if x.state = 0 then s
  else if x.state = 5 then mrcStopped s n x.nxt
  else mrcSet s n { x with stop := true }

/-- MRC_EN_WRITE (R367). -/
def mrcEnWrite (s : State) (w : Word) : State :=
  let cleared := (List.range 16).filter fun n => mrcEnabled s n && !bitN w.toNat n
  cleared.foldl mrcStop (regSet s Reg.MRC_EN (BitVec.ofNat 32 (w.toNat % 2 ^ 16)))

/-- TQ_TAIL_WRITE (R364). -/
def tqTailWrite (s : State) (n : Nat) (w : Word) : State :=
  let s1 := regSet s (Reg.MRC_CH_TQ_TAIL n) (BitVec.ofNat 32 (w.toNat % 256))
  if (mrcGet s1 n).state = 5 && !tqFull s1 n then mrcLoad s1 n else s1

/-- A write of `MRC_CHn_CTRL`: STOP acts on the state before the doorbell. -/
def mrcCtrlWrite (s : State) (n : Nat) (w : Word) : Option State :=
  let s1 := if bitN w.toNat 1 then mrcStop s n else s
  if bitN w.toNat 0 then doorbell s1 n else some s1

/-- A write of a queue register (R360): while the channel is busy it is accepted, and the next doorbell is refused. -/
def tqCfgWrite (s : State) (n a : Nat) (w : Word) : State :=
  mrcSet (regSet s a w) n { mrcGet s n with dirty := mrcBusy s n }

/-- What a shadow register keeps of a written word: bits 22:16 of CTRL are reserved (R2, R356). -/
def shadowWord (n a : Nat) (w : Word) : Word := if a = Reg.MRC_CH_SH n 0 then w &&& 0xFF80FFFF else w

/-- A write of a shadow register (R360); none: bus error while ARMED. -/
def shadowWrite (s : State) (n a : Nat) (w : Word) : Option State :=
  if (mrcGet s n).armed then none else some (regSet s a (shadowWord n a w))

/-! ## Reads -/

/-- STATE as read: a running channel moves, reads back or writes its record, and which of these now is a free value (R361; log entry
112). -/
def mrcShown (s : State) (n : Nat) : Nat :=
  let k := (mrcGet s n).state
  if k = 2 then 2 + (Config.mrcPhase n s.tb).toNat % 3 else k

/-- OUTMAX of channel `n`, 1 to 16 (R362). -/
def outMax (s : State) (n : Nat) : Nat := clampN (fldGet s (Reg.MRC_CH_CFG n) F.MRC_CH_CFG_OUTMAX) 1 16

/-- `MRC_OUTST`: at most OUTMAX transactions for each running channel, and 64 in all, are outstanding; how many now is a free value
(R362; log entry 112). -/
def mrcOutst (s : State) : Word :=
  let most := (((List.range 16).filter fun n => (mrcGet s n).state = 2).map (outMax s)).foldl (· + ·) 0
  BitVec.ofNat 32 ((Config.mrcOutstanding s.tb).toNat % (min 64 most + 1))

/-- `MRC_CHn_STAT` as read. -/
def mrcStat (s : State) (n : Nat) : Word :=
  let x := mrcGet s n
  setF (setF (regGet s (Reg.MRC_CH_STAT n)) F.MRC_CH_STAT_STATE (mrcShown s n)) F.MRC_CH_STAT_ARMED (b2n x.armed)

/-- `MRC_STATUS`. -/
def mrcStatus (s : State) : Word :=
  BitVec.ofNat 32 (packBits (fun n => (mrcGet s n).armed) 16 * 2 ^ 16 + packBits (mrcBusy s) 16)

/-- `MRC_CHn_ACT_TAG`: 0 where no descriptor is in progress. -/
def mrcActTag (s : State) (n : Nat) : Word :=
  match (mrcGet s n).act with
  | some d => BitVec.ofNat 32 (descTag d)
  | none => 0

end Sys2Proof.Machine
end

