-- ==== Sys2Proof/Machine/Pwr.lean ====
section
/-!
DEFINITION. Power states (R410 to R426): requests, the entry to SLEEP and HIBERNATE with its refusals, wake events and the wake
sequence up to its memory step, the summit log and the RTC, clock gating, the regulator and the core supply (R437, R438).
-/
namespace Sys2Proof.Machine

/-! ## The RTC (R424, R427) -/

/-- One AON tick is 390625 / 128 TB ticks. The position counts 1/128 of a TB tick. -/
def rtcPos (s : State) : Nat := s.pwr.rtc * 390625 + s.pwr.rtcAcc

/-- The RTC, 48 bits. -/
def rtcCount (s : State) : Nat := s.pwr.rtc % 2 ^ 48

/-- `d` units of 1/128 TB tick pass. -/
def rtcAdvance (s : State) (d : Nat) : State :=
  let p := s.pwr.rtcAcc + d
  { s with pwr := { s.pwr with rtc := s.pwr.rtc + p / 390625, rtcAcc := p % 390625 } }

/-- Microseconds of a difference of positions. -/
def posUs (d : Nat) : Nat := d / 12800

def rtcAlarm (s : State) : Nat := (regGet s Reg.PWR_RTC_ALM_LO).toNat + 2 ^ 32 * ((regGet s Reg.PWR_RTC_ALM_HI).toNat % 2 ^ 16)

/-! ## The summit log (R426) -/

/-- A transition, refused entry or failed wake writes the next record. -/
def sumRecord (s : State) (r : SumRec) : State :=
  let i := (s.summit.newest + 1) % 8
  { s with summit := { s.summit with newest := i, recs := tabPut sumRec0 s.summit.recs i r } }

/-! ## Requests (R411) -/

def vout (s : State) : Nat := fldGet s Reg.PWR_PMB_CFG F.PWR_PMB_CFG_VOUT

/-- A transition is running. -/
def inTransition (s : State) : Bool := s.pwr.req.isSome || s.pwr.entering.isSome || s.pwr.step ≠ 0 || s.pwr.hibWake

/-- An essential block has failed or is not proven: reads are served as in SELF-TEST, no writes (R381). -/
def essentialFailed (s : State) : Bool :=
  s.dev = .safeStopped && (fldGet s Reg.BIST_STATUS F.BIST_STATUS_ESSENTIAL ≠ 0 || fldGet s Reg.BIST_STATUS F.BIST_STATUS_RESULT = 4)

/-- The device serves writes in these states (R271). -/
def servesWrites (s : State) : Bool :=
  started s.dev && s.dev ≠ .faulted && !essentialFailed s

/-- The request with this code is accepted: one for the present state always. A device with a failed essential block leaves its state
only by reset (R381). -/
def pwrAccepts (s : State) (code : Nat) : Bool :=
  !inTransition s &&
    ((code = 1 && s.pwr.state = 1) || (code = 4 && s.pwr.state = 0) || ((code = 1 || code = 4) && servesWrites s) ||
      ((code = 2 || code = 3) && s.dev = .safeStopped && vout s ≠ 0 && !essentialFailed s &&
        !(pairMember s && (pstate s = 4 || pstate s = 5 || pstate s = 6))))

/-- DOZE and RUN change places: the transition is recorded and journaled; `src`: 0, or the Rope node (R306). -/
def dozeMove (s : State) (dst arg src : Nat) : State :=
  if s.pwr.state = dst then s
  else
    let s1 := sumRecord s ⟨s.pwr.state, dst, 0, arg, 0, rtcCount s⟩
    log { s1 with pwr := { s1.pwr with state := dst, gated := 0 } } 0x3003 s.pwr.state dst src

/-- A request; none: refused with ERR_STATE. SLEEP and HIBERNATE are taken up and journaled, and REQ_SLEEP or REQ_HIBERNATE carries
them out. -/
def pwrRequest (s : State) (code src : Nat) : Option State :=
  if !pwrAccepts s code then none
  else if code = 1 then some (dozeMove s 1 0 src)
  else if code = 4 then some (dozeMove s 0 11 src)
  else some (log { s with pwr := { s.pwr with req := some (code, src), woken := false, rtcStart := rtcPos s } } 0x3003 s.pwr.state code src)

/-- A write of `PWR_REQ` (R411). -/
def pwrReqWrite (s : State) (w : Nat) : State :=
  match pwrRequest s (w % 8) 0 with
  | some t => t
  | none => fldSet s Reg.PWR_STATUS F.PWR_STATUS_REQ_REF 1

/-! ## Entering SLEEP and HIBERNATE (R413, R414) -/

/-- The ledger holds an object dictionary entry other than the request itself, whose response leaves first (R411, R413). -/
def ledgerHeld (s : State) : Bool :=
  s.od.waits ≠ [] || s.od.lcReq.isSome || (leavingOd s).any fun m => leAt m 8 2 ≠ 0x7000

/-- The first block, in the order of R413, that cannot stop; 0 none. -/
def refusingBlock (s : State) : Nat :=
  if (List.range 16).any (mrcBusy s) then 3
  else if s.otp.cmd.isSome || s.otp.lcProg.isSome then 5
  else if committing s then 6
  else if pairMember s && (pstate s = 4 || pstate s = 5 || pstate s = 6) then 8
  else if s.od.sets ≠ [] || ledgerHeld s then 0xB
  else 0

/-- What the stopped blocks lose (R413): running conversions are abandoned, and ports go down. -/
def stopBlocks (s : State) (upTo : Nat) : State :=
  let s1 := if 2 < upTo then
      (List.range 4).foldl (fun t n => adcSet t n { adcGet t n with phase := 0, rep := 0, trigAt := none, conv := none, urg := none, tail := [] }) s
    else s
  if 7 < upTo then (List.range 3).foldl (fun t p => fldSet t (Reg.ROPE_PORT_STAT p) F.ROPE_PORT_STAT_LINK 0) s1 else s1

/-- The stopped blocks restart (R414). DESIGN CHOICE (log entry 202): a converter core waits for its trigger, and one that needs none begins its
sequence anew; lamp stages wait for the next boundary of their bank, the matrix for its next frame. -/
def restartBlocks (s : State) : State :=
  let s1 := { s with lmp := { s.lmp with wait0 := true, wait1 := true, mtxFrame := none } }
  (List.range 4).foldl (fun t n =>
    if adcEn t n && !adcSlave t n && fldGet t (Reg.ADC_CFG n) F.ADC_CFG_SEQMODE = 1 && fldGet t (Reg.ADC_TRIG n) F.ADC_TRIG_SRC = 0 then adcDelay t n
    else t) s1

/-- The entry is refused and rolled back (R414). -/
def abortEntry (s0 : State) (target block us : Nat) : State :=
  let s := restartBlocks s0
  let c := satAdd 16 (fldGet s Reg.PWR_SLEEP_ABORT F.PWR_SLEEP_ABORT_CNT) 1
  let s1 := fldSet (fldSet s Reg.PWR_SLEEP_ABORT F.PWR_SLEEP_ABORT_CNT c) Reg.PWR_SLEEP_ABORT F.PWR_SLEEP_ABORT_BLOCK block
  let s2 := log (fldSet s1 Reg.PWR_STATUS F.PWR_STATUS_ABORT 1) 0x3001 block 0 0
  let s3 := sumRecord s2 ⟨s.pwr.state, target, 1, block, us, s.pwr.rtcStart / 390625 % 2 ^ 48⟩
  { s3 with pwr := { s3.pwr with state := 0, req := none, entering := none, acks := 0, gated := 0 } }

/-- The registers bank 0 retains (R416, R441). -/
def retained (a : Nat) : Bool :=
  if a / 65536 = 0x400A then
    (List.range 16).any fun n => a = Reg.TMR_CFG n || a = Reg.TMR_PRESC n || a = Reg.TMR_PERIOD n || a = Reg.TMR_CMP n || a = Reg.TMR_PHASE n
  else if a / 65536 = 0x4009 then
    (List.range 4).any fun n => a = Reg.ADC_CFG n || a = Reg.ADC_TRIG n ||
      (List.range 64).any (fun e => a = Reg.ADC_LOOP_A n e || a = Reg.ADC_LOOP_B n e) || (List.range 16).any fun e => a = Reg.ADC_STEP n e
  else if a / 65536 = 0x400B then
    (List.range 16).any fun n => a = Reg.MRC_CH_CFG n || a = Reg.MRC_CH_TQ_BASE n || a = Reg.MRC_CH_TQ_SIZE n
  else if a / 65536 = 0x400C then
    (List.range 4).any fun n => a = Reg.CRC_CFG n || a = Reg.CRC_POLY n || a = Reg.CRC_INIT n || a = Reg.CRC_XOROUT n || a = Reg.CRC_VAL n
  else a = Reg.HOST_PMB_CTRL || a = Reg.HOST_GPIO_OUT || (List.range 16).any fun k => a = Reg.HOST_GPIO_CFG k

/-- A value as it is restored: EN = 0 (R416). -/
def retainedValue (a : Nat) (w : Word) : Word :=
  if (List.range 16).any (fun n => a = Reg.TMR_CFG n) then setF w F.TMR_CFG_EN 0
  else if (List.range 4).any (fun n => a = Reg.ADC_CFG n) then setF w F.ADC_CFG_EN 0
  else w

def savedRegs (s : State) : Tab Word :=
  (s.regs.filter fun p => retained p.1).filterMap fun p =>
    let v := retainedValue p.1 p.2
    if v = resetWord p.1 then none else some (p.1, v)

/-- A reset of everything outside the always-on island: what `keep` names of the registers stays, and so do TB, the fuse cells and
wire latches, what a scan has left until the next reset of the device (R392), the flash, the pins, the summit log and the power
controller. -/
def coreReset (s : State) (keep : Nat → Bool) : State :=
  { State.reset with
    pending := s.pending
    tb := s.tb
    regs := s.regs.filter fun p => keep p.1
    summit := s.summit
    kill := { kill0 with extA := s.kill.extA, extB := s.kill.extB, extAt := s.kill.extAt, supply := s.kill.supply, scan := s.kill.scan }
    otp := { s.otp with held := [], known := [], cmd := none, key := [] }
    flash := s.flash
    mem := s.mem
    pwr := s.pwr
    ports := { ports0 with quad := s.ports.quad, gpio := s.ports.gpio, wiped := s.ports.wiped, scanUsed := s.ports.scanUsed }
    bus := s.bus }

def isPwrReg (a : Nat) : Bool := a / 65536 = 0x4001
def isBistReg (a : Nat) : Bool := a / 65536 = 0x4003

/-! ## The regulator (R437) -/

/-- Transfers to the regulator: command code and data of each. -/
def pmbSend (s : State) (l : List (Nat × Nat)) : State :=
  let c := fun (p : Nat × Nat) => (⟨bitN (regGet s Reg.HOST_PMB_CTRL).toNat 0, fldGet s Reg.PWR_PMB_CFG F.PWR_PMB_CFG_ADDR,
    fldGet s Reg.PWR_PMB_CFG F.PWR_PMB_CFG_PEC = 1, p.1, p.2⟩ : PmbCmd)
  { s with pwr := { s.pwr with pmb := l.map c } }

/-- OPERATION = 0x00, the regulator's output goes off (R413, R421). -/
def pmbOff (s : State) : State := pmbSend s [(0x01, 0)]

/-- VOUT_COMMAND and OPERATION = 0x80 (R421). -/
def pmbOn (s : State) : State := pmbSend s [(0x21, vout s), (0x01, 0x80)]

/-- CRC-32C of each retention bank (R415). -/
def bankCrcs (m : Mem) : List Nat := (List.range 4).map fun b => crc32c (memBytes m (retBase + 0x2000 * b) 0x2000)

/-- Step 1 after the stop of the blocks: bank 0 is saved unless it is unusable, and the CRCs are stored; not for HIBERNATE (R413, R415, R425). -/
def retentionSave (s : State) (target : Nat) : State :=
  if target = 2 then
    let m := if retUsable s 0 then memSaveBank0 s.mem else s.mem
    { s with mem := m, pwr := { s.pwr with bankCrc := bankCrcs m } }
  else s

/-- The wake sequence starts (R421). -/
def startWake (s : State) : State :=
  { s with pwr := { s.pwr with step := 1, wakeAt := rtcPos s, stepAt := rtcPos s, failAt := none, woken := false } }

/-- The core loses power: the power state is SLEEP (2) or HIBERNATE (3) (R413, R424, R425). -/
def coreOff (s : State) (target us : Nat) : State :=
  let s1 := sumRecord s ⟨s.pwr.state, target, 0, 0, us, s.pwr.rtcStart / 390625 % 2 ^ 48⟩
  let s2 := fldSet s1 Reg.PWR_TIMES F.PWR_TIMES_ENTRY (min us 0xFFFF)
  let s3 := { s2 with summit := { s2.summit with tbEntry := s.tb, rtcEntry := rtcCount s } }
  let s4 := coreReset s3 fun a => isPwrReg a || (target = 2 && isBistReg a)
  let s5 := { s4 with
    mem := if target = 2 then memLoseSram s4.mem else memLose s4.mem
    pwr := { s4.pwr with
      state := target, req := none, entering := none, acks := 0, gated := 0, tries := 0, faultClamp := faultLow s,
      saved := if target = 2 then savedRegs s else [] } }
  if s.pwr.woken then startWake s5 else s5

/-- REQ_SLEEP and REQ_HIBERNATE (R413): the accepted request for `target` runs, or waits where its journal page waits (R311). DEDUCED (log entry
206): the device is in SAFE-STOPPED throughout, and one that has become FAULTED stays so (R9, R414). `us`:
duration of the entry; `page`: the page write succeeds; `ack`: the regulator acknowledges the first command. -/
def lowEntry (s : State) (target us : Nat) (page ack : Bool) : State :=
  match s.pwr.req with
  | some (t, _) =>
    if t = target && s.pwr.entering = none && s.dev = .safeStopped && !pageWaits s then
      let s1 := flushJournal s page
      let b := refusingBlock s1
      if b ≠ 0 then abortEntry (stopBlocks s1 b) target b us
      else
        let s2 := stopBlocks s1 0xC
        let s3 := pmbOff (retentionSave s2 target)
        if ack then coreOff s3 target us
        else
          let s4 := fldBump s3 Reg.HOST_PMB_STAT F.HOST_PMB_STAT_NACK 1
          { s4 with pwr := { s4.pwr with entering := some target, acks := 1, entryUs := us } }
    else s
  | none => s

/-- REGULATOR_ACK_TIMEOUT (R413): 100 µs later the command is repeated, three times at most. -/
def regulatorAck (s : State) (ack : Bool) : State :=
  match s.pwr.entering with
  | none => s
  | some t => if s.dev = .faulted then s else
    let us := s.pwr.entryUs + 100 * s.pwr.acks
    let u := pmbOff s
    if ack then coreOff u t us
    else
      let s1 := fldBump u Reg.HOST_PMB_STAT F.HOST_PMB_STAT_NACK 1
      if 3 ≤ s.pwr.acks then abortEntry s1 t 0xC us
      else { s1 with pwr := { s1.pwr with acks := s1.pwr.acks + 1 } }

/-! ## Wake (R418 to R422) -/

/-- The wake source is enabled, and the RTC alarm is due. -/
def wakeEnabled (s : State) (code : Nat) : Bool :=
  if code = 9 then fldGet s Reg.PWR_WAKE_CFG F.PWR_WAKE_CFG_RTC_EN = 1 && decide (rtcAlarm s ≤ rtcCount s)
  else if code = 10 then fldGet s Reg.PWR_WAKE_CFG F.PWR_WAKE_CFG_ROPE_EN = 1
  else decide (1 ≤ code) && decide (code ≤ 8) && bitN (fldGet s Reg.PWR_WAKE_CFG F.PWR_WAKE_CFG_EN) (code - 1)

/-- WAKE_EVENT (R412, R418, R420, R421): latched from the acceptance of a request on, and in DOZE. -/
def wakeEvent (s : State) (code : Nat) : State :=
  if wakeEnabled s code && (s.pwr.state ≠ 0 || inTransition s) then
    let s1 := regSet s Reg.PWR_WAKE_STAT (BitVec.ofNat 32 (setBitN (regGet s Reg.PWR_WAKE_STAT).toNat (code - 1) true))
    if inTransition s then { s1 with pwr := { s1.pwr with woken := true } }
    else if s.pwr.state = 1 then
      let s2 := sumRecord s1 ⟨1, 0, 0, code, 0, rtcCount s⟩
      { s2 with pwr := { s2.pwr with state := 0, gated := 0 } }
    else if s.pwr.failAt.isSome && decide (s.pwr.tries ≤ 3) then s1
    else startWake { s1 with pwr := { s1.pwr with tries := 0 } }
  else s

/-- The lowest code latched; 0 none. -/
def lowestWake (s : State) : Nat :=
  match (List.range 10).find? fun k => bitN (regGet s Reg.PWR_WAKE_STAT).toNat k with
  | some k => k + 1
  | none => 0

/-- Maximum of a wake step, in RTC position units (R421). -/
def stepMax (k : Nat) : Nat :=
  if k = 1 then 100 * 12800 else if k = 2 then 2000 * 12800 else if k = 3 then 3000 * 12800 else if k = 4 then 400 * 12800 else 100 * 12800

/-- WAKE_STEP_TIMEOUT (R421). -/
def wakeStepTimeout (s : State) : State :=
  if s.pwr.step ≠ 0 && !(s.pwr.step = 1 && s.kill.supply) && decide (s.pwr.stepAt + stepMax s.pwr.step ≤ rtcPos s) then
    let s1 := sumRecord s ⟨s.pwr.state, 0, 2, s.pwr.step, posUs (rtcPos s - s.pwr.wakeAt), s.pwr.wakeAt / 390625 % 2 ^ 48⟩
    let s2 := pmbOff (fldSet s1 Reg.PWR_STATUS F.PWR_STATUS_WAKE_FAIL 1)
    { s2 with pwr := { s2.pwr with step := 0, failAt := some (rtcPos s), tries := s.pwr.tries + 1, hibWake := false } }
  else s

/-- WAKE_RETRY (R421): up to three times, 100 ms after a failure. -/
def wakeRetry (s : State) : State :=
  match s.pwr.failAt with
  | some t => if s.pwr.step = 0 && decide (s.pwr.tries ≤ 3) && decide (t + 100000 * 12800 ≤ rtcPos s) then startWake s else s
  | none => s

/-- The memory step (R422): banks whose CRC differs from the stored one, or that are marked unusable, fail; bank 0 then gives reset values,
banks 1 to 3 read 0. `flips`: bytes of the retention SRAM that have changed without power in the core. -/
def memoryStep (s0 : State) (flips : List (Nat × Byte)) : State :=
  let s := { s0 with mem := flips.foldl (fun m p => memSetByte m (retBase + p.1) p.2) s0.mem }
  let crc := bankCrcs s.mem
  let bad := packBits (fun b => crc.getD b 0 ≠ s.pwr.bankCrc.getD b 0 || !retUsable s b) 4
  let s1 := regSet s Reg.PWR_RET_FAIL (BitVec.ofNat 32 bad)
  let s2 := { s1 with pwr := { s1.pwr with saved := if bitN bad 0 then [] else s1.pwr.saved } }
  { s2 with mem := ([1, 2, 3].filter fun b => bitN bad b).foldl memClearRet s2.mem }

/-! ## DOZE (R412) -/

/-- Block `b` (`ungateBlock`) is idle. -/
def blockIdle (s : State) (b : Nat) : Bool :=
  if b = 0 then s.od.inbox = [] && s.od.mgmt = none
  else if b = 1 then (List.range 16).all fun n => !mrcBusy s n
  else if b < 6 then fldGet s (Reg.CRC_CFG (b - 2)) F.CRC_CFG_EN = 0
  else if b < 10 then !adcEn s (b - 6) && !adcHeld s (b - 6) && !adcSlave s (b - 6)
  else if b < 26 then !tmrEn s (b - 10)
  else if b = 26 then s.ports.flashCmd = none && !(s.slots.commit = 2 || s.slots.commit = 4)
  else if b < 59 then fldGet s (Reg.LMP_STR_CFG (b - 27)) F.LMP_STR_CFG_EN = 0
  else !portUp s (b - 59)

/-- CLOCK_GATE: block `b` has been idle for 1024 SYS cycles. -/
def clockGate (s : State) (b : Nat) : State :=
  if s.pwr.state = 1 && blockIdle s b then { s with pwr := { s.pwr with gated := setBitN s.pwr.gated b true } } else s

/-- A gated block that has begun work of its own runs again, and gates only after 1024 idle cycles more (R412). -/
def regate (s : State) : State :=
  if s.pwr.gated = 0 then s
  else { s with pwr := { s.pwr with gated := packBits (fun b => bitN s.pwr.gated b && blockIdle s b) 62 } }

/-- The clock of block `b` is stopped: it was gated, and has nothing to do now. -/
def isGated (s : State) (b : Nat) : Bool := bitN s.pwr.gated b && blockIdle s b

/-- Blocks that a register at `a` belongs to; a register of several blocks runs them all. -/
def gateBlocks (a : Nat) : List Nat :=
  let o := a % 65536
  if a / 65536 = 0x400B then [1]
  else if a / 65536 = 0x400C then (if o < 0x100 then [2 + o / 0x40] else [])
  else if a / 65536 = 0x4009 then (if o < 0x1000 then [6, 7, 8, 9] else if o < 0x2000 then [6 + (o - 0x1000) / 0x400] else [])
  else if a / 65536 = 0x400A then (if o < 0x100 then [] else if o < 0x300 then [10 + (o - 0x100) / 0x20] else [])
  else if a / 65536 = 0x4007 then (List.range 32).map (27 + ·)
  else if a / 65536 = 0x400D then [59, 60, 61]
  else if decide (Reg.HOST_FLASH_ADDR ≤ a) && decide (a < Reg.HOST_FLASH_STAT + 4) ||
      decide (Reg.HOST_FLASH_BUF 0 ≤ a) && decide (a < Reg.HOST_FLASH_BUF 64) then
    [26]
  else []

/-- An access ungates its blocks (R32, R412). -/
def ungate (s : State) (a : Nat) : State := if s.pwr.gated = 0 then s else (gateBlocks a).foldl ungateBlock s

/-- An access to the register at `a`: the clock of its block runs for it (R32). -/
def access (s : State) (a : Nat) (f : State → State) : State := f (ungate s a)

/-! ## Regulator and core supply -/

/-- Bits VOUT, IOUT, POWER_GOOD# and TEMPERATURE of a PMBus STATUS_WORD. -/
def statusWatched (w : Nat) : Nat := Nat.land w 0xC804

/-- PMBUS_STATUS_POLL (R437); none: a missing acknowledgement. -/
def pmbusPoll (s0 : State) (w : Option Nat) : State :=
  if decide (s0.pwr.state < 2) && started s0.dev then
    (let s := pmbSend s0 [(0x79, w.getD 0)]
     match w with
     | none => fldBump s Reg.HOST_PMB_STAT F.HOST_PMB_STAT_NACK 1
     | some v =>
       let old := fldGet s Reg.HOST_PMB_STAT F.HOST_PMB_STAT_WORD
       let s1 := fldSet s Reg.HOST_PMB_STAT F.HOST_PMB_STAT_WORD v
       if statusWatched v ≠ statusWatched old && statusWatched v ≠ 0 then log s1 0x3006 v old 0 else s1)
  else s0

/-- CORE_SUPPLY (R438): 1 PGOOD low, 2 VDD_CORE outside its window, for 10 µs. -/
def coreSupply (s : State) (kind mv : Nat) : State :=
  if decide (s.pwr.state < 2) && s.dev ≠ .powerUp && s.dev ≠ .faulted then fatal (log s 0x3005 kind mv 0) 0x3005 kind else s

/-! ## Reads -/

/-- `PWR_STATUS` as read. -/
def pwrStatus (s : State) : Word :=
  setF (setF (regGet s Reg.PWR_STATUS) F.PWR_STATUS_TRANS (b2n (inTransition s))) F.PWR_STATUS_STATE s.pwr.state

end Sys2Proof.Machine
end

