-- ==== Sys2Proof/Machine/CmdAdc.lean ====
section
/-!
DEFINITION. The meanings of the ADC commands, one per row of the table.
-/
namespace Sys2Proof.Machine

/-- CONVERSION_DONE (R321): An ADC conversion phase ends and the result enters the FIFO or the urgent result register. -/
def execConversionDone (n : Fin 4) (v : Int) (mux : BitVec 9) (g : Fin 4) (s : State) : Out :=
  done (live s (conversionDone s n.val v mux.toNat g.val))

/-- ADC_TRIGGER (R335): A timer, bank-boundary or frame-start trigger reaches a core and starts its trigger delay. -/
def execAdcTrigger (n : Fin 4) (s : State) : Out := done (live s (adcTriggerEvent s n.val))

/-- SWTRIG (R335): ADC_CTRLn.SWTRIG triggers the core whatever SRC is. -/
def execSwtrig (n : Fin 4) (s : State) : Out := done (live s (access s (Reg.ADC_CTRL n.val) fun s => busTry s (swTrig s n.val)))

/-- FLUSH (R328): ADC_CTRLn.FLUSH empties the core's result FIFO. -/
def execFlush (n : Fin 4) (s : State) : Out :=
  done (live s (access s (Reg.ADC_CTRL n.val) fun s => busTry s (adcFlush s n.val)))

/-- TRIGGER_DELAY_END (R335): The trigger delay ends and the first conversion's sample phase starts. -/
def execTriggerDelayEnd (n : Fin 4) (s : State) : Out := done (live s (triggerDelayEnd s n.val))

/-- ENTRY_DELAY_END (R333): A loop entry's DELAY ends and the next entry's conversions start. -/
def execEntryDelayEnd (n : Fin 4) (s : State) : Out := done (live s (entryDelayEnd s n.val))

/-- ADC_URGENT_GO (R337): An urgent conversion starts at once, or is dropped if the core is converting. -/
def execAdcUrgentGo (n : Fin 4) (s : State) : Out :=
  done (live s (access s (Reg.ADC_URG_CTRL n.val) fun s => busTry s (urgentGo s n.val)))

/-- ADC_ENABLE (R338): A write setting EN is checked and starts the sequencer, or sets CFG_ERR. -/
def execAdcEnable (n : Fin 4) (w : Word) (s : State) : Out :=
  done (live s (access s (Reg.ADC_CFG n.val) fun s => busTry s (adcCfgWrite s n.val (setF w F.ADC_CFG_EN 1))))

/-- ADC_DISABLE (R338): A write of EN = 0 stops the sequencer after the running conversion. -/
def execAdcDisable (n : Fin 4) (s : State) : Out :=
  done (live s (access s (Reg.ADC_CFG n.val) fun s => busTry s (adcCfgWrite s n.val (setF (regGet s (Reg.ADC_CFG n.val)) F.ADC_CFG_EN 0))))

/-- ADC_RES_READ (R328): A read of ADC_RESn returns and removes the oldest result, or 0xFFFF_FFFF with EMPTY_RD. -/
def execAdcResRead (n : Fin 4) (s : State) : Out := done (live s (access s (Reg.ADC_RES n.val) fun s => adcResRead s n.val))

/-- ADC_URGENT_DROP_READ (R4): A read of ADC_URGENT_DROP returns the drop counts and clears them. -/
def execAdcUrgentDropRead (s : State) : Out :=
  done (live s (access s Reg.ADC_URGENT_DROP fun s => rcRead s Reg.ADC_URGENT_DROP))

/-- ADC_CNT_READ (R4): A read of ADC_CNTn returns TRIG_MISS and SEQ_WAIT and clears them. -/
def execAdcCntRead (n : Fin 4) (s : State) : Out :=
  done (live s (access s (Reg.ADC_CNT n.val) fun s => rcRead s (Reg.ADC_CNT n.val)))

end Sys2Proof.Machine
end

