-- ==== Sys2Proof/Machine/Crc.lean ====
section
/-!
DEFINITION. The four check-value units (R368 to R372).
-/
namespace Sys2Proof.Machine

/-- Width w of unit `n` (R368). -/
def crcWidth (s : State) (n : Nat) : Nat := fldGet s (Reg.CRC_CFG n) F.CRC_CFG_WIDTH + 1

/-- A value cut to w bits: bits at w and above are ignored and read 0 (R368). -/
def crcCut (s : State) (n : Nat) (v : Word) : Nat := v.toNat % 2 ^ crcWidth s n

/-- The running value. -/
def crcVal (s : State) (n : Nat) : Nat := crcCut s n (regGet s (Reg.CRC_VAL n))

/-- `CRC_RESn` (R370). -/
def crcRes (s : State) (n : Nat) : Nat :=
  crcFinal (crcWidth s n) (fldGet s (Reg.CRC_CFG n) F.CRC_CFG_REFOUT = 1) (crcCut s n (regGet s (Reg.CRC_XOROUT n))) (crcVal s n)

/-- CRC_INIT: INIT becomes the running value (R368). -/
def crcInit (s : State) (n : Nat) : State := regSet s (Reg.CRC_VAL n) (BitVec.ofNat 32 (crcCut s n (regGet s (Reg.CRC_INIT n))))

/-- A data write of the `k` low bytes of `w`, lowest byte first; none: bus error of a disabled unit (R369). -/
def crcData (s : State) (n k : Nat) (w : Word) : Option State :=
  if fldGet s (Reg.CRC_CFG n) F.CRC_CFG_EN = 0 then none
  else
    let v := crcRun (crcWidth s n) (crcCut s n (regGet s (Reg.CRC_POLY n))) (fldGet s (Reg.CRC_CFG n) F.CRC_CFG_REFIN = 1)
      (crcVal s n) (leBytes k w.toNat)
    some (regSet s (Reg.CRC_VAL n) (BitVec.ofNat 32 v))

/-- CRC_VAL_WRITE (R370). -/
def crcValWrite (s : State) (n : Nat) (w : Word) : State := regSet s (Reg.CRC_VAL n) (BitVec.ofNat 32 (crcCut s n w))

end Sys2Proof.Machine
end

