-- ==== Sys2Proof/Machine/Host.lean ====
section
/-!
DEFINITION. The ports of the board but for the SPI bridge: host flash commands (R433 to R436), JTAG and the wipe (R390 to R392,
R439), GPIO (R440).
-/
namespace Sys2Proof.Machine

/-! ## Flash (R434, R436) -/

/-- A byte of the flash by its address. -/
def flashByte (s : State) (a : Nat) : Byte :=
  if a < 0x100000 then s.flash.a.getD a 0xFF
  else if a < 0x200000 then s.flash.b.getD (a - 0x100000) 0xFF
  else if a < 0x240000 then
    (match s.flash.mirror.find? fun e => Config.mirrorSlot e.seq % 8192 = (a - 0x200000) / 32 with
     | some e => (entryBytes e).getD (a % 32) 0xFF
     | none => 0xFF)
  else if a < 0x280000 then s.flash.patch.getD (a - 0x240000) 0xFF
  else tabGet 0xFF s.flash.host a

def hostArea : Nat := 0x280000

/-- The bytes of the 256-byte buffer. -/
def flashBuf (s : State) : List Byte := (List.range 64).flatMap fun k => leBytes 4 (regGet s (Reg.HOST_FLASH_BUF k)).toNat

/-- Load `bs` into the buffer from its start. -/
def setFlashBuf (s : State) (bs : List Byte) : State :=
  let all := bs ++ (flashBuf s).drop bs.length
  (List.range 64).foldl (fun t k => regSet t (Reg.HOST_FLASH_BUF k) (BitVec.ofNat 32 (ofLe ((all.drop (4 * k)).take 4)))) s

def flashLen (s : State) : Nat := min 256 ((regGet s Reg.HOST_FLASH_LEN).toNat % 512)
def flashAddr (s : State) : Nat := (regGet s Reg.HOST_FLASH_ADDR).toNat % 2 ^ 24

def flashResult (s : State) (r : Nat) : State := fldSet s Reg.HOST_FLASH_STAT F.HOST_FLASH_STAT_RESULT r

/-- FLASH_READ, FLASH_PROG, FLASH_ERASE (kind 0, 1, 2): refused while BUSY, and DENIED below the host area but for reads. -/
def flashStart (s : State) (kind : Nat) : State :=
  if s.ports.flashCmd.isSome then fldSet s Reg.HOST_FLASH_STAT F.HOST_FLASH_STAT_REFUSED 1
  else if kind ≠ 0 && decide (flashAddr s < hostArea) then flashResult s 1
  else { s with ports := { s.ports with flashCmd := some ⟨kind, flashAddr s, flashLen s, (flashBuf s).take (flashLen s)⟩ } }

/-- Programming can only clear bits of the cells. -/
def flashProgram (s : State) (a : Nat) : List Byte → State
  | [] => s
  | b :: t =>
    let s1 := { s with flash := { s.flash with host := tabPut 0xFF s.flash.host a (flashByte s a &&& b) } }
    flashProgram s1 (a + 1) t

def flashErase (s : State) (a : Nat) : State :=
  { s with flash := { s.flash with host := s.flash.host.filter fun p => p.1 / 65536 ≠ a / 65536 } }

/-- FLASH_DONE (R433, R436): a host command waits while a commit is in WRITE or FINAL. -/
def flashDone (s : State) (ok : Bool) : State :=
  match s.ports.flashCmd with
  | none => s
  | some c =>
    if s.slots.commit = 2 || s.slots.commit = 4 then s
    else
      let s1 := { s with ports := { s.ports with flashCmd := none } }
      if !ok then flashResult s1 2
      else if c.kind = 0 then flashResult (setFlashBuf s1 ((List.range c.len).map fun k => flashByte s1 (c.addr + k))) 0
      else if c.kind = 1 then flashResult (flashProgram s1 c.addr c.data) 0
      else flashResult (flashErase s1 c.addr) 0

/-- The entry to a low-power state that is about to run completes a host flash access first, where its order reaches HOST (R413). -/
def flashEnds (s : State) (target : Nat) : State :=
  match s.pwr.req with
  | some (t, _) =>
    if t = target && s.pwr.entering = none && s.dev = .safeStopped && !pageWaits s &&
        !(refusingBlock s = 3 || refusingBlock s = 5) then flashDone s true
    else s
  | none => s

/-- `HOST_FLASH_STAT` as read. -/
def flashStat (s : State) : Word :=
  setF (setF (regGet s Reg.HOST_FLASH_STAT) F.HOST_FLASH_STAT_BUSY (b2n s.ports.flashCmd.isSome)) F.HOST_FLASH_STAT_QUAD (b2n s.ports.quad)

/-! ## JTAG (R439) -/

/-- FACTORY or RMA with the scan permission (R376, R388). -/
def scanAllowed (s : State) : Bool := (lcState s = 1 || lcState s = 4) && scanPermitted s

/-- The instruction with this code is available. -/
def jtagAvailable (s : State) (code : Nat) : Bool :=
  if code = 0x01 || code = 0xFF then true
  else if code = 0x02 || code = 0x03 then scanAllowed s && s.ports.wiped
  else if code = 0x20 then scanAllowed s
  else if code = 0x30 then (lcState s = 1 || lcState s = 2) && dbgPermitted s
  else if code = 0x40 then lcState s = 0
  else false

def idcode (s : State) : Word := regGet s Reg.HOST_JTAG_ID ||| (Config.siliconVersion.zeroExtend 32 <<< 28)

/-- An instruction is put in force with the value its data register captures; one that is not available selects BYPASS. -/
def jtagSelect (s : State) (code dr : Nat) : State :=
  if jtagAvailable s code then { s with ports := { s.ports with ir := code, dr := dr } }
  else { s with ports := { s.ports with ir := 0xFF, dr := 0 } }

/-- The scan is enabled (R392): the kill line is held until the next reset. -/
def scanEnable (s : State) : State := { s with ports := { s.ports with scanUsed := true } }

/-- SCAN_REQ (R392): kill line, safe state, wipe; a request during the wipe waits for it, and after it scan is enabled. -/
def scanReq (s : State) : State :=
  let s1 := jtagSelect s 0x20 0
  if !scanAllowed s then s1
  else
    let s2 := safeStop { s1 with kill := { s1.kill with scan := true } } 0
    if s2.ports.wiped then scanEnable s2
    else { s2 with ports := { s2.ports with wiping := true } }

/-- WIPE_COMPLETE (R392): key shadow, both memories and both state banks of both lanes are cleared, then scan is enabled. -/
def wipeComplete (s : State) : State :=
  if s.ports.wiping then
    let s1 := { s with
      otp := { s.otp with key := [] }
      mem := memZero s.mem
      jrn := { s.jrn with ring := [] }
      slots := { s.slots with buf := [] }
      sle := { s.sle with cairn := [], older := [], res := none, dbgCur := [], dbgMem := [] }
      ports := { s.ports with wiping := false, wiped := true } }
    scanEnable s1
  else s

/-- FUSE_PROG: the transition BLANK to FACTORY (R390). -/
def fuseProg (s : State) : State :=
  let s1 := jtagSelect s 0x40 0
  if lcState s = 0 && s.otp.lcProg = none && s.otp.cmd = none then { s1 with otp := { s1.otp with lcProg := some 1 } } else s1

/-- `BIST_LC` as read. -/
def bistLc (s : State) : Word :=
  BitVec.ofNat 32 (512 * b2n s.ports.scanUsed + 256 * b2n s.ports.wiped + 8 * lcSteps s + lcState s)

/-! ## GPIO (R440) -/

/-- A timer's CAPSRC names pin `k`: its edges are reported. -/
def pinCaptured (s : State) (k : Nat) : Bool := (List.range 16).any fun n => fldGet s (Reg.TMR_CFG n) F.TMR_CFG_CAPSRC = k + 1

/-- Level from outside on pin `k`: that of its last edge, and a free value while no timer captures its edges. -/
def pinLevel (s : State) (k : Nat) : Bool := if pinCaptured s k then bitN s.ports.gpio k else Config.gpioPin s.tb k

/-- Level of pin `k`; the pulse of FUNC 2 lasts 40 ns. Under the clamps the pin drives nothing (R417). -/
def gpioLevel (s : State) (k : Nat) : Bool :=
  let f := if s.pwr.entering.isSome then 0 else fldGet s (Reg.HOST_GPIO_CFG k) F.HOST_GPIO_CFG_FUNC
  if f = 1 then bitN (regGet s Reg.HOST_GPIO_OUT).toNat k
  else if f = 2 then (match (tmrGet s (fldGet s (Reg.HOST_GPIO_CFG k) F.HOST_GPIO_CFG_SEL)).evtAt with
    | some t => decide (s.tb < t + 4)
    | none => false)
  else if f = 3 then fldGet s Reg.ODX_STATUS F.ODX_STATUS_DONE = 1
  else if f = 4 then regGet s Reg.MRC_DONE ≠ 0
  else if f = 5 then !safeStateLow s
  else pinLevel s k

/-- A write of `HOST_GPIO_CFGk`: FUNC 6 and 7 are stored as 0 (R441). -/
def gpioCfgValue (w : Word) : Word :=
  let v := w &&& 0xF7
  if 5 < getF v F.HOST_GPIO_CFG_FUNC then setF v F.HOST_GPIO_CFG_FUNC 0 else v

/-- A write of `HOST_FLASH_CTRL`: the lowest bit that is set starts its command; a further one then finds BUSY. -/
def flashCtrlWrite (s : State) (w : Nat) : State :=
  let s1 := if bitN w 0 then flashStart s 0 else s
  let s2 := if bitN w 1 then flashStart s1 1 else s1
  if bitN w 2 then flashStart s2 2 else s2

end Sys2Proof.Machine
end

