-- ==== Sys2Proof/Machine/View.lean ====
section
/-!
DEFINITION. The value each register shows when it is read (R4): the stored one, or one that follows the block's state.
-/
namespace Sys2Proof.Machine

/-- Which of `n` registers from `base`, `stride` bytes apart, stands at `a`. -/
def idx (base n stride a : Nat) : Option Nat :=
  if base ≤ a && decide (a < base + n * stride) && (a - base) % stride = 0 then some ((a - base) / stride) else none

/-- 32 inputs from 32k on, as a bitmap (R61). -/
def inMap (f : Nat → Bool) (k : Nat) : Word := BitVec.ofNat 32 (packBits (fun j => f (32 * k + j)) 32)

/-! ## FIO (R61) -/

def supplyStatus (s : State) : Word :=
  let b := fun k => match levelOf s k with
    | .ok => 0
    | .warn => 1
    | .sag => 2
    | .brownOut => 4
  BitVec.ofNat 32 (b 0 + 256 * b 1)

def leakWord (s : State) (k : Nat) : Word :=
  BitVec.ofNat 32 ((List.range 4).foldl (fun n j => n + (inGet s (4 * k + j)).leakV * 256 ^ j) 0)

def tpStat (s : State) (n : Nat) : Word := BitVec.ofNat 32 (tpNextWidth s n * 65536 + tpResp s n)

/-- FIO as read. DESIGN CHOICE (log entry 147): `FIO_FILT`, like the leakage watch, shows the output of the filter, also of an input
that NO_PULSE or CROSS_SHORT forces OFF. -/
def fioView (s : State) (a : Nat) : Word :=
  let i := inGet s
  if let some k := idx (Reg.FIO_RAW 0) 4 4 a then inMap (bitN s.fio.raw) k
  else if let some k := idx (Reg.FIO_FILT 0) 4 4 a then inMap (fun n => (i n).filt) k
  else if a = Reg.FIO_SUPPLY_STATUS then supplyStatus s
  else if let some n := idx (Reg.FIO_TP_STAT 0) 16 4 a then tpStat s n
  else if let some k := idx (Reg.FIO_NOPULSE 0) 4 4 a then inMap (fun n => (i n).noPulse) k
  else if let some k := idx (Reg.FIO_XSHORT 0) 4 4 a then inMap (fun n => (i n).xshort) k
  else if let some k := idx (Reg.FIO_SLOW 0) 4 4 a then inMap (fun n => (i n).slow) k
  else if let some k := idx (Reg.FIO_LEAK_UNDEF 0) 4 4 a then inMap (fun n => (i n).undef) k
  else if let some k := idx (Reg.FIO_LEAK_WARN 0) 4 4 a then inMap (fun n => (i n).warn) k
  else if let some k := idx (Reg.FIO_LEAK_V 0) 32 4 a then leakWord s k
  else if let some n := idx (Reg.FIO_TS 0) 128 4 a then BitVec.ofNat 32 (i n).ts
  else regGet s a

/-! ## SLE (R129) -/

def sleStatus (s : State) : Word :=
  let l := s.sle
  let w := b2n s.kill.debugSplit * 2 ^ 31 + b2n l.halted * 2 ^ 30 + l.lane1 % 4 * 2 ^ 26 + l.lane0 % 4 * 2 ^ 24 +
    b2n (l.recov.isSome && s.dev ≠ .faulted) * 2 ^ 23 + b2n l.active * 2 ^ 22 + b2n l.cairnBank * 2 ^ 21 + b2n (wide s) * 2 ^ 20 +
    fldGet s Reg.SLE_STATUS F.SLE_STATUS_MIS_LANE * 2 ^ 19 + (if l.hasImage then (runImage s).scan % 128 else 0)
  BitVec.ofNat 32 w

def sleView (s : State) (a : Nat) : Word :=
  if a = Reg.SLE_STATUS then sleStatus s
  else if a = Reg.SLE_DBG_CTRL then setF (regGet s a) F.SLE_DBG_CTRL_HALTED (b2n s.sle.halted)
  else if a = Reg.SLE_IMG_STAT then setF (regGet s a) F.SLE_IMG_STAT_SWAP_PEND (b2n s.sle.swapPend)
  else regGet s a

/-! ## SOUT (R156) -/

def soutStatus (s : State) : Word :=
  let o := s.sout
  BitVec.ofNat 32 (b2n s.kill.extB * 2 ^ 25 + b2n s.kill.extA * 2 ^ 24 + o.gstop % 256 * 2 ^ 16 + b2n s.kill.extDisc * 2 ^ 9 +
    b2n (killAsserted s) * 2 ^ 8 + b2n o.bovl1 * 2 ^ 5 + b2n o.bovl0 * 2 ^ 4 + b2n o.bo1 * 2 ^ 3 + b2n o.bo0 * 2 ^ 2 +
    b2n (sagging s 1) * 2 + b2n (sagging s 0))

def chStat (s : State) (c : Nat) : Word :=
  let x := chGet s c
  BitVec.ofNat 32 (x.fault % 16 * 2 ^ 28 + b2n x.unrem * 2 ^ 27 + b2n x.slow * 2 ^ 26 + x.width.getD (owMax s c) % 1024 * 2 ^ 16 +
    x.partner % 32 * 2 ^ 11 + b2n x.opn * 2 ^ 10 + min 0x3FF x.resp)

def soutView (s : State) (a : Nat) : Word :=
  if a = Reg.SOUT_STATUS then soutStatus s
  else if a = Reg.SOUT_IMG then BitVec.ofNat 32 (s.sout.img % 2 ^ 24)
  else if a = Reg.SOUT_APPLIED then BitVec.ofNat 32 s.sout.applied
  else if a = Reg.SOUT_IMG_SCAN then BitVec.ofNat 32 (s.sout.scan.getD 0)
  else if a = Reg.SOUT_FAULT then BitVec.ofNat 32 (packBits (fun c => (chGet s c).fault ≠ 0) 24)
  else if a = Reg.SOUT_SAG_HOLD then BitVec.ofNat 32 s.sout.sagHold
  else if let some c := idx (Reg.SOUT_CH_STAT 0) 24 4 a then chStat s c
  else regGet s a

/-! ## LMP and ASP (R180, R208) -/

def lmpView (s : State) (a : Nat) : Word :=
  if a = Reg.LMP_STATUS then lmpStatus s
  else if a = Reg.LMP_PEND then BitVec.ofNat 32 (lmpPend s)
  else if a = Reg.LMP_MTX_STAT then BitVec.ofNat 32 (b2n (mtxPend s))
  else if let some n := idx (Reg.LMP_STR_ACT 0) 32 4 a then BitVec.ofNat 32 (actDuty s n * 65536 + actI s n * 128)
  else regGet s a

def aspView (s : State) (a : Nat) : Word :=
  if a = Reg.ASP_STATUS then setF (regGet s a) F.ASP_STATUS_PEND s.asp.commits.length
  else if a = Reg.ASP_DARK_FAIL then BitVec.ofNat 32 (darkMap s)
  else if a = Reg.ASP_LIT_FAIL then BitVec.ofNat 32 (litMap s)
  else if let some h := idx (Reg.ASP_HEAD_STAT 0) 32 4 a then headStat s h
  else if let some n := idx (Reg.ASP_STR_PSTAT 0) 32 4 a then strPstat s n
  else regGet s a

/-! ## ADC, TMR, MRC, CRC (R340, R353, R372) -/

def adcView (s : State) (a : Nat) : Word :=
  if a = Reg.ADC_STATUS then adcStatus s
  else if let some n := idx (Reg.ADC_CFG 0) 4 0x400 a then adcCfgView s n
  else if let some n := idx (Reg.ADC_STAT 0) 4 0x400 a then adcStat s n
  else regGet s a

def tmrView (s : State) (a : Nat) : Word :=
  if a = Reg.TMR_TB_LO then BitVec.ofNat 32 s.tb
  else if a = Reg.TMR_TB_HI then BitVec.ofNat 32 (s.tb / 2 ^ 32)
  else if a = Reg.TMR_TB_STAT then tbStat s
  else if let some n := idx (Reg.TMR_CNT 0) 16 0x20 a then BitVec.ofNat 32 (tmrCount s n)
  else if let some n := idx (Reg.TMR_STAT 0) 16 0x20 a then tmrStat (tmrSync s n) n
  else regGet s a

def mrcView (s : State) (a : Nat) : Word :=
  if a = Reg.MRC_STATUS then mrcStatus s
  else if a = Reg.MRC_OUTST then mrcOutst s
  else if let some n := idx (Reg.MRC_CH_STAT 0) 16 0x40 a then mrcStat s n
  else if let some n := idx (Reg.MRC_CH_ACT_TAG 0) 16 0x40 a then mrcActTag s n
  else regGet s a

def crcView (s : State) (a : Nat) : Word :=
  if let some n := idx (Reg.CRC_RES 0) 4 0x40 a then BitVec.ofNat 32 (crcRes s n)
  else if let some n := idx (Reg.CRC_POLY 0) 4 0x40 a then BitVec.ofNat 32 (crcCut s n (regGet s (Reg.CRC_POLY n)))
  else if let some n := idx (Reg.CRC_INIT 0) 4 0x40 a then BitVec.ofNat 32 (crcCut s n (regGet s (Reg.CRC_INIT n)))
  else if let some n := idx (Reg.CRC_XOROUT 0) 4 0x40 a then BitVec.ofNat 32 (crcCut s n (regGet s (Reg.CRC_XOROUT n)))
  else if let some n := idx (Reg.CRC_VAL 0) 4 0x40 a then BitVec.ofNat 32 (crcVal s n)
  else regGet s a

/-! ## ROPE, BLY, ODX (R233, R266, R282) -/

def ropeView (s : State) (a : Nat) : Word :=
  if a = Reg.ROPE_STATUS then ropeStatus s
  else if a = Reg.ROPE_WIN then BitVec.ofNat 32 (safeWindowNs s)
  else if let some p := idx (Reg.ROPE_PORT_STAT 0) 3 4 a then portStatView s p
  else if let some k := idx (Reg.ROPE_SUB 0) 256 4 a then subView s k
  else regGet s a

def blyView (s : State) (a : Nat) : Word :=
  if a = Reg.BLY_STATUS then blyStatus s
  else if a = Reg.BLY_HOLD_LEFT then BitVec.ofNat 32 (holdLeft s)
  else regGet s a

/-- A mailbox request is not answered yet, or the management pair recovers (R282, R315). -/
def mailBusy (s : State) : Bool :=
  s.od.mgmt.isSome || s.od.lcReq.isSome || s.od.inbox.any (·.mail) || s.od.waits.any fun w => w.src = 0 && !w.silent

def odxView (s : State) (a : Nat) : Word :=
  if a = Reg.ODX_STATUS then setF (regGet s a) F.ODX_STATUS_BUSY (b2n (mailBusy s)) else regGet s a

/-! ## OTP, BIST, PWR, HOST (R394, R408, R427, R441) -/

/-- Word of the summit log (R427). -/
def summitWord (s : State) (k : Nat) : Word := BitVec.ofNat 32 (ofLe (((summitBytes s).drop (4 * k)).take 4))

def pwrView (s : State) (a : Nat) : Word :=
  if a = Reg.PWR_STATUS then pwrStatus s
  else if a = Reg.PWR_RTC_LO then BitVec.ofNat 32 (rtcCount s)
  else if a = Reg.PWR_RTC_HI then BitVec.ofNat 32 (rtcCount s / 2 ^ 32)
  else if let some k := idx (Reg.PWR_SUMMIT 0) 64 4 a then summitWord s k
  else regGet s a

def hostView (s : State) (a : Nat) : Word :=
  if a = Reg.HOST_SPI_STAT then setF (regGet s a) F.HOST_SPI_STAT_BUSY (b2n (s.ports.posted ≠ []))
  else if a = Reg.HOST_FLASH_STAT then flashStat s
  else if a = Reg.HOST_JTAG_ID then idcode s
  else if a = Reg.HOST_GPIO_IN then BitVec.ofNat 32 (packBits (gpioLevel s) 16)
  else regGet s a

/-- The register at `a` as it reads; the OTP data window and the ADC result FIFO stand in busRead. -/
def regView (s : State) (a : Nat) : Word :=
  let b := a / 65536
  if b = 0x4004 then fioView s a
  else if b = 0x4005 then sleView s a
  else if b = 0x4006 then soutView s a
  else if b = 0x4007 then lmpView s a
  else if b = 0x4008 then aspView s a
  else if b = 0x4009 then adcView s a
  else if b = 0x400A then tmrView s a
  else if b = 0x400B then mrcView s a
  else if b = 0x400C then crcView s a
  else if b = 0x400D then ropeView s a
  else if b = 0x400E then blyView s a
  else if b = 0x400F then odxView s a
  else if b = 0x4001 then pwrView s a
  else if b = 0x4003 then (if a = Reg.BIST_LC then bistLc s else regGet s a)
  else if b = 0x4010 then hostView s a
  else regGet s a

end Sys2Proof.Machine
end

