-- ==== Sys2Proof/Machine/OdMsg.lean ====
section
/-!
DEFINITION. Object service messages (R273 to R278): header, responses and their delivery, the mailbox doorbell (R282), the source
table (R276).
-/
namespace Sys2Proof.Machine

/-! ## Messages -/

def odOp (m : List Byte) : Nat := leAt m 0 1
def odFlags (m : List Byte) : Nat := leAt m 1 1
def odTxn (m : List Byte) : Nat := leAt m 4 4
def odIndex (m : List Byte) : Nat := leAt m 8 2
def odSub (m : List Byte) : Nat := leAt m 10 1
def odOffset (m : List Byte) : Nat := leAt m 12 4
def odData (m : List Byte) : List Byte := m.drop 16

/-- A response (R273): OP, TXN, INDEX and SUB are those of the request. -/
def odResponse (op txn index sub status flags ofs : Nat) (data : List Byte) : List Byte :=
  leBytes 1 op ++ leBytes 1 (4 + flags) ++ leBytes 2 status ++ leBytes 4 txn ++ leBytes 2 index ++ leBytes 1 sub ++ leBytes 1 0 ++
    leBytes 4 ofs ++ data

/-- A message that no operation of R274 fits: length, OP, reserved fields, unknown flags, data where there is none. -/
def odFormatBad (m : List Byte) : Bool :=
  let op := odOp m
  m.length < 16 || decide (228 < m.length) || !([1, 2, 3, 0x10, 0x11, 0x12, 0x13].contains op) || decide (3 < odFlags m) ||
    leAt m 2 2 ≠ 0 || leAt m 11 1 ≠ 0 ||
    (!(op = 2) && !(op = 0x11) && odData m ≠ []) || (op = 0x10 && decide (1 < odSub m))

/-! ## Delivery -/

/-- Words of a byte string, four bytes each, low byte first. -/
def bytesToWords : Nat → List Byte → List Word
  | 0, _ => []
  | k + 1, l => BitVec.ofNat 32 (ofLe (l.take 4)) :: bytesToWords k (l.drop 4)

def setWords (s : State) (f : Nat → Nat) : Nat → List Word → State
  | _, [] => s
  | k, w :: t => setWords (regSet s (f k) w) f (k + 1) t

/-- The response stands in the mailbox (R282). -/
def mailRespond (s : State) (m : List Byte) : State :=
  let s1 := setWords s Reg.ODX_RSP 0 (bytesToWords ((m.length + 3) / 4) m)
  let s2 := regSet s1 Reg.ODX_RSP_LEN (BitVec.ofNat 32 m.length)
  fldSet (fldSet s2 Reg.ODX_STATUS F.ODX_STATUS_LAST (leAt m 2 2)) Reg.ODX_STATUS F.ODX_STATUS_DONE 1

/-- A response goes to its source: 0 is the mailbox, else an OBJECT frame, which of a pair only the leader sends (R281). -/
def odSend (s : State) (src : Nat) (m : List Byte) : State :=
  if src = 0 then mailRespond s m
  else if pairMember s && !isLeader s then s
  else sendOn s [0, 1, 2] (.object ⟨BitVec.ofNat 16 (nodeNum s), BitVec.ofNat 16 src, 255, m⟩) 0

/-! ## The source table (R276) -/

def txnOf (s : State) (src : Nat) : Option TxnRec := s.od.table.find? fun t => t.src = src

def setTxn (s : State) (t : TxnRec) : State :=
  { s with od := { s.od with table := s.od.table.map fun x => if x.src = t.src then t else x } }

/-- How the device handles a request of a source with TXN `txn`. -/
inductive Take where
  /-- it is processed -/
  | process
  /-- its response is sent once more -/
  | again (m : List Byte)
  /-- it is held, dropped, or has no response to repeat -/
  | quiet
  | stale
  | full
  deriving DecidableEq, Repr

/-- A new record of a source: appended, or in place of one that has seen no request for 10 s. -/
def newTxn (s : State) (src txn : Nat) : Option State :=
  let t : TxnRec := ⟨src, txn, s.tb, none, false, false, none⟩
  if s.od.table.length < 32 then some { s with od := { s.od with table := s.od.table ++ [t] } }
  else match s.od.table.find? fun x => decide (x.seen + 1000000000 ≤ s.tb) with
    | some x => some { s with od := { s.od with table := s.od.table.filter (fun y => y.src ≠ x.src) ++ [t] } }
    | none => none

/-- A request is taken up. -/
def takeRequest (s : State) (src txn : Nat) : State × Take :=
  match txnOf s src with
  | none =>
    (match newTxn s src txn with
     | some t => (t, .process)
     | none => ({ s with od := { s.od with tableFull := satAdd 16 s.od.tableFull 1 } }, .full))
  | some x =>
    let y := { x with seen := s.tb }
    if txn = x.txn then
      (if x.sent then
         (setTxn s y, match x.resp with
           | some m => .again (withDup m)
           | none => .quiet)
       else (setTxn s { y with held := true }, .quiet))
    else if serialNewer txn x.txn then
      (setTxn s { y with txn := txn, resp := none, sent := false, held := false, applied := none }, .process)
    else (setTxn s y, .stale)

/-- The response to TXN `txn` of a source exists: it is recorded and sent, and once more with DUP for a held repeat. A request that
is not answered leaves no response. -/
def odAnswer (s : State) (src txn : Nat) (silent : Bool) (m : List Byte) : State :=
  match txnOf s src with
  | some x =>
    if x.txn = txn then
      let s1 := setTxn s { x with resp := if silent then none else some m, sent := true, held := false }
      if silent then s1
      else
        let s2 := odSend s1 src m
        if x.held then odSend s2 src (withDup m) else s2
    else if silent then s else odSend s src m
  | none => if silent then s else odSend s src m

/-! ## Serving (R276, R278, R280) -/

/-- What serving a request answers at once: STATUS, FLAGS, OFFSET, data; an accepted class S or L write answers later. -/
structure OdRes where
  status : Nat
  flags : Nat
  ofs : Nat
  data : List Byte

def resOk : OdRes := ⟨0, 0, 0, []⟩

/-- A refusal names an entry in OFFSET (R273). -/
def resErr (status index sub : Nat) : OdRes := ⟨status, 0, index * 65536 + sub, []⟩

/-- Outcome of serving a request: the state, and the answer if there is one now. -/
abbrev Served := State × Option OdRes

def say (s : State) (r : OdRes) : Served := (s, some r)

/-- The response to a request with what serving it answers. -/
def responseTo (m : List Byte) (r : OdRes) : List Byte :=
  odResponse (odOp m) (odTxn m) (odIndex m) (odSub m) r.status r.flags r.ofs r.data

/-- An answer that stands in no record (R276). -/
def answerOnly (s : State) (q : OdReq) (r : OdRes) : State := if q.cast then s else odSend s q.src (responseTo q.msg r)

/-- One request is taken up, and where it is processed, `f` carries it out. -/
def serveWith (s : State) (q : OdReq) (f : State → Served) : State :=
  let m := q.msg
  if q.cast && (odOp m = 1 || odOp m = 3) then s
  else match takeRequest s q.src (odTxn m) with
  | (t, .again r) => if q.cast then t else odSend t q.src r
  | (t, .quiet) => t
  | (t, .stale) => answerOnly t q (resErr 0x0109 (odIndex m) (odSub m))
  | (t, .full) => answerOnly t q (resErr 0x010B (odIndex m) (odSub m))
  | (t, .process) =>
    match f t with
    | (u, some r) => odAnswer u q.src (odTxn m) q.cast (responseTo m r)
    | (u, none) => u

/-- The request served next: the first to complete, of two that complete together that of the mailbox (R280). -/
def nextReq (s : State) : Option OdReq :=
  match s.od.inbox with
  | [] => none
  | h :: t => if h.mail then some h else ((t.find? fun q => q.mail && q.at_ = h.at_).or (some h))

/-- The management pair failed its own BIST, and runs no firmware (R379). -/
def pairDead (s : State) : Bool := fldGet s Reg.BIST_STATUS F.BIST_STATUS_ESSENTIAL % 2 = 1

/-- The management pair serves requests (R315, R379, R413). -/
def pairServes (s : State) : Bool := s.od.mgmt = none && !coreDown s && !pairDead s

/-- Messages that no operation fits are refused with ERR_FORMAT when their turn comes (R275, R276). -/
def refuseMalformed : Nat → State → State
  | 0, s => s
  | k + 1, s =>
    match nextReq s with
    | none => s
    | some q =>
      if odFormatBad q.msg && pairServes s then
        refuseMalformed k (serveWith { s with od := { s.od with inbox := s.od.inbox.erase q } } q fun t =>
          say t (resErr 0x010C (odIndex q.msg) (odSub q.msg)))
      else s

/-! ## The mailbox doorbell -/

/-- The bytes of the request. -/
def mailRequest (s : State) (n : Nat) : List Byte :=
  ((List.range 57).flatMap fun k => leBytes 4 (regGet s (Reg.ODX_REQ k)).toNat).take n

/-- A message arrives for the object service and waits its turn; one too short for a header names no transaction, and is answered at
once (R275). A response is no request. -/
def odArrive (s : State) (src : Nat) (mail cast : Bool) (m : List Byte) : State :=
  if !mail && bitN (odFlags m) 2 then s
  else if m.length < 16 then
    (if cast then s
     else odSend s src (odResponse (odOp m) (odTxn m) (odIndex m) (odSub m) 0x010C 0 (odIndex m * 65536 + odSub m) []))
  else
    let s1 := ungateBlock s 0
    refuseMalformed (s1.od.inbox.length + 1) { s1 with od := { s1.od with inbox := s1.od.inbox ++ [⟨src, s1.tb, mail, cast, m⟩] } }

/-- ODX_GO (R282); none: bus error while BUSY. -/
def odxGo (s : State) : Option State :=
  if mailBusy s then none
  else
    let n := (regGet s Reg.ODX_REQ_LEN).toNat % 256
    let m := mailRequest s n
    let h := mailRequest s 16
    if n < 16 then some (odSend s 0 (odResponse (odOp h) (odTxn h) (odIndex h) (odSub h) 0x010C 0 (odIndex h * 65536 + odSub h) []))
    else some (odArrive s 0 true false (if 228 < n then mailRequest s 228 ++ [0#8] else m))

/-- A write of a mailbox register (R282). -/
def odxWrite (s : State) (a : Nat) (w : Word) : Option State := if mailBusy s then none else some (regSet s a w)

end Sys2Proof.Machine
end

