-- ==== Sys2Proof/Machine/RegWrite.lean ====
section
/-!
DEFINITION. A 32-bit write to one register (R2, R4, R31) with the write rules of its block; none: the write ends with a bus error
and has no effect.
-/
namespace Sys2Proof.Machine

/-- A register that is written by no rule of its own: its access code, reserved bits and W1C bits (R2, R4). -/
def plainWrite (s : State) (a : Nat) (w : Word) : Option State :=
  match regRow a with
  | none => none
  | some r =>
    let wm := BitVec.ofNat 32 r.wm
    let cm := BitVec.ofNat 32 r.w1c
    some (regSet s a ((((regGet s a) &&& ~~~wm) ||| (w &&& wm)) &&& ~~~(w &&& cm)))

/-- Configuration registers: only the management pair loads them, and neither the bridge nor Millrace writes them (R61, R129,
R156, R180, R208, R233, R266, R394, R427). -/
def isConfigReg (a : Nat) : Bool :=
  let within := fun (lo hi : Nat) => decide (lo ≤ a) && decide (a ≤ hi)
  let b := a / 65536
  if b = 0x4004 then a = Reg.FIO_CTRL || within (Reg.FIO_PAIR_CFG 0) (Reg.FIO_TP_CFG 15)
  else if b = 0x4005 then a = Reg.SLE_CFG || within Reg.SLE_IMG_CTRL Reg.SLE_IMG_LEN
  else if b = 0x4006 then a = Reg.SOUT_CFG || a = Reg.SOUT_OP_PERIOD || within (Reg.SOUT_CH_CFG 0) (Reg.SOUT_CH_OW 23)
  else if b = 0x4007 then
    within (Reg.LMP_BANK_CFG 0) Reg.LMP_PLIMIT || a = Reg.LMP_NTC_CFG || within (Reg.LMP_STR_CFG 0) (Reg.LMP_STR_CAL 31) ||
      a = Reg.LMP_MTX_CFG || within (Reg.LMP_RGB 0) (Reg.LMP_RGB 63)
  else if b = 0x4008 then
    a = Reg.ASP_CFG || within (Reg.ASP_HEAD_CFG 0) (Reg.ASP_HEAD_CFG 31) || within (Reg.ASP_HEAD_MAP 0) (Reg.ASP_STR_PRV 31) ||
      within (Reg.ASP_ASPECT 0) (Reg.ASP_PATTERN 1087)
  else if b = 0x400D then
    a = Reg.ROPE_CFG || a = Reg.ROPE_NODE || a = Reg.ROPE_TIMECFG || within (Reg.ROPE_PORT_ASYM 0) (Reg.ROPE_PORT_ASYM 2)
  else if b = 0x400E then a = Reg.BLY_CFG || a = Reg.BLY_BYPASS_CFG
  else if b = 0x4003 then a = Reg.BIST_BG_CFG
  else if b = 0x4001 then a = Reg.PWR_PMB_CFG
  else false

/-! ## FIO -/

/-- A write of `FIO_LEAK_CFG` (R61): WARN_V goes to the nearest limit, COUNT 0 is stored as 1; the watch holds cores (R25). -/
def leakCfgWrite (s : State) (w : Word) : State :=
  let v := w &&& 0x8000FF0F
  let v1 := setF v F.FIO_LEAK_CFG_WARN_V (clampN (getF v F.FIO_LEAK_CFG_WARN_V) 8 0x28)
  let v2 := if getF v1 F.FIO_LEAK_CFG_COUNT = 0 then setF v1 F.FIO_LEAK_CFG_COUNT 1 else v1
  supvSync (regSet s Reg.FIO_LEAK_CFG v2)

/-! ## SLE -/

/-- The debug registers respond: PROVISIONED, with the debug permission (R126, R376). -/
def debugOpen (s : State) : Bool := lcState s = 2 && dbgPermitted s

/-- A debug action; none: not open, the replay FIFO is full, or a read without a halt in Wide mode (R126 to R128). -/
def debugAct (s : State) (needsHalt : Bool) (f : State → State) : Option State :=
  if !debugOpen s || (needsHalt && wide s && !s.sle.halted) then none else (replayPush s).map f

def actHalt (s : State) : Option State := debugAct s false debugHalt
def actStep (s : State) : Option State := debugAct s true debugStep
def actResume (s : State) : Option State := debugAct s true debugResume
def actRead (s : State) : Option State := debugAct s true debugRead
def actWrite (s : State) : Option State := debugAct s true debugWrite

/-- An action whose bit is set. -/
def whenBit (w : Word) (i : Nat) (f : State → Option State) (s : State) : Option State := if bitN w.toNat i then f s else some s

/-- A write of `SLE_DBG_CTRL`: the fields first, then the actions from bit 0 on. -/
def dbgCtrlWrite (s : State) (w : Word) : Option State :=
  match plainWrite s Reg.SLE_DBG_CTRL w with
  | none => none
  | some s1 =>
    (whenBit w 0 actHalt s1).bind fun s2 => (whenBit w 1 actStep s2).bind fun s3 => (whenBit w 2 actResume s3).bind fun s4 =>
      (whenBit w 3 actRead s4).bind fun s5 => whenBit w 4 actWrite s5

/-- LOAD (R124): the image in SRAM from `SLE_IMG_SRC`, 16-byte aligned. DESIGN CHOICE (log entry 157): bytes that no usable memory
bank holds (R382) fail the load. -/
def loadFromSram (s : State) : State :=
  let a := (regGet s Reg.SLE_IMG_SRC).toNat / 16 * 16
  let n := min (regGet s Reg.SLE_IMG_LEN).toNat (imageMax + 1)
  loadStart s (memBytes s.mem a n) ((List.range ((n + 15) / 16)).all fun k => memReadable s (a + 16 * k))

/-- SWAP (R125): the handshake is complete in FINAL of a commit and for a revert (R287, R288, R294). -/
def swapWrite (s : State) : State := swapRequest s (s.slots.commit = 4 || s.od.revert)

def imgCtrlWrite (s : State) (w : Word) : State :=
  let s1 := if bitN w.toNat 0 then loadFromSram s else s
  if bitN w.toNat 1 then swapWrite s1 else s1

def sleWrite (s : State) (m : Master) (a : Nat) (w : Word) : Option State :=
  if Reg.SLE_DBG_CTRL ≤ a && decide (a ≤ Reg.SLE_DBG_BP) then
    (if !(m = .host) || !debugOpen s then none
     else if a = Reg.SLE_DBG_CTRL then dbgCtrlWrite s w
     else if a = Reg.SLE_DBG_BP && !s.sle.halted then some (dbgErr s)
     else plainWrite s a w)
  else if a = Reg.SLE_IMG_CTRL then some (imgCtrlWrite s w)
  else plainWrite s a w

/-! ## LMP and ASP -/

/-- Engine `e` is attached to an ASP-owned string (R166, R180). -/
def engineClosed (s : State) (e : Nat) : Bool :=
  (List.range 32).any fun n => !strHostOwned s n &&
    (getF (regGet s (Reg.LMP_STR_SAIL n)) F.LMP_STR_SAIL_ENGINE = e || getF (latchedSail s n) F.LMP_STR_SAIL_ENGINE = e)

def lmpWrite (s : State) (a : Nat) (w : Word) : Option State :=
  if a = Reg.LMP_FAULT then some (faultClear s w.toNat)
  else if a = Reg.LMP_APPLY then some (lmpApply s w.toNat)
  else if a = Reg.LMP_MTX_CTRL then some (if bitN w.toNat 0 then matrixApply s else s)
  else if let some n := idx (Reg.LMP_STR_RUN 0) 32 4 a then
    (if strHostOwned s n then some (stageWrite s n a (clampRun (w &&& 0xFFFFFF80))) else none)
  else if let some n := idx (Reg.LMP_STR_SAIL 0) 32 4 a then
    (if strHostOwned s n then some (stageWrite s n a (w &&& 0x1FFF)) else none)
  else if let some e := idx (Reg.LMP_SAIL_CFG 0) 16 4 a then (if engineClosed s e then none else plainWrite (dirtyEngine s e) a w)
  else if let some e := idx (Reg.LMP_SAIL_LVL 0) 16 4 a then (if engineClosed s e then none else plainWrite (dirtyEngine s e) a w)
  else if Reg.LMP_MTX_COL 0 ≤ a && decide (a ≤ Reg.LMP_MTX_DOT 127) then
    (if mtxHostOwned s then
       plainWrite (dirtyMatrix s) a w
     else none)
  else plainWrite s a w

def aspWrite (s : State) (a : Nat) (w : Word) : Option State :=
  if a = Reg.ASP_HEAD_CLR then some (headClr s w.toNat)
  else if a = Reg.ASP_HEAD_APPLY then some (headApply s w.toNat)
  else if a = Reg.ASP_COMMIT_CTRL then some (if bitN w.toNat 0 then commitGo s (bitN w.toNat 1) else s)
  else if let some h := idx (Reg.ASP_HEAD_SEL 0) 32 4 a then headSelect s h (w.toNat % 256)
  else plainWrite s a w

/-! ## ADC and TMR -/

/-- A write of `ADC_CTRLn`: FLUSH, then SWTRIG. -/
def adcCtrlWrite (s : State) (n : Nat) (w : Word) : Option State :=
  if adcHeld s n then none else (whenBit w 1 (fun t => adcFlush t n) s).bind (whenBit w 0 (fun t => swTrig t n))

def adcWrite (s : State) (a : Nat) (w : Word) : Option State :=
  if let some n := idx (Reg.ADC_CFG 0) 4 0x400 a then adcCfgWrite s n w
  else if let some n := idx (Reg.ADC_TRIG 0) 4 0x400 a then adcStillWrite s n a (w &&& 0x1FFFFF) false
  else if let some n := idx (Reg.ADC_CTRL 0) 4 0x400 a then adcCtrlWrite s n w
  else if let some n := idx (Reg.ADC_URG 0) 4 0x400 a then adcUrgWrite s n (w &&& 0xFF07FF)
  else if let some n := idx (Reg.ADC_URG_CTRL 0) 4 0x400 a then
    (if adcHeld s n || adcSlave s n then none else if bitN w.toNat 0 then urgentGo s n else some s)
  else if Reg.ADC_CFG 0 ≤ a then
    (let n := (a - Reg.ADC_CFG 0) / 0x400
     let o := (a - Reg.ADC_CFG 0) % 0x400
     if o < 0x100 then (if adcHeld s n && o ≠ 0x0C && o ≠ 0x10 && o ≠ 0x14 then none else plainWrite s a w)
     else match regRow a with
       | none => none
       | some r => adcStillWrite s n a (w &&& BitVec.ofNat 32 r.wm) true)
  else plainWrite s a w

def tmrWrite (s : State) (a : Nat) (w : Word) : Option State :=
  if let some n := idx (Reg.TMR_CFG 0) 16 0x20 a then tmrCfgWrite s n w
  else if let some n := idx (Reg.TMR_PRESC 0) 16 0x20 a then tmrStillWrite s n a (w &&& 0xFFFF)
  else if let some n := idx (Reg.TMR_PHASE 0) 16 0x20 a then tmrStillWrite s n a w
  else if let some n := idx (Reg.TMR_PERIOD 0) 16 0x20 a then some (tmrPeriodWrite s n w)
  else if let some n := idx (Reg.TMR_CMP 0) 16 0x20 a then some (tmrCmpWrite s n w)
  else if let some n := idx (Reg.TMR_STAT 0) 16 0x20 a then plainWrite (tmrSync s n) a w
  else plainWrite s a w

/-! ## MRC and CRC -/

def mrcWrite (s : State) (a : Nat) (w : Word) : Option State :=
  if a = Reg.MRC_EN then some (mrcEnWrite s w)
  else if let some n := idx (Reg.MRC_CH_CTRL 0) 16 0x40 a then mrcCtrlWrite s n w
  else if let some n := idx (Reg.MRC_CH_TQ_BASE 0) 16 0x40 a then some (tqCfgWrite s n a w)
  else if let some n := idx (Reg.MRC_CH_TQ_SIZE 0) 16 0x40 a then some (tqCfgWrite s n a (w &&& 0x1FF))
  else if let some n := idx (Reg.MRC_CH_TQ_TAIL 0) 16 0x40 a then some (tqTailWrite s n w)
  else if Reg.MRC_CH_CTRL 0 ≤ a && decide (0x20 ≤ (a - Reg.MRC_CH_CTRL 0) % 0x40) && decide ((a - Reg.MRC_CH_CTRL 0) % 0x40 ≤ 0x34) then
    (match regRow a with
     | none => none
     | some _ => shadowWrite s ((a - Reg.MRC_CH_CTRL 0) / 0x40) a w)
  else plainWrite s a w

def crcWrite (s : State) (a : Nat) (w : Word) : Option State :=
  if let some n := idx (Reg.CRC_CTRL 0) 4 0x40 a then some (if bitN w.toNat 0 then crcInit s n else s)
  else if let some n := idx (Reg.CRC_DATA8 0) 4 0x40 a then crcData s n 1 w
  else if let some n := idx (Reg.CRC_DATA16 0) 4 0x40 a then crcData s n 2 w
  else if let some n := idx (Reg.CRC_DATA32 0) 4 0x40 a then crcData s n 4 w
  else if let some n := idx (Reg.CRC_VAL 0) 4 0x40 a then some (crcValWrite s n w)
  else if let some n := idx (Reg.CRC_POLY 0) 4 0x40 a then some (regSet s a (BitVec.ofNat 32 (crcCut s n w)))
  else if let some n := idx (Reg.CRC_INIT 0) 4 0x40 a then some (regSet s a (BitVec.ofNat 32 (crcCut s n w)))
  else if let some n := idx (Reg.CRC_XOROUT 0) 4 0x40 a then some (regSet s a (BitVec.ofNat 32 (crcCut s n w)))
  else plainWrite s a w

/-! ## OTP, HOST, ODX -/

/-- Programming registers: only the host bridge writes them (R401). -/
def otpWrite (s : State) (m : Master) (a : Nat) (w : Word) : Option State :=
  if Reg.OTP_PROG_ADDR ≤ a && decide (a ≤ Reg.OTP_PROG_CTRL) then
    (if !(m = .host) then none
     else if a = Reg.OTP_PROG_CTRL then
       some ((List.range 5).foldl (fun t k => if bitN w.toNat k then otpStart t k else t) s)
     else plainWrite s a w)
  else plainWrite s a w

def hostWrite (s : State) (a : Nat) (w : Word) : Option State :=
  if a = Reg.HOST_FLASH_CTRL then some (flashCtrlWrite s w.toNat)
  else if let some _ := idx (Reg.HOST_GPIO_CFG 0) 16 4 a then some (regSet s a (gpioCfgValue w))
  else plainWrite s a w

def odxRegWrite (s : State) (a : Nat) (w : Word) : Option State :=
  if a = Reg.ODX_CTRL then (if bitN w.toNat 0 then odxGo s else if mailBusy s then none else some s)
  else if a = Reg.ODX_REQ_LEN then odxWrite s a (w &&& 0xFF)
  else if let some _ := idx (Reg.ODX_REQ 0) 57 4 a then odxWrite s a w
  else plainWrite s a w

/-- A write of `w` to the register at `a` by master `m`, by the rules of its block. -/
def blockWrite (s : State) (m : Master) (a : Nat) (w : Word) : Option State :=
  let b := a / 65536
  match regRow a with
  | none => none
  | some _ =>
    if isConfigReg a && !(m = .mgmt) then none
    else if b = 0x4004 then (if a = Reg.FIO_LEAK_CFG then some (leakCfgWrite s w) else plainWrite s a w)
    else if b = 0x4005 then sleWrite s m a w
    else if b = 0x4007 then lmpWrite s a w
    else if b = 0x4008 then aspWrite s a w
    else if b = 0x4009 then adcWrite s a w
    else if b = 0x400A then tmrWrite s a w
    else if b = 0x400B then mrcWrite s a w
    else if b = 0x400C then crcWrite s a w
    else if b = 0x400F then odxRegWrite s a w
    else if b = 0x4002 then otpWrite s m a w
    else if b = 0x4001 then (if a = Reg.PWR_REQ then some (if m = .host then pwrReqWrite s w.toNat else s) else plainWrite s a w)
    else if b = 0x4010 then hostWrite s a w
    else plainWrite s a w

/-- A configuration register that decides whether the supervision set is held (R25, R55, R339). -/
def holdsSupv (a : Nat) : Bool :=
  a = Reg.SOUT_CFG || a = Reg.LMP_MTX_CFG || (idx (Reg.LMP_STR_CFG 0) 32 4 a).isSome || (idx (Reg.ASP_HEAD_CFG 0) 32 4 a).isSome

/-- A write of `w` to the register at `a` by master `m`; one that changes the holding conditions takes the cores or returns them (R25). -/
def regWrite (s : State) (m : Master) (a : Nat) (w : Word) : Option State :=
  (blockWrite s m a w).map fun t => if holdsSupv a then supvSync t else t

end Sys2Proof.Machine
end

