-- ==== Sys2Proof/Machine/OdEnt.lean ====
section
/-!
DEFINITION. The entries of the object dictionary (R268 to R272 and the block tables): type, access, apply class, default, range
and what stands behind each entry; reading and describing one.
-/
namespace Sys2Proof.Machine

/-- Engine-held values that are numbers. -/
inductive OdNum where
  | leakV | imgCrc | imgVersion | imgMode | imgBlk0 | imgBlk1 | imgScan | imgCyc0 | imgCyc1 | imgBank | devState | scanCount
  | overruns | resets | safeBits | ropeIn | blkStatus | blkSel | blkTime | column | silicon | serial | rom | patch | lifeCycle
  | halt | booted | seqA | seqB | stA | stB | bodyCrc | trial | bufLen | commitState | shown | tConfirm | result | windowLeft
  | rejected | outside | crcUse | newest | selector | oldest | mirrorLost | mirrored | boots | fatal | tableFull | quotaFull
  | eventsLost | mgmtRecov | unmet | causes | ledger | regionState | capture
  deriving DecidableEq, Repr

/-- Values that are byte strings. -/
inductive OdBlob where
  | deviceType | build | record | entry | region | summit | dots | loopTable | stepTable | aspects | elements | pattern | buffer
  | image
  deriving DecidableEq, Repr

/-- Entries that a write acts through. -/
inductive OdCmd where
  | commit | revert | lmpApply | mtxApply | lmpFault | aspCommit | headClr | headApply | power | odometer | lifeCycleReq
  deriving DecidableEq, Repr

/-- What stands behind an entry: for the `i`th index and `j`th subindex of its row, field `f` moved up by `fj × j` bits of the
register at `base + si × i + sj × j`, whose value is the field times `mul` plus `off` (0 stands for 2^width with `wrap`; two's
complement with `signed`); a pair of registers; a register a read clears; or an engine-held value. -/
inductive Back where
  | fld (base si sj : Nat) (f : Fld) (fj off mul : Nat) (wrap signed : Bool)
  | pair (base : Nat)
  | clr (base si : Nat)
  | num (k : OdNum)
  | blob (k : OdBlob)
  | cmd (k : OdCmd)
  deriving DecidableEq, Repr

/-- A row of an entry table: `ni` indices from `idx`, `ns` subindices from `sub`; type code and size (R269), access code (R270),
apply class (R272, 255 none), default, allowed values as (from, to, step). -/
structure OdRow where
  idx : Nat
  ni : Nat
  sub : Nat
  ns : Nat
  typ : Nat
  size : Nat
  acc : Nat
  cls : Nat
  dflt : Option Nat
  range : List (Int × Int × Int)
  back : Back

/-- Entries of R62. -/
def odRows0 : List OdRow := [
  ⟨0x3000, 1, 0x01, 8, 2, 1, 4, 0, some 0, [(0, 1, 1)], .fld (Reg.FIO_CTRL) 0 0 ⟨0, 0⟩ 1 0 1 false false⟩,
  ⟨0x3001, 1, 0x00, 1, 3, 2, 4, 0, some 100, [(10, 1000, 1)], .fld (Reg.FIO_TP_PERIOD) 0 0 F.FIO_TP_PERIOD_PERIOD 0 0 1 false false⟩,
  ⟨0x3010, 16, 0x01, 1, 1, 1, 4, 0, some 0, [(0, 1, 1)], .fld (Reg.FIO_TP_CFG 0) 4 0 F.FIO_TP_CFG_EN 0 0 1 false false⟩,
  ⟨0x3010, 16, 0x02, 1, 3, 2, 4, 0, some 20, [(20, 1000, 1)], .fld (Reg.FIO_TP_CFG 0) 4 0 F.FIO_TP_CFG_PW_MIN 0 0 1 false false⟩,
  ⟨0x3010, 16, 0x03, 1, 3, 2, 4, 0, some 400, [(20, 1000, 1)], .fld (Reg.FIO_TP_CFG 0) 4 0 F.FIO_TP_CFG_PW_MAX 0 0 1 false false⟩,
  ⟨0x3010, 16, 0x04, 1, 3, 2, 4, 0, some 50, [(5, 500, 1)], .fld (Reg.FIO_TP_CFG 0) 4 0 F.FIO_TP_CFG_RESP_MAX 0 0 1 false false⟩,
  ⟨0x3010, 16, 0x05, 1, 3, 2, 1, 255, some 400, [(20, 1000, 1)], .fld (Reg.FIO_TP_STAT 0) 4 0 F.FIO_TP_STAT_WIDTH 0 0 1 false false⟩,
  ⟨0x3010, 16, 0x06, 1, 3, 2, 1, 255, some 0, [(0, 1023, 1)], .fld (Reg.FIO_TP_STAT 0) 4 0 F.FIO_TP_STAT_RESP 0 0 1 false false⟩,
  ⟨0x3020, 1, 0x01, 1, 1, 1, 2, 0, some 1, [(0, 1, 1)], .fld (Reg.FIO_LEAK_CFG) 0 0 F.FIO_LEAK_CFG_EN 0 0 1 false false⟩,
  ⟨0x3020, 1, 0x02, 1, 2, 1, 2, 0, some 24, [(8, 40, 1)], .fld (Reg.FIO_LEAK_CFG) 0 0 F.FIO_LEAK_CFG_WARN_V 0 0 1 false false⟩,
  ⟨0x3020, 1, 0x03, 1, 2, 1, 2, 0, some 3, [(1, 15, 1)], .fld (Reg.FIO_LEAK_CFG) 0 0 F.FIO_LEAK_CFG_COUNT 0 0 1 false false⟩,
  ⟨0x3021, 1, 0x01, 128, 2, 1, 1, 255, some 255, [(0, 255, 1)], .num .leakV⟩,
  ⟨0x3022, 1, 0x01, 4, 4, 4, 1, 255, some 0, [(0, 4294967295, 1)], .fld (Reg.FIO_LEAK_UNDEF 0) 0 4 ⟨31, 0⟩ 0 0 1 false false⟩,
  ⟨0x3023, 1, 0x01, 4, 4, 4, 1, 255, some 0, [(0, 4294967295, 1)], .fld (Reg.FIO_LEAK_WARN 0) 0 4 ⟨31, 0⟩ 0 0 1 false false⟩,
  ⟨0x3030, 1, 0x01, 4, 4, 4, 1, 255, some 0, [(0, 4294967295, 1)], .fld (Reg.FIO_NOPULSE 0) 0 4 ⟨31, 0⟩ 0 0 1 false false⟩,
  ⟨0x3030, 1, 0x05, 4, 4, 4, 1, 255, some 0, [(0, 4294967295, 1)], .fld (Reg.FIO_XSHORT 0) 0 4 ⟨31, 0⟩ 0 0 1 false false⟩,
  ⟨0x3030, 1, 0x09, 4, 4, 4, 1, 255, some 0, [(0, 4294967295, 1)], .fld (Reg.FIO_SLOW 0) 0 4 ⟨31, 0⟩ 0 0 1 false false⟩,
  ⟨0x3040, 1, 0x01, 1, 3, 2, 1, 255, some 0, [(0, 65535, 1)], .fld (Reg.FIO_VFIELD) 0 0 F.FIO_VFIELD_V0 0 0 1 false false⟩,
  ⟨0x3040, 1, 0x02, 1, 3, 2, 1, 255, some 0, [(0, 65535, 1)], .fld (Reg.FIO_VFIELD) 0 0 F.FIO_VFIELD_V1 0 0 1 false false⟩,
  ⟨0x3040, 1, 0x03, 1, 3, 2, 1, 255, some 0, [(0, 65535, 1)], .fld (Reg.FIO_SUPPLY_STATUS) 0 0 ⟨15, 0⟩ 0 0 1 false false⟩,
  ⟨0x3040, 1, 0x04, 1, 4, 4, 1, 255, some 0, [(0, 4294967295, 1)], .clr (Reg.FIO_TP_SKIP) 0⟩,
  ⟨0x3100, 64, 0x01, 1, 2, 1, 4, 0, some 3, [(0, 3, 1)], .fld (Reg.FIO_PAIR_CFG 0) 4 0 F.FIO_PAIR_CFG_MODE 0 0 1 false false⟩,
  ⟨0x3100, 64, 0x02, 1, 2, 1, 4, 0, some 31, [(0, 15, 1), (31, 31, 1)], .fld (Reg.FIO_PAIR_CFG 0) 4 0 F.FIO_PAIR_CFG_SRC_A 0 0 1 false false⟩,
  ⟨0x3100, 64, 0x03, 1, 2, 1, 4, 0, some 31, [(0, 15, 1), (31, 31, 1)], .fld (Reg.FIO_PAIR_CFG 0) 4 0 F.FIO_PAIR_CFG_SRC_B 0 0 1 false false⟩,
  ⟨0x3100, 64, 0x04, 1, 3, 2, 4, 0, some 500, [(0, 20000, 1)], .fld (Reg.FIO_PAIR_CFG 0) 4 0 F.FIO_PAIR_CFG_FILTER 0 0 1 false false⟩]

/-- Entries of R102. -/
def odRows1 : List OdRow := [
  ⟨0x2000, 1, 0x01, 1, 4, 4, 1, 255, some 0, [(0, 4294967295, 1)], .num .imgCrc⟩,
  ⟨0x2000, 1, 0x02, 1, 3, 2, 1, 255, some 0, [(0, 65535, 1)], .num .imgVersion⟩,
  ⟨0x2000, 1, 0x03, 1, 2, 1, 1, 255, some 0, [(0, 1, 1)], .num .imgMode⟩,
  ⟨0x2000, 1, 0x04, 1, 3, 2, 1, 255, some 0, [(0, 4096, 1)], .num .imgBlk0⟩,
  ⟨0x2000, 1, 0x05, 1, 3, 2, 1, 255, some 0, [(0, 4096, 1)], .num .imgBlk1⟩,
  ⟨0x2000, 1, 0x06, 1, 2, 1, 1, 255, some 4, [(1, 64, 1)], .num .imgScan⟩,
  ⟨0x2000, 1, 0x07, 1, 3, 2, 1, 255, some 0, [(0, 65535, 1)], .num .imgCyc0⟩,
  ⟨0x2000, 1, 0x08, 1, 3, 2, 1, 255, some 0, [(0, 65535, 1)], .num .imgCyc1⟩,
  ⟨0x2000, 1, 0x09, 1, 8, 16, 1, 255, some 0, [], .blob .build⟩,
  ⟨0x2000, 1, 0x0A, 1, 2, 1, 1, 255, some 0, [(0, 1, 1)], .num .imgBank⟩,
  ⟨0x2001, 1, 0x01, 1, 2, 1, 1, 255, some 0, [(0, 6, 1)], .num .devState⟩,
  ⟨0x2001, 1, 0x02, 1, 4, 4, 1, 255, some 0, [(0, 4294967295, 1)], .num .scanCount⟩,
  ⟨0x2001, 1, 0x03, 1, 3, 2, 1, 255, some 0, [(0, 65535, 1)], .num .overruns⟩,
  ⟨0x2002, 1, 0x01, 1, 3, 2, 1, 255, some 0, [(0, 65535, 1)], .num .resets⟩,
  ⟨0x2002, 1, 0x02, 1, 3, 2, 1, 255, some 0, [(0, 65535, 1)], .num .resets⟩,
  ⟨0x2002, 1, 0x03, 1, 3, 2, 1, 255, some 0, [(0, 65535, 1)], .num .resets⟩,
  ⟨0x2002, 1, 0x04, 1, 3, 2, 1, 255, some 0, [(0, 65535, 1)], .num .resets⟩,
  ⟨0x2002, 1, 0x05, 1, 3, 2, 1, 255, some 0, [(0, 65535, 1)], .num .resets⟩,
  ⟨0x2002, 1, 0x06, 1, 3, 2, 1, 255, some 0, [(0, 65535, 1)], .num .resets⟩,
  ⟨0x2010, 1, 0x01, 1, 4, 4, 1, 255, some 0, [(0, 16777215, 1)], .fld (Reg.SOUT_IMG) 0 0 ⟨31, 0⟩ 0 0 1 false false⟩,
  ⟨0x2010, 1, 0x02, 1, 4, 4, 1, 255, some 0, [(0, 4294967295, 1)], .num .safeBits⟩,
  ⟨0x2011, 1, 0x01, 8, 4, 4, 1, 255, some 0, [(0, 4294967295, 1)], .num .ropeIn⟩,
  ⟨0x2020, 1, 0x01, 1, 10, 132260, 4, 0, none, [], .blob .image⟩,
  ⟨0x2400, 512, 0x01, 16, 3, 2, 1, 255, some 0, [(0, 65535, 1)], .num .blkStatus⟩,
  ⟨0x2600, 1, 0x01, 1, 3, 2, 2, 2, some 0, [(0, 8191, 1)], .num .blkSel⟩]

/-- Entries of R102. -/
def odRows2 : List OdRow := [
  ⟨0x2600, 1, 0x02, 1, 8, 16, 1, 255, some 0, [], .blob .record⟩,
  ⟨0x2600, 1, 0x03, 1, 4, 4, 1, 255, some 0, [(0, 4294967295, 1)], .num .blkTime⟩]

/-- Entries of R130. -/
def odRows3 : List OdRow := [
  ⟨0x2030, 1, 0x01, 1, 2, 1, 4, 0, some 2, [(1, 8, 1)], .fld (Reg.SLE_CFG) 0 0 F.SLE_CFG_RLIM 0 0 1 false false⟩,
  ⟨0x2030, 1, 0x02, 1, 2, 1, 1, 255, some 0, [(0, 3, 1)], .fld (Reg.SLE_STATUS) 0 0 F.SLE_STATUS_LANE0 0 0 1 false false⟩,
  ⟨0x2030, 1, 0x03, 1, 2, 1, 1, 255, some 0, [(0, 3, 1)], .fld (Reg.SLE_STATUS) 0 0 F.SLE_STATUS_LANE1 0 0 1 false false⟩,
  ⟨0x2031, 1, 0x01, 1, 4, 4, 1, 255, some 0, [(0, 4294967295, 1)], .fld (Reg.SLE_MIS_CNT) 0 0 ⟨31, 0⟩ 0 0 1 false false⟩,
  ⟨0x2031, 1, 0x02, 1, 4, 4, 1, 255, some 0, [(0, 4294967295, 1)], .fld (Reg.SLE_LATENT_CNT) 0 0 ⟨31, 0⟩ 0 0 1 false false⟩,
  ⟨0x2031, 1, 0x03, 1, 4, 4, 1, 255, some 0, [(0, 4294967295, 1)], .fld (Reg.SLE_RECOV_CNT) 0 0 ⟨31, 0⟩ 0 0 1 false false⟩,
  ⟨0x2031, 1, 0x04, 1, 4, 4, 1, 255, some 0, [(0, 4294967295, 1)], .fld (Reg.SLE_SKIP_CNT) 0 0 ⟨31, 0⟩ 0 0 1 false false⟩,
  ⟨0x2031, 1, 0x05, 1, 4, 4, 1, 255, some 0, [(0, 4294967295, 1)], .fld (Reg.SLE_MIS_SIG) 0 0 ⟨31, 0⟩ 0 0 1 false false⟩,
  ⟨0x2031, 1, 0x06, 1, 4, 4, 1, 255, some 0, [(0, 4294967295, 1)], .fld (Reg.SLE_ECC_CNT) 0 0 ⟨31, 0⟩ 0 0 1 false false⟩,
  ⟨0x2031, 1, 0x07, 1, 4, 4, 1, 255, some 0, [(0, 640000, 1)], .fld (Reg.SLE_CYC_MAX 0) 0 0 ⟨31, 0⟩ 0 0 1 false false⟩,
  ⟨0x2031, 1, 0x08, 1, 4, 4, 1, 255, some 0, [(0, 640000, 1)], .fld (Reg.SLE_CYC_MAX 1) 0 0 ⟨31, 0⟩ 0 0 1 false false⟩,
  ⟨0x2032, 1, 0x01, 1, 4, 4, 1, 255, some 0, [(0, 4294967295, 1)], .fld (Reg.SLE_IMG_CRC_A) 0 0 ⟨31, 0⟩ 0 0 1 false false⟩,
  ⟨0x2032, 1, 0x02, 1, 4, 4, 1, 255, some 0, [(0, 4294967295, 1)], .fld (Reg.SLE_IMG_CRC_B) 0 0 ⟨31, 0⟩ 0 0 1 false false⟩]

/-- Entries of R157. -/
def odRows4 : List OdRow := [
  ⟨0x3400, 1, 0x01, 1, 3, 2, 4, 0, some 100, [(10, 1000, 1)], .fld (Reg.SOUT_OP_PERIOD) 0 0 F.SOUT_OP_PERIOD_PERIOD 0 0 1 false false⟩,
  ⟨0x3400, 1, 0x02, 1, 1, 1, 4, 0, some 1, [(0, 1, 1)], .fld (Reg.SOUT_CFG) 0 0 F.SOUT_CFG_IDIAG 0 0 1 false false⟩,
  ⟨0x3400, 1, 0x03, 1, 2, 1, 4, 0, some 20, [(1, 255, 1)], .fld (Reg.SOUT_CFG) 0 0 F.SOUT_CFG_EXTD 0 0 1 false false⟩,
  ⟨0x3401, 1, 0x01, 1, 4, 4, 1, 255, some 0, [(0, 16777215, 1)], .fld (Reg.SOUT_IMG) 0 0 ⟨31, 0⟩ 0 0 1 false false⟩,
  ⟨0x3401, 1, 0x02, 1, 4, 4, 1, 255, some 0, [(0, 16777215, 1)], .fld (Reg.SOUT_APPLIED) 0 0 ⟨31, 0⟩ 0 0 1 false false⟩,
  ⟨0x3401, 1, 0x03, 1, 4, 4, 1, 255, some 0, [(0, 16777215, 1)], .fld (Reg.SOUT_RB_H) 0 0 ⟨31, 0⟩ 0 0 1 false false⟩,
  ⟨0x3401, 1, 0x04, 1, 4, 4, 1, 255, some 0, [(0, 16777215, 1)], .fld (Reg.SOUT_RB_L) 0 0 ⟨31, 0⟩ 0 0 1 false false⟩,
  ⟨0x3401, 1, 0x05, 1, 4, 4, 1, 255, some 0, [(0, 16777215, 1)], .fld (Reg.SOUT_FAULT) 0 0 ⟨31, 0⟩ 0 0 1 false false⟩,
  ⟨0x3401, 1, 0x06, 1, 4, 4, 1, 255, some 256, [(0, 4294967295, 1)], .fld (Reg.SOUT_STATUS) 0 0 ⟨31, 0⟩ 0 0 1 false false⟩,
  ⟨0x3401, 1, 0x07, 1, 4, 4, 1, 255, some 0, [(0, 4294967295, 1)], .fld (Reg.SOUT_BANK_I) 0 0 ⟨31, 0⟩ 0 0 1 false false⟩,
  ⟨0x3401, 1, 0x08, 1, 4, 4, 1, 255, some 0, [(0, 4294967295, 1)], .clr (Reg.SOUT_OP_SKIP) 0⟩,
  ⟨0x3401, 1, 0x09, 1, 3, 2, 1, 255, some 0, [(0, 65535, 1)], .fld (Reg.SOUT_STALE_CNT) 0 0 F.SOUT_STALE_CNT_CNT 0 0 1 false false⟩,
  ⟨0x3401, 1, 0x0A, 1, 4, 4, 1, 255, some 0, [(0, 16777215, 1)], .fld (Reg.SOUT_SAG_HOLD) 0 0 ⟨31, 0⟩ 0 0 1 false false⟩,
  ⟨0x3410, 24, 0x01, 1, 2, 1, 4, 0, some 0, [(0, 4, 1)], .fld (Reg.SOUT_CH_CFG 0) 4 0 F.SOUT_CH_CFG_MODE 0 0 1 false false⟩,
  ⟨0x3410, 24, 0x02, 1, 2, 1, 4, 0, some 0, [(0, 3, 1)], .fld (Reg.SOUT_CH_CFG 0) 4 0 F.SOUT_CH_CFG_ROLE 0 0 1 false false⟩,
  ⟨0x3410, 24, 0x03, 1, 2, 1, 4, 0, some 0, [(0, 7, 1)], .fld (Reg.SOUT_CH_CFG 0) 4 0 F.SOUT_CH_CFG_GROUP 0 0 1 false false⟩,
  ⟨0x3410, 24, 0x04, 1, 2, 1, 4, 0, some 10, [(0, 200, 1)], .fld (Reg.SOUT_CH_CFG 0) 4 0 F.SOUT_CH_CFG_IOPEN 0 0 1 false false⟩,
  ⟨0x3410, 24, 0x05, 1, 1, 1, 4, 0, some 1, [(0, 1, 1)], .fld (Reg.SOUT_CH_OW 0) 4 0 F.SOUT_CH_OW_EN 0 0 1 false false⟩,
  ⟨0x3410, 24, 0x06, 1, 3, 2, 4, 0, some 100, [(100, 800, 1)], .fld (Reg.SOUT_CH_OW 0) 4 0 F.SOUT_CH_OW_OW_MIN 0 0 1 false false⟩,
  ⟨0x3410, 24, 0x07, 1, 3, 2, 4, 0, some 400, [(100, 800, 1)], .fld (Reg.SOUT_CH_OW 0) 4 0 F.SOUT_CH_OW_OW_MAX 0 0 1 false false⟩,
  ⟨0x3410, 24, 0x08, 1, 4, 4, 1, 255, some 26277888, [(0, 4294967295, 1)], .fld (Reg.SOUT_CH_STAT 0) 4 0 ⟨31, 0⟩ 0 0 1 false false⟩,
  ⟨0x3410, 24, 0x09, 1, 4, 4, 1, 255, some 0, [(0, 4294967295, 1)], .fld (Reg.SOUT_CH_MEAS 0) 4 0 ⟨31, 0⟩ 0 0 1 false false⟩]

/-- Entries of R181. -/
def odRows5 : List OdRow := [
  ⟨0x4000, 2, 0x01, 1, 2, 1, 4, 0, some 16, [(8, 16, 1)], .fld (Reg.LMP_BANK_CFG 0) 4 0 F.LMP_BANK_CFG_BITS 0 8 1 false false⟩,
  ⟨0x4000, 2, 0x02, 1, 3, 2, 4, 0, some 1, [(1, 256, 1)], .fld (Reg.LMP_BANK_CFG 0) 4 0 F.LMP_BANK_CFG_PRESC 0 0 1 true false⟩,
  ⟨0x4000, 2, 0x03, 1, 2, 1, 4, 0, some 16, [(10, 22, 1)], .fld (Reg.LMP_BANK_CFG 0) 4 0 F.LMP_BANK_CFG_FSW 0 0 1 false false⟩,
  ⟨0x4000, 2, 0x04, 1, 2, 1, 4, 0, some 1, [(0, 3, 1)], .fld (Reg.LMP_BANK_CFG 0) 4 0 F.LMP_BANK_CFG_SSC 0 0 1 false false⟩,
  ⟨0x4002, 1, 0x01, 1, 2, 1, 4, 0, some 85, [(0, 150, 1)], .fld (Reg.LMP_DERATE_CFG) 0 0 F.LMP_DERATE_CFG_KNEE 0 0 1 false false⟩,
  ⟨0x4002, 1, 0x02, 1, 2, 1, 4, 0, some 40, [(0, 100, 1)], .fld (Reg.LMP_DERATE_CFG) 0 0 F.LMP_DERATE_CFG_SLOPE 0 0 1 false false⟩,
  ⟨0x4002, 1, 0x03, 1, 2, 1, 4, 0, some 1, [(0, 15, 1)], .fld (Reg.LMP_DERATE_CFG) 0 0 F.LMP_DERATE_CFG_NTC_EN 0 0 1 false false⟩,
  ⟨0x4002, 1, 0x04, 1, 2, 1, 4, 0, some 110, [(60, 110, 1)], .fld (Reg.LMP_PLIMIT) 0 0 F.LMP_PLIMIT_P 0 0 1 false false⟩,
  ⟨0x4003, 1, 0x01, 1, 3, 2, 4, 0, some 3750, [(3000, 5000, 250)], .fld (Reg.LMP_NTC_CFG) 0 0 F.LMP_NTC_CFG_B 0 0 250 false false⟩,
  ⟨0x4003, 1, 0x02, 1, 3, 2, 4, 0, some 10000, [(1000, 65535, 1)], .fld (Reg.LMP_NTC_CFG) 0 0 F.LMP_NTC_CFG_R_NOM 0 0 1 false false⟩,
  ⟨0x4003, 1, 0x03, 1, 3, 2, 4, 0, some 11000, [(1000, 25000, 100)], .fld (Reg.LMP_NTC_CFG) 0 0 F.LMP_NTC_CFG_R_PU 0 0 100 false false⟩,
  ⟨0x4004, 1, 0x01, 1, 3, 2, 1, 255, some 32768, [(0, 65535, 1)], .fld (Reg.LMP_DERATE_STAT) 0 0 F.LMP_DERATE_STAT_FT 0 0 1 false false⟩,
  ⟨0x4004, 1, 0x02, 1, 3, 2, 1, 255, some 32768, [(0, 65535, 1)], .fld (Reg.LMP_DERATE_STAT) 0 0 F.LMP_DERATE_STAT_FP 0 0 1 false false⟩,
  ⟨0x4004, 1, 0x03, 1, 6, 2, 1, 255, some 0, [(-32768, 32767, 1)], .fld (Reg.LMP_TEMP) 0 0 F.LMP_TEMP_NTC 0 0 1 false true⟩,
  ⟨0x4004, 1, 0x04, 1, 6, 2, 1, 255, some 0, [(-32768, 32767, 1)], .fld (Reg.LMP_TEMP) 0 0 F.LMP_TEMP_DIE 0 0 1 false true⟩,
  ⟨0x4004, 1, 0x05, 1, 3, 2, 1, 255, some 0, [(0, 65535, 1)], .fld (Reg.LMP_PLOSS) 0 0 F.LMP_PLOSS_LAMP 0 0 1 false false⟩,
  ⟨0x4004, 1, 0x06, 1, 3, 2, 1, 255, some 0, [(0, 65535, 1)], .fld (Reg.LMP_PLOSS) 0 0 F.LMP_PLOSS_ALLOW 0 0 1 false false⟩,
  ⟨0x4004, 1, 0x07, 1, 4, 4, 1, 255, some 0, [(0, 4294967295, 1)], .fld (Reg.LMP_BANK_I) 0 0 ⟨31, 0⟩ 0 0 1 false false⟩,
  ⟨0x4004, 1, 0x08, 1, 4, 4, 1, 255, some 0, [(0, 4294967295, 1)], .fld (Reg.LMP_STATUS) 0 0 ⟨31, 0⟩ 0 0 1 false false⟩,
  ⟨0x4010, 1, 0x01, 1, 1, 1, 4, 0, some 0, [(0, 1, 1)], .fld (Reg.LMP_MTX_CFG) 0 0 F.LMP_MTX_CFG_EN 0 0 1 false false⟩,
  ⟨0x4010, 1, 0x02, 1, 2, 1, 4, 0, some 0, [(0, 1, 1)], .fld (Reg.LMP_MTX_CFG) 0 0 F.LMP_MTX_CFG_OWNER 0 0 1 false false⟩,
  ⟨0x4010, 1, 0x03, 1, 2, 1, 4, 0, some 16, [(1, 16, 1)], .fld (Reg.LMP_MTX_CFG) 0 0 F.LMP_MTX_CFG_NLINES 0 1 1 false false⟩,
  ⟨0x4010, 1, 0x04, 1, 2, 1, 4, 0, some 16, [(4, 64, 1)], .fld (Reg.LMP_MTX_CFG) 0 0 F.LMP_MTX_CFG_SLOT 0 0 1 false false⟩,
  ⟨0x4010, 1, 0x05, 1, 2, 1, 4, 0, some 1, [(1, 4, 1)], .fld (Reg.LMP_MTX_CFG) 0 0 F.LMP_MTX_CFG_BLANK 0 0 1 false false⟩,
  ⟨0x4010, 1, 0x06, 1, 2, 1, 4, 0, some 25, [(10, 40, 1)], .fld (Reg.LMP_MTX_CFG) 0 0 F.LMP_MTX_CFG_VTH 0 0 1 false false⟩]

/-- Entries of R181. -/
def odRows6 : List OdRow := [
  ⟨0x4010, 1, 0x07, 1, 2, 1, 4, 0, some 2, [(1, 15, 1)], .fld (Reg.LMP_MTX_CFG) 0 0 F.LMP_MTX_CFG_MFLOOR 0 0 1 false false⟩,
  ⟨0x4011, 1, 0x01, 32, 2, 1, 2, 1, some 0, [(0, 60, 1)], .num .column⟩,
  ⟨0x4012, 1, 0x01, 1, 8, 512, 2, 1, some 0, [], .blob .dots⟩,
  ⟨0x4100, 32, 0x01, 1, 1, 1, 4, 0, some 0, [(0, 1, 1)], .fld (Reg.LMP_STR_CFG 0) 4 0 F.LMP_STR_CFG_EN 0 0 1 false false⟩,
  ⟨0x4100, 32, 0x02, 1, 2, 1, 4, 0, some 0, [(0, 1, 1)], .fld (Reg.LMP_STR_CFG 0) 4 0 F.LMP_STR_CFG_OWNER 0 0 1 false false⟩,
  ⟨0x4100, 32, 0x03, 1, 2, 1, 4, 0, some 33, [(22, 47, 1)], .fld (Reg.LMP_STR_CFG 0) 4 0 F.LMP_STR_CFG_LVAL 0 0 1 false false⟩,
  ⟨0x4100, 32, 0x04, 1, 3, 2, 4, 0, some 20, [(5, 300, 1)], .fld (Reg.LMP_STR_CFG 0) 4 0 F.LMP_STR_CFG_FLOOR 0 0 1 false false⟩,
  ⟨0x4100, 32, 0x05, 1, 3, 2, 4, 0, some 32768, [(0, 65535, 1)], .fld (Reg.LMP_STR_CAL 0) 4 0 F.LMP_STR_CAL_K 0 0 1 false false⟩,
  ⟨0x4100, 32, 0x06, 1, 3, 2, 2, 1, some 0, [(0, 0, 1), (5, 300, 1)], .fld (Reg.LMP_STR_RUN 0) 4 0 F.LMP_STR_RUN_ISET 0 0 1 false false⟩,
  ⟨0x4100, 32, 0x07, 1, 3, 2, 2, 1, some 0, [(0, 65535, 1)], .fld (Reg.LMP_STR_RUN 0) 4 0 F.LMP_STR_RUN_DUTY 0 0 1 false false⟩,
  ⟨0x4100, 32, 0x08, 1, 2, 1, 2, 1, some 31, [(0, 15, 1), (31, 31, 1)], .fld (Reg.LMP_STR_SAIL 0) 4 0 F.LMP_STR_SAIL_ENGINE 0 0 1 false false⟩,
  ⟨0x4100, 32, 0x09, 1, 2, 1, 2, 1, some 0, [(0, 255, 1)], .fld (Reg.LMP_STR_SAIL 0) 4 0 F.LMP_STR_SAIL_SPHASE 0 0 1 false false⟩,
  ⟨0x4100, 32, 0x0A, 1, 4, 4, 1, 255, some 0, [(0, 4294967295, 1)], .fld (Reg.LMP_STR_ACT 0) 4 0 ⟨31, 0⟩ 0 0 1 false false⟩,
  ⟨0x4100, 32, 0x0B, 1, 4, 4, 1, 255, some 0, [(0, 4294967295, 1)], .fld (Reg.LMP_STR_MEAS 0) 4 0 ⟨31, 0⟩ 0 0 1 false false⟩,
  ⟨0x4100, 32, 0x0C, 1, 4, 4, 1, 255, some 0, [(0, 4294967295, 1)], .fld (Reg.LMP_STR_STAT 0) 4 0 ⟨31, 0⟩ 0 0 1 false false⟩,
  ⟨0x4200, 16, 0x01, 1, 2, 1, 2, 1, some 0, [(0, 5, 1)], .fld (Reg.LMP_SAIL_CFG 0) 4 0 F.LMP_SAIL_CFG_TYPE 0 0 1 false false⟩,
  ⟨0x4200, 16, 0x02, 1, 3, 2, 2, 1, some 1000, [(50, 10000, 1)], .fld (Reg.LMP_SAIL_CFG 0) 4 0 F.LMP_SAIL_CFG_PERIOD 0 0 1 false false⟩,
  ⟨0x4200, 16, 0x03, 1, 2, 1, 2, 1, some 0, [(0, 255, 1)], .fld (Reg.LMP_SAIL_LVL 0) 4 0 F.LMP_SAIL_LVL_LOW 0 0 1 false false⟩,
  ⟨0x4200, 16, 0x04, 1, 2, 1, 2, 1, some 255, [(0, 255, 1)], .fld (Reg.LMP_SAIL_LVL 0) 4 0 F.LMP_SAIL_LVL_HIGH 0 0 1 false false⟩,
  ⟨0x4200, 16, 0x05, 1, 2, 1, 2, 1, some 128, [(0, 255, 1)], .fld (Reg.LMP_SAIL_LVL 0) 4 0 F.LMP_SAIL_LVL_DUTY 0 0 1 false false⟩,
  ⟨0x4280, 8, 0x01, 1, 1, 1, 4, 0, some 0, [(0, 1, 1)], .fld (Reg.LMP_RGB 0) 32 0 ⟨31, 31⟩ 0 0 1 false false⟩,
  ⟨0x4280, 8, 0x02, 3, 2, 1, 4, 0, some 0, [(0, 31, 1)], .fld (Reg.LMP_RGB 0) 32 0 ⟨4, 0⟩ 8 0 1 false false⟩,
  ⟨0x4280, 8, 0x05, 1, 6, 2, 4, 0, some 16384, [(-32768, 32767, 1)], .fld (Reg.LMP_RGB 1) 32 0 ⟨15, 0⟩ 0 0 1 false true⟩,
  ⟨0x4280, 8, 0x06, 1, 6, 2, 4, 0, some 0, [(-32768, 32767, 1)], .fld (Reg.LMP_RGB 1) 32 0 ⟨31, 16⟩ 0 0 1 false true⟩,
  ⟨0x4280, 8, 0x07, 1, 6, 2, 4, 0, some 0, [(-32768, 32767, 1)], .fld (Reg.LMP_RGB 2) 32 0 ⟨15, 0⟩ 0 0 1 false true⟩]

/-- Entries of R181. -/
def odRows7 : List OdRow := [
  ⟨0x4280, 8, 0x08, 1, 6, 2, 4, 0, some 0, [(-32768, 32767, 1)], .fld (Reg.LMP_RGB 2) 32 0 ⟨31, 16⟩ 0 0 1 false true⟩,
  ⟨0x4280, 8, 0x09, 1, 6, 2, 4, 0, some 16384, [(-32768, 32767, 1)], .fld (Reg.LMP_RGB 3) 32 0 ⟨15, 0⟩ 0 0 1 false true⟩,
  ⟨0x4280, 8, 0x0A, 1, 6, 2, 4, 0, some 0, [(-32768, 32767, 1)], .fld (Reg.LMP_RGB 3) 32 0 ⟨31, 16⟩ 0 0 1 false true⟩,
  ⟨0x4280, 8, 0x0B, 1, 6, 2, 4, 0, some 0, [(-32768, 32767, 1)], .fld (Reg.LMP_RGB 4) 32 0 ⟨15, 0⟩ 0 0 1 false true⟩,
  ⟨0x4280, 8, 0x0C, 1, 6, 2, 4, 0, some 0, [(-32768, 32767, 1)], .fld (Reg.LMP_RGB 4) 32 0 ⟨31, 16⟩ 0 0 1 false true⟩,
  ⟨0x4280, 8, 0x0D, 1, 6, 2, 4, 0, some 16384, [(-32768, 32767, 1)], .fld (Reg.LMP_RGB 5) 32 0 ⟨15, 0⟩ 0 0 1 false true⟩,
  ⟨0x4300, 1, 0x01, 1, 4, 4, 3, 2, some 0, [(0, 4294967295, 1)], .cmd .lmpApply⟩,
  ⟨0x4300, 1, 0x02, 1, 1, 1, 3, 2, some 0, [(0, 1, 1)], .cmd .mtxApply⟩,
  ⟨0x4300, 1, 0x03, 1, 4, 4, 3, 2, some 0, [(0, 4294967295, 1)], .cmd .lmpFault⟩]

/-- Entries of R209. -/
def odRows8 : List OdRow := [
  ⟨0x4800, 1, 0x01, 1, 2, 1, 4, 0, some 3, [(1, 8, 1)], .fld (Reg.ASP_CFG) 0 0 F.ASP_CFG_NDARK 0 0 1 false false⟩,
  ⟨0x4800, 1, 0x02, 1, 2, 1, 4, 0, some 16, [(1, 64, 1)], .fld (Reg.ASP_CFG) 0 0 F.ASP_CFG_PROBEN 0 0 1 false false⟩,
  ⟨0x4800, 1, 0x03, 1, 2, 1, 4, 0, some 50, [(25, 90, 1)], .fld (Reg.ASP_CFG) 0 0 F.ASP_CFG_PLO 0 0 1 false false⟩,
  ⟨0x4801, 1, 0x01, 1, 4, 4, 1, 255, some 0, [(0, 4294967295, 1)], .fld (Reg.ASP_COMMIT_LAST) 0 0 ⟨31, 0⟩ 0 0 1 false false⟩,
  ⟨0x4801, 1, 0x02, 1, 4, 4, 2, 2, some 0, [(0, 4294967295, 1)], .fld (Reg.ASP_COMMIT_NUM) 0 0 ⟨31, 0⟩ 0 0 1 false false⟩,
  ⟨0x4801, 1, 0x03, 1, 5, 8, 2, 2, some 0, [(0, 18446744073709551615, 1)], .pair Reg.ASP_COMMIT_TA_LO⟩,
  ⟨0x4801, 1, 0x04, 1, 2, 1, 3, 2, some 0, [(1, 1, 1), (3, 3, 1)], .cmd .aspCommit⟩,
  ⟨0x4801, 1, 0x05, 1, 4, 4, 1, 255, some 0, [(0, 4294967295, 1)], .fld (Reg.ASP_COMMIT_CNT) 0 0 ⟨31, 0⟩ 0 0 1 false false⟩,
  ⟨0x4801, 1, 0x06, 1, 4, 4, 1, 255, some 0, [(0, 4294967295, 1)], .fld (Reg.ASP_STATUS) 0 0 ⟨31, 0⟩ 0 0 1 false false⟩,
  ⟨0x4802, 1, 0x01, 1, 4, 4, 1, 255, some 0, [(0, 4294967295, 1)], .fld (Reg.ASP_DARK_FAIL) 0 0 ⟨31, 0⟩ 0 0 1 false false⟩,
  ⟨0x4802, 1, 0x02, 1, 4, 4, 1, 255, some 0, [(0, 4294967295, 1)], .fld (Reg.ASP_LIT_FAIL) 0 0 ⟨31, 0⟩ 0 0 1 false false⟩,
  ⟨0x4802, 1, 0x03, 1, 4, 4, 1, 255, some 0, [(0, 4294967295, 1)], .fld (Reg.ASP_HEAD_FB) 0 0 ⟨31, 0⟩ 0 0 1 false false⟩,
  ⟨0x4802, 1, 0x04, 1, 4, 4, 3, 2, some 0, [(0, 4294967295, 1)], .cmd .headClr⟩,
  ⟨0x4802, 1, 0x05, 1, 4, 4, 3, 2, some 0, [(0, 4294967295, 1)], .cmd .headApply⟩,
  ⟨0x4810, 32, 0x01, 1, 1, 1, 4, 0, some 0, [(0, 1, 1)], .fld (Reg.ASP_HEAD_CFG 0) 4 0 F.ASP_HEAD_CFG_EN 0 0 1 false false⟩,
  ⟨0x4810, 32, 0x02, 1, 1, 1, 4, 0, some 0, [(0, 1, 1)], .fld (Reg.ASP_HEAD_CFG 0) 4 0 F.ASP_HEAD_CFG_MTX 0 0 1 false false⟩,
  ⟨0x4810, 32, 0x03, 1, 2, 1, 4, 0, some 0, [(0, 255, 1)], .fld (Reg.ASP_HEAD_CFG 0) 4 0 F.ASP_HEAD_CFG_FALLBACK 0 0 1 false false⟩,
  ⟨0x4810, 32, 0x04, 1, 2, 1, 4, 0, some 0, [(0, 255, 1)], .fld (Reg.ASP_HEAD_CFG 0) 4 0 F.ASP_HEAD_CFG_IDLE 0 0 1 false false⟩,
  ⟨0x4810, 32, 0x05, 1, 4, 4, 4, 0, some 0, [(0, 4294967295, 1)], .fld (Reg.ASP_HEAD_MAP 0) 4 0 ⟨31, 0⟩ 0 0 1 false false⟩,
  ⟨0x4810, 32, 0x06, 1, 2, 1, 2, 1, some 0, [(0, 255, 1)], .fld (Reg.ASP_HEAD_SEL 0) 4 0 ⟨7, 0⟩ 0 0 1 false false⟩,
  ⟨0x4810, 32, 0x07, 1, 4, 4, 1, 255, some 0, [(0, 4294967295, 1)], .fld (Reg.ASP_HEAD_STAT 0) 4 0 ⟨31, 0⟩ 0 0 1 false false⟩,
  ⟨0x4810, 32, 0x08, 1, 1, 1, 1, 255, some 0, [(0, 1, 1)], .fld (Reg.ASP_HEAD_CFG 0) 4 0 F.ASP_HEAD_CFG_SR 0 0 1 false false⟩,
  ⟨0x4880, 32, 0x01, 1, 2, 1, 4, 0, some 0, [(0, 240, 1)], .fld (Reg.ASP_STR_PRV 0) 4 0 F.ASP_STR_PRV_VS_LO 0 0 1 false false⟩,
  ⟨0x4880, 32, 0x02, 1, 4, 4, 1, 255, some 0, [(0, 4294967295, 1)], .fld (Reg.ASP_STR_PSTAT 0) 4 0 ⟨31, 0⟩ 0 0 1 false false⟩,
  ⟨0x4900, 1, 0x01, 1, 8, 2048, 4, 0, some 255, [], .blob .aspects⟩]

/-- Entries of R209. -/
def odRows9 : List OdRow := [
  ⟨0x4901, 1, 0x01, 1, 8, 8192, 4, 0, some 0, [], .blob .elements⟩,
  ⟨0x4902, 1, 0x01, 8, 8, 544, 4, 0, some 0, [], .blob .pattern⟩]

/-- Entries of R234. -/
def odRows10 : List OdRow := [
  ⟨0x1100, 1, 0x01, 1, 3, 2, 4, 0, some 0, [(0, 65534, 1)], .fld (Reg.ROPE_NODE) 0 0 F.ROPE_NODE_NODE 0 0 1 false false⟩,
  ⟨0x1100, 1, 0x02, 1, 2, 1, 4, 0, some 0, [(0, 1, 1)], .fld (Reg.ROPE_CFG) 0 0 F.ROPE_CFG_TOPO 0 0 1 false false⟩,
  ⟨0x1100, 1, 0x03, 1, 1, 1, 4, 0, some 0, [(0, 1, 1)], .fld (Reg.ROPE_CFG) 0 0 F.ROPE_CFG_P2EN 0 0 1 false false⟩,
  ⟨0x1100, 1, 0x04, 1, 1, 1, 4, 0, some 0, [(0, 1, 1)], .fld (Reg.ROPE_CFG) 0 0 F.ROPE_CFG_STBY 0 0 1 false false⟩,
  ⟨0x1100, 1, 0x05, 1, 2, 1, 4, 0, some 0, [(0, 1, 1)], .fld (Reg.ROPE_CFG) 0 0 F.ROPE_CFG_STBY_PORT 0 0 1 false false⟩,
  ⟨0x1100, 1, 0x06, 1, 2, 1, 4, 0, some 16, [(1, 19, 1)], .fld (Reg.ROPE_CFG) 0 0 F.ROPE_CFG_HMAX 0 0 1 false false⟩,
  ⟨0x1100, 1, 0x07, 1, 2, 1, 4, 0, some 8, [(1, 19, 1)], .fld (Reg.ROPE_CFG) 0 0 F.ROPE_CFG_HLIM 0 0 1 false false⟩,
  ⟨0x1100, 1, 0x08, 1, 2, 1, 4, 0, some 0, [(0, 3, 1)], .fld (Reg.ROPE_CFG) 0 0 F.ROPE_CFG_MERGES 0 0 1 false false⟩,
  ⟨0x1100, 1, 0x09, 1, 1, 1, 4, 0, some 1, [(0, 1, 1)], .fld (Reg.ROPE_CFG) 0 0 F.ROPE_CFG_AN 0 0 1 false false⟩,
  ⟨0x1101, 1, 0x01, 1, 3, 2, 4, 0, some 0, [(0, 65534, 1)], .fld (Reg.ROPE_TIMECFG) 0 0 F.ROPE_TIMECFG_ROOT 0 0 1 false false⟩,
  ⟨0x1101, 1, 0x02, 1, 3, 2, 4, 0, some 0, [(0, 65534, 1)], .fld (Reg.ROPE_TIMECFG) 0 0 F.ROPE_TIMECFG_BACKUP 0 0 1 false false⟩,
  ⟨0x1101, 1, 0x03, 1, 7, 4, 1, 255, some 0, [(-2147483648, 2147483647, 1)], .fld (Reg.ROPE_TIME_OFS) 0 0 ⟨31, 0⟩ 0 0 1 false true⟩,
  ⟨0x1102, 3, 0x01, 1, 6, 2, 4, 0, some 0, [(-1000, 1000, 1)], .fld (Reg.ROPE_PORT_ASYM 0) 4 0 F.ROPE_PORT_ASYM_A 0 0 1 false true⟩,
  ⟨0x1102, 3, 0x02, 1, 3, 2, 1, 255, some 0, [(0, 65535, 1)], .fld (Reg.ROPE_PORT_DELAY 0) 4 0 F.ROPE_PORT_DELAY_D 0 0 1 false false⟩,
  ⟨0x1102, 3, 0x03, 1, 4, 4, 1, 255, some 0, [(0, 4294967295, 1)], .fld (Reg.ROPE_PORT_STAT 0) 4 0 ⟨31, 0⟩ 0 0 1 false false⟩,
  ⟨0x1102, 3, 0x04, 1, 4, 4, 1, 255, some 0, [(0, 4294967295, 1)], .clr (Reg.ROPE_PORT_ERR 0) 4⟩,
  ⟨0x1110, 1, 0x01, 1, 4, 4, 1, 255, some 0, [(0, 4294967295, 1)], .fld (Reg.ROPE_STATUS) 0 0 ⟨31, 0⟩ 0 0 1 false false⟩,
  ⟨0x1110, 1, 0x02, 1, 4, 4, 1, 255, some 0, [(0, 4294967295, 1)], .fld (Reg.ROPE_SAFE_CNT) 0 0 ⟨31, 0⟩ 0 0 1 false false⟩,
  ⟨0x1110, 1, 0x03, 1, 4, 4, 1, 255, some 0, [(0, 4294967295, 1)], .fld (Reg.ROPE_DISCARD_CNT) 0 0 ⟨31, 0⟩ 0 0 1 false false⟩,
  ⟨0x1110, 1, 0x04, 1, 4, 4, 1, 255, some 0, [(0, 4294967295, 1)], .fld (Reg.ROPE_HEAL_CNT) 0 0 ⟨31, 0⟩ 0 0 1 false false⟩,
  ⟨0x1110, 1, 0x05, 1, 3, 2, 1, 255, some 27200, [(0, 65535, 1)], .fld (Reg.ROPE_WIN) 0 0 F.ROPE_WIN_W 0 0 1 false false⟩,
  ⟨0x1120, 2, 0x01, 128, 4, 4, 1, 255, some 0, [(0, 4294967295, 1)], .fld (Reg.ROPE_SUB 0) 512 4 ⟨31, 0⟩ 0 0 1 false false⟩]

/-- Entries of R267. -/
def odRows11 : List OdRow := [
  ⟨0x1180, 1, 0x01, 1, 1, 1, 4, 0, some 0, [(0, 1, 1)], .fld (Reg.BLY_CFG) 0 0 F.BLY_CFG_EN 0 0 1 false false⟩,
  ⟨0x1180, 1, 0x02, 1, 3, 2, 4, 0, some 30, [(0, 480, 1)], .fld (Reg.BLY_CFG) 0 0 F.BLY_CFG_HOLD 0 0 1 false false⟩,
  ⟨0x1180, 1, 0x03, 1, 3, 2, 4, 0, some 20, [(1, 1000, 1)], .fld (Reg.BLY_CFG) 0 0 F.BLY_CFG_IDIFF 0 0 1 false false⟩,
  ⟨0x1180, 1, 0x04, 1, 1, 1, 4, 0, some 0, [(0, 1, 1)], .fld (Reg.BLY_CFG) 0 0 F.BLY_CFG_SOLO 0 0 1 false false⟩,
  ⟨0x1180, 1, 0x05, 1, 2, 1, 4, 0, some 0, [(0, 1, 1)], .fld (Reg.BLY_CFG) 0 0 F.BLY_CFG_LAMP_POS 0 0 1 false false⟩,
  ⟨0x1180, 1, 0x06, 1, 2, 1, 4, 0, some 255, [(0, 127, 1), (255, 255, 1)], .fld (Reg.BLY_BYPASS_CFG) 0 0 F.BLY_BYPASS_CFG_FB_P 0 0 1 false false⟩,
  ⟨0x1180, 1, 0x07, 1, 2, 1, 4, 0, some 255, [(0, 127, 1), (255, 255, 1)], .fld (Reg.BLY_BYPASS_CFG) 0 0 F.BLY_BYPASS_CFG_FB_Q 0 0 1 false false⟩,
  ⟨0x1180, 1, 0x08, 1, 2, 1, 4, 0, some 30, [(5, 100, 1)], .fld (Reg.BLY_BYPASS_CFG) 0 0 F.BLY_BYPASS_CFG_TBP 0 0 1 false false⟩,
  ⟨0x1181, 1, 0x01, 1, 4, 4, 1, 255, some 0, [(0, 4294967295, 1)], .fld (Reg.BLY_STATUS) 0 0 ⟨31, 0⟩ 0 0 1 false false⟩,
  ⟨0x1181, 1, 0x02, 1, 5, 8, 1, 255, some 0, [(0, 18446744073709551615, 1)], .pair Reg.BLY_SN_LO⟩,
  ⟨0x1181, 1, 0x03, 1, 5, 8, 1, 255, some 0, [(0, 18446744073709551615, 1)], .pair Reg.BLY_PSN_LO⟩,
  ⟨0x1181, 1, 0x04, 1, 3, 2, 1, 255, some 65535, [(0, 65535, 1)], .fld (Reg.BLY_HOLD_LEFT) 0 0 ⟨15, 0⟩ 0 0 1 false false⟩,
  ⟨0x1181, 1, 0x05, 1, 4, 4, 1, 255, some 0, [(0, 4294967295, 1)], .fld (Reg.BLY_CNT) 0 0 ⟨31, 0⟩ 0 0 1 false false⟩,
  ⟨0x1181, 1, 0x06, 1, 4, 4, 1, 255, some 0, [(0, 4294967295, 1)], .clr (Reg.BLY_LINK_ERR) 0⟩,
  ⟨0x1181, 1, 0x07, 1, 4, 4, 1, 255, some 0, [(0, 4294967295, 1)], .fld (Reg.BLY_RESYNC) 0 0 ⟨31, 0⟩ 0 0 1 false false⟩,
  ⟨0x1182, 1, 0x01, 4, 4, 4, 1, 255, some 0, [(0, 4294967295, 1)], .fld (Reg.BLY_IDIFF 0) 0 4 ⟨31, 0⟩ 0 0 1 false false⟩]

/-- Entries of R298. -/
def odRows12 : List OdRow := [
  ⟨0x1000, 1, 0x01, 1, 9, 16, 0, 255, some 3617292333001431126, [], .blob .deviceType⟩,
  ⟨0x1000, 1, 0x02, 1, 3, 2, 0, 255, none, [(0, 65535, 1)], .num .silicon⟩,
  ⟨0x1000, 1, 0x03, 1, 5, 8, 0, 255, none, [(0, 18446744073709551615, 1)], .num .serial⟩,
  ⟨0x1000, 1, 0x04, 1, 4, 4, 0, 255, none, [(0, 4294967295, 1)], .num .rom⟩,
  ⟨0x1000, 1, 0x05, 1, 4, 4, 1, 255, some 0, [(0, 4294967295, 1)], .num .patch⟩,
  ⟨0x1000, 1, 0x06, 1, 2, 1, 1, 255, none, [(0, 5, 1)], .num .lifeCycle⟩,
  ⟨0x1000, 1, 0x07, 1, 1, 1, 1, 255, none, [(0, 1, 1)], .num .halt⟩,
  ⟨0x1F00, 1, 0x01, 1, 2, 1, 1, 255, some 255, [(0, 1, 1), (255, 255, 1)], .num .booted⟩,
  ⟨0x1F00, 1, 0x02, 1, 4, 4, 1, 255, some 0, [(0, 4294967295, 1)], .num .seqA⟩,
  ⟨0x1F00, 1, 0x03, 1, 4, 4, 1, 255, some 0, [(0, 4294967295, 1)], .num .seqB⟩,
  ⟨0x1F00, 1, 0x04, 1, 2, 1, 1, 255, some 1, [(0, 5, 1)], .num .stA⟩,
  ⟨0x1F00, 1, 0x05, 1, 2, 1, 1, 255, some 1, [(0, 5, 1)], .num .stB⟩,
  ⟨0x1F00, 1, 0x06, 1, 4, 4, 1, 255, some 0, [(0, 4294967295, 1)], .num .bodyCrc⟩,
  ⟨0x1F00, 1, 0x07, 1, 1, 1, 1, 255, some 0, [(0, 1, 1)], .num .trial⟩,
  ⟨0x1F01, 1, 0x01, 1, 10, 1048576, 3, 2, none, [(64, 1048576, 1)], .blob .buffer⟩,
  ⟨0x1F01, 1, 0x02, 1, 4, 4, 1, 255, some 0, [(0, 4294967295, 1)], .num .bufLen⟩,
  ⟨0x1F02, 1, 0x01, 1, 2, 1, 3, 2, some 0, [(1, 2, 1)], .cmd .commit⟩,
  ⟨0x1F02, 1, 0x02, 1, 2, 1, 1, 255, some 0, [(0, 6, 1)], .num .commitState⟩,
  ⟨0x1F02, 1, 0x03, 1, 4, 4, 1, 255, some 0, [(0, 4294967295, 1)], .num .shown⟩,
  ⟨0x1F02, 1, 0x04, 1, 3, 2, 4, 0, some 120, [(10, 600, 1)], .num .tConfirm⟩,
  ⟨0x1F02, 1, 0x05, 1, 3, 2, 1, 255, some 0, [(0, 65535, 1)], .num .result⟩,
  ⟨0x1F02, 1, 0x06, 1, 3, 2, 1, 255, some 0, [(0, 65535, 1)], .num .windowLeft⟩,
  ⟨0x1F02, 1, 0x07, 1, 3, 2, 1, 255, some 0, [(0, 65535, 1)], .num .rejected⟩,
  ⟨0x1F02, 1, 0x08, 1, 3, 2, 1, 255, some 0, [(0, 65535, 1)], .num .outside⟩,
  ⟨0x1F03, 1, 0x01, 1, 1, 1, 3, 2, some 0, [(1, 1, 1)], .cmd .revert⟩]

/-- Entries of R298. -/
def odRows13 : List OdRow := [
  ⟨0x5000, 1, 0x01, 1, 2, 1, 1, 255, some 12, [(0, 255, 1)], .fld (Reg.ADC_STATUS) 0 0 F.ADC_STATUS_SUPV 0 0 1 false false⟩,
  ⟨0x5800, 1, 0x01, 1, 5, 8, 1, 255, some 0, [(0, 18446744073709551615, 1)], .pair Reg.TMR_TB_LO⟩,
  ⟨0x6000, 1, 0x01, 1, 3, 2, 2, 2, some 0, [(0, 65535, 1)], .fld (Reg.MRC_EN) 0 0 ⟨15, 0⟩ 0 0 1 false false⟩,
  ⟨0x6400, 1, 0x01, 1, 2, 1, 1, 255, some 0, [(0, 255, 1)], .num .crcUse⟩,
  ⟨0x7000, 1, 0x01, 1, 2, 1, 3, 2, some 0, [(1, 4, 1)], .cmd .power⟩,
  ⟨0x7000, 1, 0x02, 1, 2, 1, 1, 255, some 0, [(0, 3, 1)], .fld (Reg.PWR_STATUS) 0 0 F.PWR_STATUS_STATE 0 0 1 false false⟩,
  ⟨0x7000, 1, 0x03, 1, 2, 1, 1, 255, some 0, [(0, 11, 1)], .fld (Reg.PWR_LAST_WAKE) 0 0 ⟨7, 0⟩ 0 0 1 false false⟩,
  ⟨0x8000, 1, 0x01, 1, 4, 4, 1, 255, some 0, [(0, 4294967295, 1)], .num .newest⟩,
  ⟨0x8000, 1, 0x02, 1, 4, 4, 2, 2, some 0, [(0, 4294967295, 1)], .num .selector⟩,
  ⟨0x8000, 1, 0x03, 1, 8, 32, 1, 255, some 0, [], .blob .entry⟩,
  ⟨0x8001, 1, 0x01, 1, 4, 4, 1, 255, some 0, [(0, 4294967295, 1)], .num .boots⟩,
  ⟨0x8002, 1, 0x01, 1, 3, 2, 1, 255, some 0, [(0, 65535, 1)], .num .tableFull⟩,
  ⟨0x9000, 16, 0x01, 1, 8, 128, 1, 255, none, [], .blob .region⟩,
  ⟨0x9100, 1, 0x01, 1, 4, 4, 1, 255, some 0, [(0, 4294967295, 1)], .fld (Reg.OTP_MARGIN) 0 0 ⟨31, 0⟩ 0 0 1 false false⟩,
  ⟨0xA000, 1, 0x01, 1, 4, 4, 1, 255, some 0, [(0, 4294967295, 1)], .fld (Reg.BIST_UNUSABLE) 0 0 ⟨31, 0⟩ 0 0 1 false false⟩,
  ⟨0xA000, 1, 0x02, 1, 2, 1, 4, 0, some 24, [(1, 24, 1)], .fld (Reg.BIST_BG_CFG) 0 0 F.BIST_BG_CFG_CYCLE 0 0 1 false false⟩]

/-- Entries of R320. -/
def odRows14 : List OdRow := [
  ⟨0x8000, 1, 0x04, 1, 4, 4, 1, 255, some 0, [(0, 4294967295, 1)], .num .oldest⟩,
  ⟨0x8000, 1, 0x05, 1, 4, 4, 1, 255, some 0, [(0, 4294967295, 1)], .num .mirrorLost⟩,
  ⟨0x8000, 1, 0x06, 1, 4, 4, 1, 255, some 0, [(0, 4294967295, 1)], .num .mirrored⟩,
  ⟨0x8001, 1, 0x02, 1, 3, 2, 1, 255, some 0, [(0, 65535, 1)], .num .fatal⟩,
  ⟨0x8002, 1, 0x02, 1, 3, 2, 1, 255, some 0, [(0, 65535, 1)], .num .quotaFull⟩,
  ⟨0x8002, 1, 0x03, 1, 3, 2, 1, 255, some 0, [(0, 65535, 1)], .num .eventsLost⟩,
  ⟨0x8002, 1, 0x04, 1, 4, 4, 1, 255, some 0, [(0, 4294967295, 1)], .num .mgmtRecov⟩,
  ⟨0x8003, 1, 0x01, 1, 2, 1, 1, 255, some 0, [(0, 255, 1)], .num .unmet⟩,
  ⟨0x8003, 1, 0x02, 1, 2, 1, 1, 255, some 0, [(0, 255, 1)], .num .causes⟩,
  ⟨0x8004, 1, 0x01, 1, 4, 4, 1, 255, some 0, [(0, 4294967295, 1)], .num .ledger⟩]

/-- Entries of R341. -/
def odRows15 : List OdRow := [
  ⟨0x5000, 1, 0x02, 1, 2, 1, 1, 255, some 0, [(0, 255, 1)], .fld (Reg.ADC_STATUS) 0 0 F.ADC_STATUS_UNUSABLE 0 0 1 false false⟩,
  ⟨0x5000, 1, 0x03, 1, 4, 4, 1, 255, some 0, [(0, 4294967295, 1)], .clr (Reg.ADC_URGENT_DROP) 0⟩,
  ⟨0x5010, 4, 0x01, 1, 1, 1, 2, 2, some 0, [(0, 1, 1)], .fld (Reg.ADC_CFG 0) 1024 0 F.ADC_CFG_EN 0 0 1 false false⟩,
  ⟨0x5010, 4, 0x02, 1, 2, 1, 2, 2, some 0, [(0, 2, 1)], .fld (Reg.ADC_CFG 0) 1024 0 F.ADC_CFG_SEQMODE 0 0 1 false false⟩,
  ⟨0x5010, 4, 0x03, 1, 1, 1, 2, 2, some 0, [(0, 1, 1)], .fld (Reg.ADC_CFG 0) 1024 0 F.ADC_CFG_LP 0 0 1 false false⟩,
  ⟨0x5010, 4, 0x04, 1, 1, 1, 2, 2, some 0, [(0, 1, 1)], .fld (Reg.ADC_CFG 0) 1024 0 F.ADC_CFG_ILV 0 0 1 false false⟩,
  ⟨0x5010, 4, 0x05, 1, 2, 1, 2, 2, some 0, [(0, 1, 1)], .fld (Reg.ADC_CFG 0) 1024 0 F.ADC_CFG_ALIGN 0 0 1 false false⟩,
  ⟨0x5010, 4, 0x06, 1, 2, 1, 2, 2, some 0, [(0, 3, 1)], .fld (Reg.ADC_CFG 0) 1024 0 F.ADC_CFG_GAIN 0 0 1 false false⟩,
  ⟨0x5010, 4, 0x07, 1, 3, 2, 2, 2, some 2, [(2, 257, 1)], .fld (Reg.ADC_CFG 0) 1024 0 F.ADC_CFG_SAMPLE 0 2 1 false false⟩,
  ⟨0x5010, 4, 0x08, 1, 2, 1, 2, 2, some 0, [(0, 19, 1)], .fld (Reg.ADC_TRIG 0) 1024 0 F.ADC_TRIG_SRC 0 0 1 false false⟩,
  ⟨0x5010, 4, 0x09, 1, 3, 2, 2, 2, some 0, [(0, 65535, 1)], .fld (Reg.ADC_TRIG 0) 1024 0 F.ADC_TRIG_DELAY 0 0 1 false false⟩,
  ⟨0x5010, 4, 0x0A, 1, 2, 1, 2, 2, some 32, [(1, 64, 1)], .fld (Reg.ADC_CFG 0) 1024 0 F.ADC_CFG_THR 0 1 1 false false⟩,
  ⟨0x5010, 4, 0x0B, 1, 2, 1, 2, 2, some 1, [(1, 64, 1)], .fld (Reg.ADC_CFG 0) 1024 0 F.ADC_CFG_LOOPLEN 0 1 1 false false⟩,
  ⟨0x5010, 4, 0x0C, 1, 2, 1, 2, 2, some 1, [(1, 16, 1)], .fld (Reg.ADC_CFG 0) 1024 0 F.ADC_CFG_STEPLEN 0 1 1 false false⟩,
  ⟨0x5010, 4, 0x0D, 1, 8, 512, 2, 2, some 0, [], .blob .loopTable⟩,
  ⟨0x5010, 4, 0x0E, 1, 8, 64, 2, 2, some 0, [], .blob .stepTable⟩,
  ⟨0x5010, 4, 0x0F, 1, 4, 4, 1, 255, some 0, [(0, 4294967295, 1)], .fld (Reg.ADC_LAST 0) 1024 0 ⟨31, 0⟩ 0 0 1 false false⟩,
  ⟨0x5010, 4, 0x10, 1, 4, 4, 1, 255, some 0, [(0, 4294967295, 1)], .clr (Reg.ADC_CNT 0) 1024⟩]

/-- Entries of R354. -/
def odRows16 : List OdRow := [
  ⟨0x5800, 1, 0x02, 1, 4, 4, 1, 255, some 0, [(0, 4294967295, 1)], .fld (Reg.TMR_TB_STAT) 0 0 ⟨31, 0⟩ 0 0 1 false false⟩,
  ⟨0x5800, 1, 0x03, 1, 7, 4, 1, 255, some 0, [(-2147483648, 2147483647, 1)], .fld (Reg.TMR_TB_RATE) 0 0 ⟨31, 0⟩ 0 0 1 false true⟩,
  ⟨0x5810, 16, 0x01, 1, 1, 1, 2, 2, some 0, [(0, 1, 1)], .fld (Reg.TMR_CFG 0) 32 0 F.TMR_CFG_EN 0 0 1 false false⟩,
  ⟨0x5810, 16, 0x02, 1, 2, 1, 2, 2, some 0, [(0, 1, 1)], .fld (Reg.TMR_CFG 0) 32 0 F.TMR_CFG_MODE 0 0 1 false false⟩,
  ⟨0x5810, 16, 0x03, 1, 1, 1, 2, 2, some 0, [(0, 1, 1)], .fld (Reg.TMR_CFG 0) 32 0 F.TMR_CFG_ALIGN 0 0 1 false false⟩,
  ⟨0x5810, 16, 0x04, 1, 4, 4, 2, 2, some 1, [(1, 65536, 1)], .fld (Reg.TMR_PRESC 0) 32 0 ⟨15, 0⟩ 0 0 1 true false⟩,
  ⟨0x5810, 16, 0x05, 1, 4, 4, 2, 2, some 4294967295, [(0, 4294967295, 1)], .fld (Reg.TMR_PERIOD 0) 32 0 ⟨31, 0⟩ 0 0 1 false false⟩,
  ⟨0x5810, 16, 0x06, 1, 4, 4, 2, 2, some 4294967295, [(0, 4294967295, 1)], .fld (Reg.TMR_CMP 0) 32 0 ⟨31, 0⟩ 0 0 1 false false⟩,
  ⟨0x5810, 16, 0x07, 1, 4, 4, 2, 2, some 0, [(0, 4294967295, 1)], .fld (Reg.TMR_PHASE 0) 32 0 ⟨31, 0⟩ 0 0 1 false false⟩,
  ⟨0x5810, 16, 0x08, 1, 2, 1, 2, 2, some 0, [(0, 20, 1)], .fld (Reg.TMR_CFG 0) 32 0 F.TMR_CFG_CAPSRC 0 0 1 false false⟩,
  ⟨0x5810, 16, 0x09, 1, 2, 1, 2, 2, some 0, [(0, 3, 1)], .fld (Reg.TMR_CFG 0) 32 0 F.TMR_CFG_CAPEDGE 0 0 1 false false⟩,
  ⟨0x5810, 16, 0x0A, 1, 1, 1, 2, 2, some 0, [(0, 1, 1)], .fld (Reg.TMR_CFG 0) 32 0 F.TMR_CFG_CAPSEL 0 0 1 false false⟩,
  ⟨0x5810, 16, 0x0B, 1, 4, 4, 1, 255, some 0, [(0, 4294967295, 1)], .fld (Reg.TMR_CNT 0) 32 0 ⟨31, 0⟩ 0 0 1 false false⟩,
  ⟨0x5810, 16, 0x0C, 1, 4, 4, 1, 255, some 0, [(0, 4294967295, 1)], .num .capture⟩,
  ⟨0x5810, 16, 0x0D, 1, 4, 4, 1, 255, some 0, [(0, 4294967295, 1)], .fld (Reg.TMR_STAT 0) 32 0 ⟨31, 0⟩ 0 0 1 false false⟩]

/-- Entries of R373. -/
def odRows17 : List OdRow := [
  ⟨0x6000, 1, 0x02, 1, 3, 2, 1, 255, some 0, [(0, 65535, 1)], .fld (Reg.MRC_DONE) 0 0 ⟨15, 0⟩ 0 0 1 false false⟩,
  ⟨0x6010, 16, 0x01, 1, 4, 4, 1, 255, some 0, [(0, 4294967295, 1)], .fld (Reg.MRC_CH_STAT 0) 64 0 ⟨31, 0⟩ 0 0 1 false false⟩,
  ⟨0x6010, 16, 0x02, 1, 3, 2, 1, 255, some 0, [(0, 65535, 1)], .clr (Reg.MRC_CH_BADCNT 0) 64⟩,
  ⟨0x6010, 16, 0x03, 1, 2, 1, 1, 255, some 0, [(0, 255, 1)], .fld (Reg.MRC_CH_TQ_HEAD 0) 64 0 ⟨7, 0⟩ 0 0 1 false false⟩]

/-- Entries of R395. -/
def odRows18 : List OdRow := [
  ⟨0xA000, 1, 0x03, 1, 4, 4, 1, 255, some 0, [(0, 4294967295, 1)], .fld (Reg.BIST_STATUS) 0 0 ⟨31, 0⟩ 0 0 1 false false⟩,
  ⟨0xA000, 1, 0x04, 1, 1, 1, 4, 0, some 1, [(0, 1, 1)], .fld (Reg.BIST_BG_CFG) 0 0 F.BIST_BG_CFG_EN 0 0 1 false false⟩,
  ⟨0xA000, 1, 0x05, 1, 2, 1, 1, 255, some 0, [(0, 255, 1)], .fld (Reg.BIST_IN_UNUSABLE) 0 0 ⟨7, 0⟩ 0 0 1 false false⟩,
  ⟨0xA000, 1, 0x06, 1, 4, 4, 1, 255, some 0, [(0, 16777215, 1)], .fld (Reg.BIST_OUT_UNUSABLE) 0 0 ⟨31, 0⟩ 0 0 1 false false⟩,
  ⟨0xA000, 1, 0x07, 1, 4, 4, 1, 255, some 0, [(0, 4294967295, 1)], .fld (Reg.BIST_STR_UNUSABLE) 0 0 ⟨31, 0⟩ 0 0 1 false false⟩,
  ⟨0xA000, 1, 0x08, 1, 4, 4, 1, 255, some 0, [(0, 4294967295, 1)], .fld (Reg.BIST_BG_STAT) 0 0 ⟨31, 0⟩ 0 0 1 false false⟩,
  ⟨0xA000, 1, 0x09, 1, 4, 4, 1, 255, some 0, [(0, 4294967295, 1)], .fld (Reg.BIST_COND) 0 0 ⟨31, 0⟩ 0 0 1 false false⟩,
  ⟨0xA001, 1, 0x01, 1, 2, 1, 3, 2, some 0, [(2, 5, 1)], .cmd .lifeCycleReq⟩,
  ⟨0xA001, 1, 0x02, 1, 4, 4, 1, 255, some 0, [(0, 4294967295, 1)], .fld (Reg.BIST_LC) 0 0 ⟨31, 0⟩ 0 0 1 false false⟩]

/-- Entries of R409. -/
def odRows19 : List OdRow := [
  ⟨0x9000, 16, 0x02, 1, 2, 1, 1, 255, some 0, [(0, 5, 1)], .num .regionState⟩,
  ⟨0x9100, 1, 0x02, 1, 4, 4, 1, 255, some 0, [(0, 4294967295, 1)], .fld (Reg.OTP_ALARM) 0 0 ⟨31, 0⟩ 0 0 1 false false⟩,
  ⟨0x9100, 1, 0x03, 1, 4, 4, 1, 255, some 0, [(0, 4294967295, 1)], .fld (Reg.OTP_LOCK) 0 0 ⟨31, 0⟩ 0 0 1 false false⟩,
  ⟨0x9100, 1, 0x04, 1, 4, 4, 1, 255, some 0, [(0, 4294967295, 1)], .fld (Reg.OTP_RELOC) 0 0 ⟨31, 0⟩ 0 0 1 false false⟩,
  ⟨0x9101, 1, 0x01, 4, 3, 2, 1, 255, some 0, [(0, 864, 1)], .fld (Reg.OTP_ODO 0) 0 4 F.OTP_ODO_VALUE 0 0 1 false false⟩,
  ⟨0x9101, 1, 0x05, 1, 2, 1, 3, 2, some 0, [(0, 3, 1)], .cmd .odometer⟩]

/-- Entries of R428. -/
def odRows20 : List OdRow := [
  ⟨0x7000, 1, 0x04, 1, 4, 4, 1, 255, some 0, [(0, 4294967295, 1)], .fld (Reg.PWR_STATUS) 0 0 ⟨31, 0⟩ 0 0 1 false false⟩,
  ⟨0x7000, 1, 0x05, 1, 4, 4, 1, 255, some 0, [(0, 4294967295, 1)], .fld (Reg.PWR_SLEEP_ABORT) 0 0 ⟨31, 0⟩ 0 0 1 false false⟩,
  ⟨0x7000, 1, 0x06, 1, 2, 1, 1, 255, some 0, [(0, 15, 1)], .fld (Reg.PWR_RET_FAIL) 0 0 ⟨7, 0⟩ 0 0 1 false false⟩,
  ⟨0x7000, 1, 0x07, 1, 4, 4, 1, 255, some 0, [(0, 4294967295, 1)], .fld (Reg.PWR_TIMES) 0 0 ⟨31, 0⟩ 0 0 1 false false⟩,
  ⟨0x7001, 1, 0x01, 1, 2, 1, 2, 2, some 0, [(0, 255, 1)], .fld (Reg.PWR_WAKE_CFG) 0 0 F.PWR_WAKE_CFG_EN 0 0 1 false false⟩,
  ⟨0x7001, 1, 0x02, 1, 2, 1, 2, 2, some 0, [(0, 255, 1)], .fld (Reg.PWR_WAKE_CFG) 0 0 F.PWR_WAKE_CFG_POL 0 0 1 false false⟩,
  ⟨0x7001, 1, 0x03, 1, 1, 1, 2, 2, some 0, [(0, 1, 1)], .fld (Reg.PWR_WAKE_CFG) 0 0 F.PWR_WAKE_CFG_RTC_EN 0 0 1 false false⟩,
  ⟨0x7001, 1, 0x04, 1, 1, 1, 2, 2, some 0, [(0, 1, 1)], .fld (Reg.PWR_WAKE_CFG) 0 0 F.PWR_WAKE_CFG_ROPE_EN 0 0 1 false false⟩,
  ⟨0x7001, 1, 0x05, 1, 5, 8, 2, 2, some 281474976710655, [(0, 281474976710655, 1)], .pair Reg.PWR_RTC_ALM_LO⟩,
  ⟨0x7001, 1, 0x06, 1, 5, 8, 1, 255, some 0, [(0, 18446744073709551615, 1)], .pair Reg.PWR_RTC_LO⟩,
  ⟨0x7002, 1, 0x01, 1, 2, 1, 4, 0, some 0, [(0, 0, 1), (8, 119, 1)], .fld (Reg.PWR_PMB_CFG) 0 0 F.PWR_PMB_CFG_ADDR 0 0 1 false false⟩,
  ⟨0x7002, 1, 0x02, 1, 3, 2, 4, 0, some 0, [(0, 65535, 1)], .fld (Reg.PWR_PMB_CFG) 0 0 F.PWR_PMB_CFG_VOUT 0 0 1 false false⟩,
  ⟨0x7002, 1, 0x03, 1, 1, 1, 4, 0, some 0, [(0, 1, 1)], .fld (Reg.PWR_PMB_CFG) 0 0 F.PWR_PMB_CFG_PEC 0 0 1 false false⟩,
  ⟨0x7003, 1, 0x01, 1, 8, 256, 1, 255, some 0, [], .blob .summit⟩]

/-- Every entry of the dictionary. -/
def odRows : List OdRow :=
  odRows0 ++ odRows1 ++ odRows2 ++ odRows3 ++ odRows4 ++ odRows5 ++
    odRows6 ++ odRows7 ++ odRows8 ++ odRows9 ++ odRows10 ++ odRows11 ++
    odRows12 ++ odRows13 ++ odRows14 ++ odRows15 ++ odRows16 ++
    odRows17 ++ odRows18 ++ odRows19 ++ odRows20
/-- An entry as addressed: its row and its place in the row. -/
structure OdRef where
  row : OdRow
  i : Nat
  j : Nat
  index : Nat
  sub : Nat

/-- The entry `index:sub`; none: no such entry. -/
def odFind (index sub : Nat) : Option OdRef :=
  (odRows.find? fun r => decide (r.idx ≤ index) && decide (index < r.idx + r.ni) && decide (r.sub ≤ sub) &&
    decide (sub < r.sub + r.ns)).map fun r => ⟨r, index - r.idx, sub - r.sub, index, sub⟩

/-! ## Values -/

/-- A register field of an entry, moved up by `k` bits. -/
def fldUp (f : Fld) (k : Nat) : Fld := ⟨f.hi + k, f.lo + k⟩

/-- The value a field stands for. -/
def fromRaw (f : Fld) (off mul : Nat) (wrap signed : Bool) (raw : Nat) : Int :=
  let w := f.hi - f.lo + 1
  if signed then ofTwos w raw else if wrap && raw = 0 then (2 ^ w : Nat) else ((raw * mul + off : Nat) : Int)

/-- The field a value is stored as. -/
def toRaw (f : Fld) (off mul : Nat) (v : Int) : Nat := toTwos (f.hi - f.lo + 1) ((v - off) / mul)

/-- A byte string that stands in `n` registers from `base`, four bytes each. -/
def regBytes (s : State) (base n : Nat) : List Byte := (List.range n).flatMap fun k => leBytes 4 (regGet s (base + 4 * k)).toNat

/-- A byte string into registers from `base` on. -/
def setRegBytes (s : State) (base : Nat) (bs : List Byte) : State :=
  setWords s (fun k => base + 4 * k) 0 (bytesToWords ((bs.length + 3) / 4) bs)

/-- ROPE_IN blocks in block order. -/
def ropeInBlocks (s : State) : List Nat :=
  let im := runImage s
  ((List.range im.blocks0.length).filter fun k => (im.blocks0[k]?.map (·.typ)) = some 0x20) ++
    (((List.range im.blocks1.length).filter fun k => (im.blocks1[k]?.map (·.typ)) = some 0x20).map (4096 + ·))

/-- State record of block `b` after the last scan. -/
def blkOf (s : State) (b : Nat) : BlkSt := tabGet blkSt0 s.sle.cairn b

/-- The 16-byte record of a block of the running image (R97); all 0 where it has none. -/
def blkRecord (s : State) (b : Nat) : List Byte :=
  let bs := activeBank s
  let k := if b < 4096 then (if b < nblk0 bs then some b else none)
           else if b - 4096 < nblk1 bs then some (nblk0 bs + (b - 4096)) else none
  match k with
  | some n => if s.sle.hasImage then (bs.drop (64 + 16 * n)).take 16 else List.replicate 16 0
  | none => List.replicate 16 0

/-- Running time of a block's timer, µs: that of the timer or discrepancy whose run TIMING shows (R102, R103). -/
def blkRunning (s : State) (b : Nat) : Nat :=
  let x := blkOf s b
  if x.timing then min 0xFFFFFFFF ((s.tb - x.since) / 100) else 0

/-- A value of the running image, or what the entry shows without one. -/
def ofImage (s : State) (none_ : Nat) (f : Image → Nat) : Nat := if s.sle.hasImage then f (runImage s) else none_

/-- Seconds left of the window of T_CONFIRM. -/
def windowLeft (s : State) : Nat :=
  match s.slots.window with
  | some t => (confirmEnd s t - s.tb) / 100000000
  | none => 0

/-- Version of the patch that runs, `0x1000:05`: 0 without one (R435); its number is not in the source of the patch header. -/
def patchVersion (s : State) : Nat := if areaState patchMagic s.otp.key s.flash.patch = 0 then hdrSeq s.flash.patch else 0

/-- An engine-held number; `sub` is the subindex. -/
def odNum (s : State) (k : OdNum) (i j sub : Nat) : Nat :=
  match k with
  | .leakV => (inGet s j).leakV
  | .imgCrc => ofImage s 0 (·.crc)
  | .imgVersion => ofImage s 0 (·.version)
  | .imgMode => ofImage s 0 (·.mode)
  | .imgBlk0 => ofImage s 0 (·.blocks0.length)
  | .imgBlk1 => ofImage s 0 (·.blocks1.length)
  | .imgScan => ofImage s 4 (·.scan)
  | .imgCyc0 => ofImage s 0 (·.cyc0)
  | .imgCyc1 => ofImage s 0 (·.cyc1)
  | .imgBank => b2n s.sle.active
  | .devState => devCode s.dev
  | .scanCount => s.sle.scan
  | .overruns => s.sle.overruns
  | .resets => tabGet 0 s.sle.resets sub
  | .safeBits => if stopSent s then 0 else s.sle.safe
  | .ropeIn =>
    let bl := ropeInBlocks s
    packBits (fun b => match bl[32 * j + b]? with
      | some n => (blkOf s n).q
      | none => false) 32
  | .blkStatus => statusWord (blkOf s (16 * i + j))
  | .blkSel => s.od.blkSel
  | .blkTime => blkRunning s s.od.blkSel
  | .column => (regGet s (Reg.LMP_MTX_COL (j / 4))).toNat / 256 ^ (j % 4) % 256
  | .silicon => (otpWord s 0 18).toNat % 65536
  | .serial => ownSerial s
  | .rom => Config.romVersion.toNat
  | .patch => patchVersion s
  | .lifeCycle => lcState s
  | .halt => b2n (haltPolicy s)
  | .booted => s.slots.booted
  | .seqA => s.slots.seqA
  | .seqB => s.slots.seqB
  | .stA => s.slots.stA
  | .stB => s.slots.stB
  | .bodyCrc => s.slots.crc
  | .trial => b2n s.trial
  | .bufLen => s.slots.buf.length
  | .commitState => s.slots.commit
  | .shown => s.slots.shown
  | .tConfirm => s.slots.tConfirm
  | .result => s.slots.result
  | .windowLeft => windowLeft s
  | .rejected => s.slots.rejected
  | .outside => s.slots.outside
  | .crcUse => packBits (fun n => fldGet s (Reg.CRC_CFG n) F.CRC_CFG_EN = 1) 4
  | .newest => match s.jrn.ring.getLast? with
    | some e => e.seq
    | none => 0
  | .selector => s.jrn.selector
  | .oldest => match s.jrn.ring.head? with
    | some e => e.seq
    | none => 0
  | .mirrorLost => s.jrn.mirrorLost
  | .mirrored => match s.flash.mirror.getLast? with
    | some e => e.seq
    | none => 0
  | .boots => s.summit.boot
  | .fatal => s.summit.fatal
  | .tableFull => s.od.tableFull
  | .quotaFull => s.od.quotaFull
  | .eventsLost => s.jrn.lost
  | .mgmtRecov => s.od.mgmtRecov
  | .unmet => unmet s
  | .causes => degradedCauses s
  | .ledger => ledgerOd s % 256 + 256 * (ledgerMrc s % 256) + 65536 * (ledgerFrames s % 256) + 16777216 * (ledgerCommits s % 256)
  | .regionState => regionState s i
  | .capture => (regGet s (Reg.TMR_CAP i)).toNat

/-- Registers of the matrix pattern `k`: 544 bytes. -/
def patternBase (k : Nat) : Nat := Reg.ASP_PATTERN (136 * k)

/-- The bytes the management pair holds for an entry until they are loaded (R209). -/
def heldValue (s : State) (r : OdRef) : Option (List Byte) := tabFind s.od.vals (256 * r.index + r.sub)

/-- The value of a byte-string entry, or the status that refuses the read. -/
def odBlob (s : State) (k : OdBlob) (r : OdRef) : Nat × List Byte :=
  let ok := fun (v : List Byte) => ((0 : Nat), v)
  match k with
  | .deviceType => ok [0x56, 0x58, 0x4B, 0x2D, 0x36, 0x34, 0x33, 0x32]
  | .build => ok (if s.sle.hasImage then (runImage s).build else List.replicate 16 0)
  | .record => ok (blkRecord s s.od.blkSel)
  | .entry => match selectedEntry s with
    | some e => ok (entryBytes e)
    | none => (0x0104, [])
  | .region => match regionValue s r.i with
    | some v => ok v
    | none => (0x0102, [])
  | .summit => ok (summitBytes s)
  | .dots => ok (regBytes s (Reg.LMP_MTX_DOT 0) 128)
  | .loopTable => ok (regBytes s (Reg.ADC_LOOP_A r.i 0) 128)
  | .stepTable => ok (regBytes s (Reg.ADC_STEP r.i 0) 16)
  | .aspects => ok ((heldValue s r).getD (regBytes s (Reg.ASP_ASPECT 0) 512))
  | .elements => ok ((heldValue s r).getD (regBytes s (Reg.ASP_ELEMENT 0) 2048))
  | .pattern => ok ((heldValue s r).getD (regBytes s (patternBase r.j) 136))
  | .buffer => (0x0102, [])
  | .image => ok (inactiveBank s)

/-- The field behind an entry: its register and the field. -/
def backFld (base si sj : Nat) (f : Fld) (fj : Nat) (r : OdRef) : Nat × Fld := (base + si * r.i + sj * r.j, fldUp f (fj * r.j))

/-- The present value of an entry. -/
def odValue (s : State) (r : OdRef) : Nat × List Byte :=
  match r.row.back with
  | .fld base si sj f fj off mul wrap signed =>
    let (a, g) := backFld base si sj f fj r
    (0, leBytes r.row.size (toTwos (8 * r.row.size) (fromRaw g off mul wrap signed (getF (regView s a) g))))
  | .pair base => (0, leBytes 8 ((regView s base).toNat + 2 ^ 32 * (regView s (base + 4)).toNat))
  | .clr base si => (0, leBytes r.row.size (regView s (base + si * r.i)).toNat)
  | .num k => (0, leBytes r.row.size (odNum s k r.i r.j r.sub))
  | .blob k => odBlob s k r
  | .cmd _ => (0x0102, [])

/-- What a read of the entry does beside answering (R6, R270, R354). -/
def odReadEffect (s : State) (r : OdRef) : State :=
  match r.row.back with
  | .clr base si => regSet s (base + si * r.i) 0
  | .num .capture => fldSet s (Reg.TMR_STAT r.i) F.TMR_STAT_NEW 0
  | _ => s

/-! ## Ranges and DESCRIBE -/

/-- The signed types. -/
def odSigned (r : OdRow) : Bool := r.typ = 6 || r.typ = 7

/-- The number a value's bytes stand for. -/
def odInt (r : OdRow) (v : List Byte) : Int := if odSigned r then ofTwos (8 * r.size) (ofLe v) else (ofLe v : Nat)

/-- The data length fits the type (R269). -/
def odLenOk (r : OdRow) (v : List Byte) : Bool := if 9 ≤ r.typ then decide (v.length ≤ r.size) else v.length = r.size

def inRange (l : List (Int × Int × Int)) (v : Int) : Bool := l.any fun t => decide (t.1 ≤ v) && decide (v ≤ t.2.1) && (v - t.1) % t.2.2 = 0

/-- DESCRIBE (R274). An entry whose default the tables do not state reports a free value. -/
def odDescribe (r : OdRef) : List Byte :=
  let w := r.row
  let d := w.dflt.getD (Config.odDefault r.index r.sub).toNat
  let dflt := leBytes 8 (if odSigned w then toTwos 64 (ofTwos (8 * w.size) d) else d)
  let lim := fun (x : Option Int) => leBytes 8 (toTwos 64 (x.getD 0))
  leBytes 1 w.typ ++ leBytes 1 w.acc ++ leBytes 1 w.cls ++ leBytes 1 0 ++ leBytes 4 w.size ++ dflt ++
    lim (if 8 ≤ w.typ then none else w.range.head?.map (·.1)) ++ lim (if 8 ≤ w.typ then none else w.range.getLast?.map (·.2.1))

end Sys2Proof.Machine
end

