-- ==== Sys2Proof/Machine/OdCheck.lean ====
section
/-!
DEFINITION. The configuration checks of the block chapters (R26, R44, R46, R141, R152, R153, R159, R161, R167, R169, R173, R176, R182 to
R187, R211, R218, R226, R234, R244, R245, R407) over a state that holds the configuration to check. A failing check is its rule and the
entry it is reported with.
-/
namespace Sys2Proof.Machine

/-- A failing check: rule, index and subindex. -/
abbrev Bad := Option (Nat × Nat × Nat)

/-- The first line whose condition holds. -/
def firstBad (l : List (Bool × Nat × Nat × Nat)) : Bad := (l.find? (·.1)).map (·.2)

/-- The first failing check over `n` instances. -/
def anyBad (n : Nat) (f : Nat → Bad) : Bad := (List.range n).findSome? f

/-! ## FIO -/

def pairBad (c : State) (p : Nat) : Bad :=
  let a := Reg.FIO_PAIR_CFG p
  let m := fldGet c a F.FIO_PAIR_CFG_MODE
  let x := fldGet c a F.FIO_PAIR_CFG_SRC_A
  let y := fldGet c a F.FIO_PAIR_CFG_SRC_B
  let code := fun k => decide (15 < k) && k ≠ 0x1F
  firstBad
    [(code x, 44, 0x3100 + p, 2), (code y, 44, 0x3100 + p, 3), (decide (m < 2) && x ≠ 0x1F && x = y, 44, 0x3100 + p, 3),
      (m = 2 && x ≠ 0x1F, 44, 0x3100 + p, 2), (m = 2 && y ≠ 0x1F, 44, 0x3100 + p, 3)]

/-- FILTER against the test-pulse tolerance of the light curtain of image `im` that reads the pair (R44, R78). -/
def curtainBad (c : State) (im : Image) (p : Nat) : Bad :=
  let a := Reg.FIO_PAIR_CFG p
  firstBad
    [(fldGet c a F.FIO_PAIR_CFG_MODE = 2 && (im.blocks0 ++ im.blocks1).any (fun k =>
        k.typ = 4 && k.a = p && decide (fldGet c a F.FIO_PAIR_CFG_FILTER < k.p1)), 44, 0x3100 + p, 4)]

def sourceBad (c : State) (n : Nat) : Bad :=
  let a := Reg.FIO_TP_CFG n
  let lo := fldGet c a F.FIO_TP_CFG_PW_MIN
  let hi := fldGet c a F.FIO_TP_CFG_PW_MAX
  let r := fldGet c a F.FIO_TP_CFG_RESP_MAX
  firstBad
    [(decide (lo < 20) || decide (hi < lo), 46, 0x3010 + n, 2), (decide (1000 < hi), 46, 0x3010 + n, 3),
      (decide (r < 5) || decide (hi < 2 * r), 46, 0x3010 + n, 4), (decide (tTP c < 1600 * (hi + r)), 46, 0x3010 + n, 3)]

/-! ## SOUT and Belay channels -/

def channelBad (c : State) (k : Nat) : Bad :=
  let lo := owMin c k
  let hi := owMax c k
  let feed := chRole c k = 1 || chRole c k = 2
  let e := 0x3410 + k
  firstBad
    [(decide (lo < 100) || decide (hi < lo), 141, e, 6), (decide (800 < hi) || decide (tOP c < 2400 * (hi + 40)), 141, e, 7),
      (feed && !(chMode c k = 1 || chMode c k = 2), 152, e, 1),
      (feed && (List.range k).any (fun j => chRole c j = chRole c k), 152, e, 2),
      (!pairMember c && chRole c k = 3, 153, e, 2)]

/-- Channels `2k` and `2k + 1` (R244). -/
def belayPairBad (c : State) (k : Nat) : Bad :=
  let half := fun j => chMode c j = 3 || chMode c j = 4
  let x := 2 * k
  let y := 2 * k + 1
  firstBad [((half x || half y) && !(half x && half y && chMode c x ≠ chMode c y && chGroup c x = chGroup c y), 244, 0x3410 + x, 1)]

def belayBad (c : State) : Bad :=
  firstBad
    [(pairMember c && !(List.range 24).any (fun k => chRole c k = 3), 153, 0x1180, 1),
      (pairMember c && decide (127 < fldGet c Reg.BLY_BYPASS_CFG F.BLY_BYPASS_CFG_FB_P), 245, 0x1180, 6),
      (pairMember c && decide (127 < fldGet c Reg.BLY_BYPASS_CFG F.BLY_BYPASS_CFG_FB_Q), 245, 0x1180, 7)]

/-! ## LMP -/

def lampBankBad (c : State) (b : Nat) : Bad :=
  let a := Reg.LMP_BANK_CFG b
  let f := fldGet c a F.LMP_BANK_CFG_FSW
  let ssc := fldGet c a F.LMP_BANK_CFG_SSC
  let d := if ssc = 0 then 0 else 2 ^ ssc
  let floors := (((stringsOf b).filter fun n => fldGet c (Reg.LMP_STR_CFG n) F.LMP_STR_CFG_EN = 1).map
    fun n => fldGet c (Reg.LMP_STR_CFG n) F.LMP_STR_CFG_FLOOR).foldl (· + ·) 0
  firstBad
    [(decide (f * (100 - d) < 1000) || decide (2200 < f * (100 + d)), 159, 0x4000 + b, 3),
      (decide (tPwm c b < 50) || decide (4096 < tPwm c b), 161, 0x4000 + b, 2), (decide (3000 < floors), 173, 0x4100 + 16 * b, 4)]

/-- 5.5 W + 2.0 W + P_floor, in 0.1 mW. -/
def floorPower (c : State) : Nat :=
  let on := (List.range 32).filter fun n => fldGet c (Reg.LMP_STR_CFG n) F.LMP_STR_CFG_EN = 1
  75000 + (on.map fun n => 28 * fldGet c (Reg.LMP_STR_CFG n) F.LMP_STR_CFG_FLOOR + 50).foldl (· + ·) 0 +
    (if fldGet c Reg.LMP_MTX_CFG F.LMP_MTX_CFG_EN = 1 then 3840 * fldGet c Reg.LMP_MTX_CFG F.LMP_MTX_CFG_MFLOOR else 0)

/-- Strings that enabled RGB heads name. -/
def rgbStrings (c : State) : List Nat :=
  ((List.range 8).filter fun h => bitN (regGet c (Reg.LMP_RGB (8 * h))).toNat 31).flatMap fun h => (List.range 3).map (rgbString c h)

def engineBad (c : State) (e : Nat) : Bad :=
  let t := fldGet c (Reg.LMP_SAIL_CFG e) F.LMP_SAIL_CFG_TYPE
  let u := fldGet c (Reg.LMP_SAIL_LVL e) F.LMP_SAIL_LVL_DUTY
  firstBad [((t = 4 && decide (85 < u)) || ((t = 2 || t = 3) && u = 0), 169, 0x4200 + e, 5)]

/-- Sum of the 32 column currents that stand in 8 registers from `base`. -/
def columnSum (c : State) (base : Nat) : Nat := ((regBytes c base 8).map (·.toNat)).foldl (· + ·) 0

def lampBad (c : State) : Bad :=
  firstBad
    [(!noDup (rgbStrings c), 167, 0x4280, 2), (decide (1000 * fldGet c Reg.LMP_PLIMIT F.LMP_PLIMIT_P < floorPower c), 173, 0x4002, 4),
      (decide (1500 < columnSum c (Reg.LMP_MTX_COL 0)), 176, 0x4011, 1)]

def patternBad (c : State) (k : Nat) : Bad := firstBad [(decide (1500 < columnSum c (patternBase k + 512)), 176, 0x4902, k + 1)]

/-! ## ASP -/

/-- Elements of aspect `a`, as their two words. -/
def aspectElements (c : State) (a : Nat) : List (Nat × Nat) :=
  (List.range (descCount c a)).map fun j =>
    ((regGet c (Reg.ASP_ELEMENT (2 * (descFirst c a + j)))).toNat, (regGet c (Reg.ASP_ELEMENT (2 * (descFirst c a + j) + 1))).toNat)

/-- Strings the aspect lights. -/
def aspectLit (c : State) (a : Nat) : List Nat :=
  ((aspectElements c a).filter fun e => e.2 % 65536 ≠ 0 && e.2 / 65536 ≠ 0).map (·.1 % 256)

def elementOk (c : State) (h : Nat) (e : Nat × Nat) : Bool :=
  let s := e.1 % 256
  let eng := e.1 / 256 % 256
  let i := e.2 % 65536
  decide (s < 32) && headHas c h s && (decide (eng < 16) || eng = 31) && e.1 / 2 ^ 24 = 0 && (i = 0 || within 5 i 300)

def aspectBad (c : State) (a : Nat) : Bad :=
  let h := descHead c a
  if h = 0xFF then none
  else
    let fl := descFlags c a
    let n := descCount c a
    let f := descFirst c a
    let mp := descPattern c a
    let es := aspectElements c a
    firstBad
      [(decide (31 < h) || decide (3 < fl) || decide (32 < n) || decide (7 < mp) || (!bitN fl 1 && mp ≠ 0) || decide (1023 < f) ||
          descWord c a 1 / 65536 ≠ 0, 187, 0x4900, 1),
        (decide (1024 < f + n) || !es.all (elementOk c h) || !noDup (es.map (·.1 % 256)), 187, 0x4901, 1),
        (bitN fl 0 && bitN fl 1, 184, 0x4900, 1),
        (bitN fl 0 && (aspectLit c a).any (fun s => !hasFeed c (bankOfString s)), 184, 0x4900, 1)]

/-- Safety-relevant aspects of head `h`. -/
def srAspects (c : State) (h : Nat) : List Nat := (List.range 256).filter fun a => descHead c a = h && safetyRelevant c a

/-- R182 to R184 for head `h`. DESIGN CHOICE (log entry 194): fallback and idle aspect are checked on enabled heads only. -/
def headBad (c : State) (h : Nat) : Bad :=
  let e := 0x4810 + h
  let strs := headStrings c h
  let plain := fun a => descHead c a = h && !safetyRelevant c a
  let fed := ((srAspects c h).flatMap (aspectLit c)).map bankOfString
  firstBad
    [((List.range h).any (fun g => strs.any (headHas c g)), 182, e, 5), (strs.any (strHostOwned c), 182, e, 5),
      (headMtx c h && mtxHostOwned c, 182, e, 2), (headMtx c h && (List.range h).any (headMtx c), 182, e, 2),
      (headEn c h && !plain (fallbackOf c h), 183, e, 3), (headEn c h && !plain (idleOf c h), 183, e, 4),
      (headEn c h && (aspectLit c (fallbackOf c h)).any (fun s => fed.contains (bankOfString s)), 184, e, 3)]

/-- Aspect map entries of an image (R99, R187). -/
def amapBad (c : State) (im : Image) : Bad :=
  firstBad [(im.amap.any (fun v => !headEn c v.2.1 || descHead c v.2.2 ≠ v.2.1), 187, 0x4900, 1)]

/-! ## ROPE, ADC and counters -/

def ropeBad (c : State) : Bad :=
  let f := fun x => fldGet c Reg.ROPE_CFG x
  firstBad
    [(decide (1 < f F.ROPE_CFG_TOPO), 211, 0x1100, 2), (f F.ROPE_CFG_STBY = 1 && !inRing c, 226, 0x1100, 4),
      (decide (f F.ROPE_CFG_HMAX < f F.ROPE_CFG_HLIM), 234, 0x1100, 7), (decide (31250 < safeWindowNs c), 218, 0x1100, 6)]

/-- Proving or current diagnostics with fewer than two usable cores (R26). -/
def coresBad (c : State) : Bad :=
  let few := decide ((supvSet c).length < 2)
  (firstBad [(few && fldGet c Reg.SOUT_CFG F.SOUT_CFG_IDIAG = 1, 26, 0x3400, 2)]).or
    (anyBad 32 fun h => firstBad [(few && headProves c h, 26, 0x4810 + h, 1)])

/-- Two enabled counters share a bit (R407). -/
def countersBad (c : State) : Bad :=
  let on := fun k => decide (2 ^ 31 ≤ odoWord c k)
  let laps := fun j k => decide (odoFirst c j < odoFirst c k + odoLen c k) && decide (odoFirst c k < odoFirst c j + odoLen c j)
  firstBad [((List.range 4).any (fun j => (List.range j).any fun k => on j && on k && laps j k), 407, 0x900F, 1)]

/-! ## All of them -/

/-- The checks that have nothing to do with the image, in the order of the chapters. -/
def configBad (c : State) : Bad :=
  (anyBad 64 (pairBad c)).or <| (anyBad 16 (sourceBad c)).or <| (anyBad 24 (channelBad c)).or <| (anyBad 12 (belayPairBad c)).or <|
    (belayBad c).or <| (anyBad 2 (lampBankBad c)).or <| (lampBad c).or <| (anyBad 16 (engineBad c)).or <| (anyBad 8 (patternBad c)).or <|
    (anyBad 32 (headBad c)).or <| (anyBad 256 (aspectBad c)).or <| (ropeBad c).or <| (coresBad c).or <| countersBad c

/-- Bypass channels that the output map of an image enables (R153). -/
def bypassMapBad (c : State) (im : Image) : Bad :=
  anyBad 24 fun k => firstBad [(chRole c k = 3 && (im.omap.getD k (0, false)).2, 153, 0x3410 + k, 2)]

/-- The checks over the present configuration and the running image. -/
def liveBad (c : State) : Bad :=
  (configBad c).or
    (if c.sle.hasImage then
       (anyBad 64 (curtainBad c (runImage c))).or <| (amapBad c (runImage c)).or <| bypassMapBad c (runImage c)
     else none)

/-- Image verification in a pair (R244, R250): byte offset of the failure. -/
def pairImageBad (c : State) (im : Image) : Option (Nat × Nat) :=
  if !pairMember c then none
  else if decide (10000 * im.scan < im.cyc0 + 1200) || decide (10000 * im.scan < im.cyc1 + 1200) then some (250, 0x0C)
  else if (List.range 12).any (fun k =>
      (chMode c (2 * k) = 3 || chMode c (2 * k) = 4) &&
        (let x := im.omap.getD (2 * k) (0, false)
         let y := im.omap.getD (2 * k + 1) (0, false)
         !x.2 || !y.2 || x.1 ≠ y.1)) then some (244, 64 + 16 * (im.blocks0.length + im.blocks1.length))
  else none

/-- The whole verification of an image under the configuration of `c` (R100, R153, R187, R244, R250): failing check and byte offset
or entry. -/
def imageBad (c : State) (bs : List Byte) : Option (Nat × Nat) :=
  (verifyImage c bs).or <|
    ((pairImageBad c (parseImage bs)).map fun p => ((Config.checkNumber p.1).toNat, p.2)).or <|
    ((amapBad c (parseImage bs)).or (bypassMapBad c (parseImage bs))).map fun b => ((Config.checkNumber b.1).toNat, b.2.1 * 65536 + b.2.2)

end Sys2Proof.Machine
end

