-- ==== Sys2Proof/Machine/OdApply.lean ====
section
/-!
DEFINITION. Writing entries of the object dictionary: what refuses a value (R269, R270 and the block rules), what a value changes when it
applies (R272, R285), and the configuration a slot body describes (R290, R292).
-/
namespace Sys2Proof.Machine

/-- An entry write: index, subindex, value. -/
abbrev Item := Nat × Nat × List Byte

/-! ## What refuses a value -/

/-- Strings with class L entries are host-owned; so is every string an engine is attached to; so is the matrix (R166, R181). -/
def lampOwned (s : State) (r : OdRef) : Bool :=
  if r.row.idx = 0x4100 then r.row.cls ≠ 1 || strHostOwned s r.i
  else if r.row.idx = 0x4200 then !engineClosed s r.i
  else if r.row.idx = 0x4011 || r.row.idx = 0x4012 then mtxHostOwned s
  else true

/-- Column currents of a matrix pattern lie in 0–60 mA (R209). -/
def patternOk (r : OdRef) (v : List Byte) : Bool := r.row.idx ≠ 0x4902 || (v.drop 512).all fun b => decide (b.toNat ≤ 60)

/-- Ranges that depend on the place of the entry or on other entries: ILV on even cores (R341), PHASE up to PERIOD (R354), an
operational aspect of the head (R190), the length of a download (R298). -/
def placeOk (s : State) (r : OdRef) (v : List Byte) : Bool :=
  if r.index = r.row.idx + r.i && r.row.idx = 0x5010 && r.sub = 4 then r.i % 2 = 0 || ofLe v = 0
  else if r.row.idx = 0x5810 && r.sub = 7 then decide (ofLe v ≤ tmrPeriod s r.i)
  else if r.row.idx = 0x4810 && r.sub = 6 then selectable s r.i (ofLe v)
  else if r.row.idx = 0x1F01 then decide (64 ≤ v.length)
  else true

/-- Status with which a write of `v` to the entry is refused; 0: none. -/
def valueStatus (s : State) (r : OdRef) (v : List Byte) : Nat :=
  if r.row.acc < 2 then 0x0102
  else if !odLenOk r.row v then 0x0103
  else if decide (r.row.typ < 8) && !inRange r.row.range (odInt r.row v) then 0x0104
  else if !patternOk r v then 0x0104
  else if !lampOwned s r then 0x0102
  else if !placeOk s r v then 0x0104
  else 0

/-! ## Registers behind entries -/

/-- The register at `a` with field `f` at what `v` stands for. -/
def backWord (s : State) (r : OdRow) (a : Nat) (f : Fld) (off mul : Nat) (v : List Byte) : Word :=
  setF (regGet s a) f (toRaw f off mul (odInt r v))

/-- The columns of the matrix: column `c` in byte `c % 4` of its register. -/
def setColumn (s : State) (c : Nat) (v : Nat) : State := fldSet s (Reg.LMP_MTX_COL (c / 4)) ⟨8 * (c % 4) + 7, 8 * (c % 4)⟩ v

/-- The value goes into the registers behind the entry, with nothing else: a configuration value, or a staged run value. -/
def storeItem (s : State) (it : Item) : State :=
  match odFind it.1 it.2.1 with
  | none => s
  | some r =>
    match r.row.back with
    | .fld base si sj f fj off mul _ _ =>
      if r.index = 0x2030 then s
      else
        let (a, g) := backFld base si sj f fj r
        regSet s a (backWord s r.row a g off mul it.2.2)
    | .num .column => setColumn s r.j (ofLe it.2.2)
    | .num .tConfirm => { s with slots := { s.slots with tConfirm := ofLe it.2.2 } }
    | .blob .dots => setRegBytes s (Reg.LMP_MTX_DOT 0) it.2.2
    | .blob .aspects => setRegBytes s (Reg.ASP_ASPECT 0) it.2.2
    | .blob .elements => setRegBytes s (Reg.ASP_ELEMENT 0) it.2.2
    | .blob .pattern => setRegBytes s (patternBase r.j) it.2.2
    | _ => s

def storeItems (s : State) (l : List Item) : State := l.foldl storeItem s

/-- The index of an item is one of the tables the management pair holds (R209). -/
def isTable (it : Item) : Bool := it.1 = 0x4900 || it.1 = 0x4901 || it.1 = 0x4902

/-- Values the management pair holds, as items. -/
def heldItems (s : State) : List Item := s.od.vals.map fun p => (p.1 / 256, p.1 % 256, p.2)

/-- The state the configuration checks look at: present values, held tables and the items (R283). -/
def candidate (s : State) (l : List Item) : State := storeItems (storeItems s (heldItems s)) l

/-! ## After a configuration has changed -/

/-- `ASP_HEAD_CFGh.SR` follows the aspect table (R184). -/
def syncSr (s : State) : State :=
  (List.range 32).foldl (fun t h => fldSet t (Reg.ASP_HEAD_CFG h) F.ASP_HEAD_CFG_SR (b2n (srAspects t h ≠ []))) s

/-- A Belay member starts in SEARCH, and a device that is none is OFF (R255, R256). -/
def pairInit (s : State) : State :=
  if pairMember s then (if pstate s = 0 then setPstate { s with bly := { s.bly with quiet := s.tb } } 1 else s)
  else if pstate s = 0 then s else setPstate s 0

/-- The blocks take up their settings: supervision set, pair state, safety-relevant heads, aspects, conditions of the guarantee. -/
def configChanged (s : State) : State := guarCheck (restage (syncSr (pairInit (supvSync s))) (s.tb + 1))

/-- A lamp stage restarts (R285). -/
def restartStage (s : State) (n : Nat) : State :=
  regSet (strSet s n { strSet0 s n with dirty := (strGet s n).dirty }) (Reg.LMP_STR_ACT n) 0
where
  strSet0 (_ : State) (_ : Nat) : StrSt := strSt0

/-- A Rope port restarts (R285): its queue is empty, and its link comes up anew. -/
def restartPort (s : State) (p : Nat) : State :=
  let a := Reg.ROPE_PORT_STAT p
  portSet (fldSet (fldSet (fldSet s a F.ROPE_PORT_STAT_LINK 0) a F.ROPE_PORT_STAT_ALIVE 0) a F.ROPE_PORT_STAT_BROKEN 0) p portSt0

/-- Stages a changed item touches. -/
def touchedStages (it : Item) : List Nat :=
  if 0x4100 ≤ it.1 && decide (it.1 < 0x4120) && decide (it.2.1 ≤ 5) then [it.1 - 0x4100]
  else if it.1 = 0x4000 || it.1 = 0x4001 then stringsOf (it.1 - 0x4000)
  else []

/-- Ports a changed item touches: the node number and AN concern all, the ring and standby settings the ring ports, P2EN port
2. -/
def touchedPorts (it : Item) : List Nat :=
  if it.1 = 0x1100 then
    (if it.2.1 = 1 || it.2.1 = 9 then [0, 1, 2]
     else if it.2.1 = 2 || it.2.1 = 4 || it.2.1 = 5 then [0, 1]
     else if it.2.1 = 3 then [2]
     else [])
  else if 0x1102 ≤ it.1 && decide (it.1 < 0x1105) then [it.1 - 0x1102]
  else []

/-- Lamp stages and Rope ports touched by the items restart from their new settings (R285). -/
def restartTouched (s : State) (l : List Item) : State :=
  let st := (l.flatMap touchedStages).eraseDups
  let ps := (l.flatMap touchedPorts).eraseDups
  let s1 := ps.foldl restartPort (st.foldl restartStage s)
  let s2 := if l.any (fun it => it.1 = 0x1100 && decide (it.2.1 ≠ 9) && (touchedPorts it).contains 0) then standbyInit s1 else s1
  if l.any (fun it => it.1 = 0x4010) then
    { s2 with lmp := { s2.lmp with mtx := [], mtxNext := [], mtxFrame := none, mtxLine := 0, dotFail := [] } }
  else s2

/-! ## Class L (R272) -/

/-- Staged values are marked for the boundaries after this one. -/
def markItem (s : State) (it : Item) : State :=
  if 0x4100 ≤ it.1 && decide (it.1 < 0x4120) then applyString s (it.1 - 0x4100)
  else if 0x4200 ≤ it.1 && decide (it.1 < 0x4210) then markEngine s (it.1 - 0x4200) (s.tb + 1)
  else if it.1 = 0x4011 || it.1 = 0x4012 then matrixApply s
  else s

/-- Class L entries of a set: written into staging, then marked; an operational aspect is staged only. -/
def applyLamp (s : State) (l : List Item) : State :=
  let put := fun (t : State) (it : Item) =>
    if 0x4810 ≤ it.1 && decide (it.1 < 0x4830) then (headSelect t (it.1 - 0x4810) (ofLe it.2.2 % 256)).getD t
    else storeItem (if 0x4200 ≤ it.1 && decide (it.1 < 0x4210) then dirtyEngine t (it.1 - 0x4200) else t) it
  l.foldl markItem (l.foldl put s)

/-- What the items stage has been latched. -/
def latched (s : State) (it : Item) : Bool :=
  if 0x4100 ≤ it.1 && decide (it.1 < 0x4120) then (strGet s (it.1 - 0x4100)).next = []
  else if 0x4200 ≤ it.1 && decide (it.1 < 0x4210) then !s.lmp.engNext.any fun m => m.1 % 16 = it.1 - 0x4200
  else if it.1 = 0x4011 || it.1 = 0x4012 then s.lmp.mtxNext = []
  else true

/-! ## Class C through registers -/

/-- Status of a write that the block refuses with a bus error. -/
def refusedStatus (s : State) (r : OdRef) : Nat := if r.row.idx = 0x5010 && adcHeld s r.i then 0x0102 else 0x0105

/-- Entries of a running core or timer that are refused (R341, R354). -/
def runningRefuses (s : State) (r : OdRef) : Bool :=
  (r.row.idx = 0x5010 && adcEn s r.i && r.sub ≠ 1 && !adcHeld s r.i) ||
    (r.row.idx = 0x5810 && tmrEn s r.i && [2, 3, 4, 7, 8, 9, 0xA].contains r.sub)

/-- Register writes one after the other. -/
def regWrites (s : State) : List (Nat × Word) → Option State
  | [] => some s
  | (a, w) :: t => (regWrite (ungate s a) .mgmt a w).bind fun s1 => regWrites s1 t

/-- The register writes a class C value stands for. -/
def itemWrites (s : State) (r : OdRef) (v : List Byte) : List (Nat × Word) :=
  match r.row.back with
  | .fld base si sj f fj off mul _ _ =>
    let (a, g) := backFld base si sj f fj r
    [(a, backWord s r.row a g off mul v)]
  | .pair base => [(base, BitVec.ofNat 32 (ofLe v)), (base + 4, BitVec.ofNat 32 (ofLe v / 2 ^ 32))]
  | .blob .loopTable => (List.range 128).zip (bytesToWords 128 v) |>.map fun p => (Reg.ADC_LOOP_A r.i 0 + 4 * p.1, p.2)
  | .blob .stepTable => (List.range 16).zip (bytesToWords 16 v) |>.map fun p => (Reg.ADC_STEP r.i 0 + 4 * p.1, p.2)
  | _ => []

/-- A class C write through the registers of its block: status and state. -/
def registerItem (s : State) (r : OdRef) (v : List Byte) : Nat × State :=
  if runningRefuses s r then (0x0105, s)
  else match regWrites s (itemWrites s r v) with
    | some t => (0, t)
    | none => (refusedStatus s r, s)

/-! ## The configuration of a slot (R290, R292) -/

/-- The configuration of `s` at its defaults. -/
def defaultConfig (s : State) : State :=
  { s with
    regs := s.regs.filter fun p => !isConfigReg p.1 || (Reg.SLE_IMG_CTRL ≤ p.1 && decide (p.1 ≤ Reg.SLE_IMG_LEN))
    slots := { s.slots with tConfirm := 120 } }

/-- What a slot body holds. -/
structure SlotParts where
  image : List Byte
  items : List Item
  tables : List Item
  patch : Option (List Byte)

/-- The tables of sections 3 to 5; none: a section of the wrong length. -/
def slotTables (body : List Byte) : Option (List Item) :=
  let one := fun (id idx n : Nat) => match sectionOf body id with
    | none => some []
    | some v => if v.length = n then some [((idx, 1, v) : Item)] else none
  match one 3 0x4900 2048, one 4 0x4901 8192, sectionOf body 5 with
  | some a, some e, none => some (a ++ e)
  | some a, some e, some p =>
    if p.length = 4352 then some (a ++ e ++ (List.range 8).map fun k => (0x4902, k + 1, (p.drop (544 * k)).take 544)) else none
  | _, _, _ => none

/-- The parts of a body; none: it does not keep R290. -/
def slotParts (body : List Byte) : Option SlotParts :=
  if !sectionsOk body then none
  else match sectionOf body 1, sectionOf body 2, slotTables body with
  | some im, some ps, some tb =>
    (params ps.length ps).map fun l => ⟨im, l, tb, sectionOf body 7⟩
  | _, _, _ => none

/-- A parameter record holds RWS entries and start values of RW entries (R290), each within its range (R209, R292). -/
def paramBad (it : Item) : Bool :=
  match odFind it.1 it.2.1 with
  | none => true
  | some r =>
    !(r.row.acc = 2 || r.row.acc = 4) || !odLenOk r.row it.2.2 || (decide (r.row.typ < 8) && !inRange r.row.range (odInt r.row it.2.2)) ||
      !patternOk r it.2.2

/-- Is the item an RWS entry? -/
def isRws (it : Item) : Bool := (odFind it.1 it.2.1).any fun r => r.row.acc = 4
def isClassL (it : Item) : Bool := (odFind it.1 it.2.1).any fun r => r.row.cls = 1

/-- `0x2030:01` as a slot carries it: here the recovery limit takes effect (R130). -/
def storeSealed (s : State) (it : Item) : State :=
  if it.1 = 0x2030 then fldSet s Reg.SLE_CFG F.SLE_CFG_RLIM (ofLe it.2.2) else storeItem s it

/-- The configuration the parts describe, with nothing started. -/
def slotConfig (s : State) (p : SlotParts) : State := (p.items.filter isRws ++ p.tables).foldl storeSealed (defaultConfig s)

/-- The checks as CONFIG_REFUSED reports them: check number, and byte offset or entry. -/
def slotBad (s : State) (body : List Byte) : Option (Nat × Nat) :=
  match slotParts body with
  | none => some ((Config.checkNumber 290).toNat, 0)
  | some p =>
    match (p.items ++ p.tables).find? paramBad with
    | some it => some ((Config.checkNumber 292).toNat, it.1 * 65536 + it.2.1)
    | none =>
      let c := p.items.foldl storeSealed (slotConfig s p)
      match configBad c with
      | some b => some ((Config.checkNumber b.1).toNat, b.2.1 * 65536 + b.2.2)
      | none => imageBad c p.image

/-- A start value of an RW entry. -/
def startValue (s : State) (it : Item) : State :=
  match odFind it.1 it.2.1 with
  | none => s
  | some r =>
    if r.row.acc = 4 then s
    else if r.row.cls = 1 then applyLamp s [it]
    else match r.row.back with
      | .num .blkSel => { s with od := { s.od with blkSel := ofLe it.2.2 } }
      | .num .selector => { s with jrn := { s.jrn with selector := ofLe it.2.2 } }
      | _ => (registerItem s r it.2.2).2

/-- Parameter record and tables of a body are applied (R290, R294). -/
def applySlot (s : State) (p : SlotParts) : State :=
  let s1 := slotConfig { s with od := { s.od with vals := [] } } p
  p.items.foldl startValue (configChanged (standbyInit s1))

end Sys2Proof.Machine
end

