-- ==== Sys2Proof/Machine/Commit.lean ====
section
/-!
DEFINITION. The commissioning handshake (R287, R288, R294 to R297), the confirmation by `COMMISSION_N` (R295, R264, R390), and the
loading and swap of the image a commit carries.
-/
namespace Sys2Proof.Machine

/-! ## Start and cancel -/

/-- Downloading and committing are accepted in these states (R294). -/
def commitStates (s : State) : Bool := servesWrites s && (s.dev = .safeStopped || s.dev = .run || s.dev = .degraded)

/-- SLOT_COMMIT (R294, R296): a write of 1 to `0x1F02:01`; none: ERR_STATE. -/
def slotCommit (s : State) : Option State := if commitStates s && !committing s then some (startCommit s false) else none

/-- SLOT_CANCEL (R296): a write of 2; none: ERR_STATE. A slot cancelled in CONFIRM stays torn. -/
def slotCancel (s : State) : Option State :=
  if servesWrites s && (s.slots.commit = 1 || s.slots.commit = 3) then
    let s1 := setCommit { s with slots := { s.slots with window := none } } 0
    some { s1 with slots := { s1.slots with adopt := false, trialImage := false }, bly := { s1.bly with adopting := false } }
  else none

/-! ## CHECK -/

/-- SEQ is newer than the booted slot and than the other slot if that one is intact; not checked without a booted slot or in an
adoption (R294). -/
def seqOk (s : State) (seq : Nat) : Bool :=
  s.slots.booted = 255 || s.slots.adopt ||
    (serialNewer seq s.slots.seq &&
      (let o := 1 - s.slots.booted
       !slotIntact s o || serialNewer seq (hdrSeq (slotBytes s o))))

/-- The status with which CHECK fails; 0: the slot passes. -/
def checkStatus (s : State) : Nat :=
  let b := s.slots.buf
  if !hdrMatches slotMagic b || !lenOk b || b.length ≠ 64 + hdrLen b then 0x0204
  else if !bodyCrcOk b then 0x0202
  else if !sealOk s.otp.key b then 0x0201
  else if !seqOk s (hdrSeq b) then 0x0203
  else if (slotBad s (slotBody b)).isSome then 0x0107
  else 0

/-- WRITE begins: the slot not booted is erased (R294). -/
def enterWrite (s : State) : State :=
  let k := freeSlot s
  setCommit (showSlots (setSlotBytes { s with slots := { s.slots with target := k } } k [])) 2

/-- A refused configuration is journaled as CONFIG_REFUSED (R292). -/
def logRefused (s : State) (r : Option (Nat × Nat)) : State :=
  match r with
  | some (c, o) => log s 0x2001 c o 0
  | none => s

/-- CHECK_DONE (R294). -/
def checkDone (s : State) : State :=
  if s.slots.commit = 1 then
    let st := checkStatus s
    if st = 0 then enterWrite s
    else failCommit (if st = 0x0107 then logRefused s (slotBad s (slotBody s.slots.buf)) else s) st
  else s

/-! ## WRITE and FINAL -/

/-- Body and header with VALID left erased. -/
def withoutValid (bs : List Byte) : List Byte := bs.take 0x3C ++ List.replicate 4 0xFF#8 ++ bs.drop 64

/-- VALID programmed. -/
def withValid (bs : List Byte) : List Byte := bs.take 0x3C ++ leBytes 4 0x5AC33CA5 ++ bs.drop 64

/-- The confirmation of an adoption, given in ADOPT_WAIT, stands for CONFIRM (R297). -/
def toConfirm (s : State) : State := if s.slots.adopt then confirmCommit (enterConfirm s) else enterConfirm s

/-- WRITE_DONE (R294): `ok` says whether the read-back matches BODY_CRC; where it does not, `left` is what the slot holds. -/
def writeDone (s : State) (ok : Bool) (left : List Byte) : State :=
  if s.slots.commit = 2 then
    if ok then toConfirm (showSlots (setSlotBytes s (targetSlot s) (withoutValid s.slots.buf)))
    else failCommit (showSlots (setSlotBytes s (targetSlot s) left)) 0x0205
  else s

/-- CONFIRM_TIMEOUT (R294). -/
def confirmTimeout (s : State) : State :=
  match s.slots.window with
  | some t => if s.slots.commit = 3 && decide (confirmEnd s t < s.tb) then failCommit s 0x0206 else s
  | none => s

/-- The function image of the slot in the buffer. -/
def bufImage (s : State) : List Byte := (sectionOf (slotBody s.slots.buf) 1).getD []

/-- FINAL_DONE (R294): VALID is programmed and read back, and the image is loaded. -/
def finalDone (s : State) (ok : Bool) : State :=
  if s.slots.commit = 4 && !s.slots.trialImage then
    if ok then
      let k := targetSlot s
      firmwareLoad (showSlots (setSlotBytes s k (withValid (slotBytes s k)))) (bufImage s)
    else failCommit s 0x0205
  else s

/-! ## The confirmation (R295) -/

/-- A hold of 1 s to 5 s, in 10 ns. -/
def holdOk (hold : Nat) : Bool := decide (100000000 ≤ hold) && decide (hold ≤ 500000000)

def countOutside (s : State) : State := { s with slots := { s.slots with outside := satAdd 16 s.slots.outside 1 } }
def countRejected (s : State) : State := { s with slots := { s.slots with rejected := satAdd 16 s.slots.rejected 1 } }

/-- The life-cycle request that waits is answered with `status`. -/
def lcAnswer (s : State) (status : Nat) : State :=
  let s1 := { s with od := { s.od with lcReq := none } }
  match txnOf s1 0 with
  | some x =>
    if x.sent then s1
    else odAnswer s1 0 x.txn false
      (odResponse 2 x.txn 0xA001 1 status 0 (if status = 0 then 0 else 0xA001 * 65536 + 1) [])
  | none => s1

/-- A confirmed life-cycle request is programmed (R390). -/
def lcConfirm (s : State) : State :=
  match s.od.lcReq with
  | some (t, _) =>
    let s1 := lcAnswer s 0
    { s1 with otp := { s1.otp with lcProg := some t } }
  | none => s

/-- The hold of `hold` ticks that ends now began at `t` or later. -/
def heldSince (s : State) (hold t : Nat) : Bool := decide (t + hold ≤ s.tb)

/-- A life-cycle request waits for a confirmation by a hold of `hold` ticks (R390). -/
def lcWaits (s : State) (hold : Nat) : Bool :=
  match s.od.lcReq with
  | some (_, t) => heldSince s hold t && decide (s.tb ≤ t + 6000000000)
  | none => false

/-- COMMISSION_PRESS (R295): the filtered rise of the pin after `hold` ticks low. A hold that began before CONFIRM (ADOPT_WAIT, the
life-cycle request) is a press outside it. -/
def commissionPress (s : State) (hold : Nat) : State :=
  if s.slots.needHigh then { s with slots := { s.slots with needHigh := false } }
  else if !started s.dev then s
  else if s.slots.commit = 3 && (match s.slots.window with
      | some t => heldSince s hold t && decide (s.tb ≤ confirmEnd s t)
      | none => false) then
    (if holdOk hold then confirmCommit s else countRejected s)
  else if pstate s = 6 && !committing s && !s.bly.adopting && heldSince s hold s.bly.waitFrom then
    (if holdOk hold then adoptConfirm s else countRejected s)
  else if lcWaits s hold && holdOk hold then lcConfirm s
  else countOutside s

/-- LC_CONFIRM_TIMEOUT (R390). -/
def lcTimeout (s : State) : State :=
  match s.od.lcReq with
  | some (_, t) => if t + 6000000000 < s.tb then lcAnswer s 0x0206 else s
  | none => s

/-! ## Trial values (R287, R288) -/

/-- TRIAL_IMAGE: a trial function image is verified and its load starts. -/
def trialImage (s : State) (bs : List Byte) : State :=
  let s1 := { s with
    trial := true
    slots := { s.slots with buf := bs, trialImage := true, trialCrc := leAt bs (bs.length - 4) 4, adopt := false, result := 0 } }
  match imageBad s1 bs with
  | some r => failCommit (logRefused s1 (some r)) 0x0107
  | none => firmwareLoad { s1 with slots := { s1.slots with trialLoad := true } } bs

/-- A trial image may be written now (R270, R296). -/
def trialImageOpen (s : State) : Bool := servesWrites s && s.dev = .safeStopped && !committing s && !s.sle.loading

/-- TRIAL_REVERT (R287): the restore is requested; none: ERR_STATE. -/
def trialRevert (s : State) : Option State := if servesWrites s then some { s with od := { s.od with revert := true } } else none

/-- The parts of the booted slot. -/
def bootedParts (s : State) : Option SlotParts :=
  if s.slots.booted < 2 then slotParts (slotBody (slotBytes s s.slots.booted)) else none

/-- The image of the booted slot replaces a trial image: the loader copies it into the inactive bank, and the swap follows (R124,
R125, R287); none booted: no image is left. -/
def restoreImage (s : State) (p : Option SlotParts) : State :=
  match p with
  | some v =>
    if s.sle.hasImage && activeBank s = v.image then s
    else
      let s1 := firmwareLoad s v.image
      { s1 with sle := { s1.sle with restore := true } }
  | none =>
    if s.sle.hasImage then
      { s with sle := { s.sle with hasImage := false, res := none, recov := none, cairn := [], older := [], halted := false,
                                   swapPend := false } }
    else s

/-- Switching the background self-test on begins a cycle (R385). -/
def bgSettled (s0 s : State) : State :=
  if fldGet s Reg.BIST_BG_CFG F.BIST_BG_CFG_EN = 1 && fldGet s0 Reg.BIST_BG_CFG F.BIST_BG_CFG_EN = 0 then
    { s with ports := { s.ports with bgRan := [], bgStart := s.tb } }
  else s

/-- What new settings start: the sources (R47, R48) and the background self-test. -/
def settled (s0 s : State) : State := bgSettled s0 (tpSettled s0 s)

/-- The RWS values and the tables are those of the booted slot, or the defaults. -/
def restoreValues (s : State) (p : Option SlotParts) : State :=
  let s1 := { s with od := { s.od with vals := [], revert := false }, trial := false }
  configChanged (standbyInit (settled s (match p with
    | some v => slotConfig s1 v
    | none => defaultConfig s1)))

/-- TRIAL_RESTORE (R287): at the next scan boundary. -/
def trialRestore (s : State) : State :=
  if s.od.revert && atBoundary s && s.sle.recov = none && s.dev ≠ .faulted && servesWrites s && !s.sle.loading then
    restoreImage (restoreValues s (bootedParts s)) (bootedParts s)
  else s

/-! ## Load and swap -/

/-- The swap of a committed slot is requested; in a pair the leader waits for the follower's report (R294, R297). -/
def requestCommitSwap (s : State) : State :=
  if verifyImage s (inactiveBank s) ≠ none then failCommit s 0x0205
  else
    let s1 := fldSet { s with sle := { s.sle with swapPend := true } } Reg.SLE_IMG_STAT F.SLE_IMG_STAT_SWAP_PEND 1
    if pstate s = 2 && isLeader s then { s1 with bly := { s1.bly with swapWait := some s.tb } } else s1

/-- The load of a trial image has ended (R288). DESIGN CHOICE (log entry 205): a slot commit that was started during the load and is still in
CHECK gives way; one in WRITE, CONFIRM or FINAL, or an adoption, goes on, and the trial image stays unused. -/
def trialLoaded (s : State) (matched : Bool) : State :=
  let s1 := { s with slots := { s.slots with trialLoad := false } }
  if s1.slots.commit = 2 || s1.slots.commit = 3 || s1.slots.commit = 4 || s1.slots.adopt then s1
  else
    let s2 := { s1 with slots := { s1.slots with trialImage := true, adopt := false, result := 0 } }
    if matched then enterConfirm s2 else failCommit s2 0x0107

/-- LOAD_COMPLETE (R124, R288, R294). -/
def loadComplete (s : State) (equal : Bool) : State :=
  if !s.sle.loading then s
  else
    let s0 := loadDone s equal
    let s1 := { s0 with sle := { s0.sle with restore := false } }
    let matched := decide (fldGet s1 Reg.SLE_IMG_STAT F.SLE_IMG_STAT_RESULT = 2)
    if s.sle.restore then (if matched then swapRequest s1 true else s1)
    else if s1.slots.trialLoad && s1.trial then trialLoaded s1 matched
    else if s1.slots.commit = 4 && !s1.slots.trialImage then (if matched then requestCommitSwap s1 else failCommit s1 0x0205)
    else s1

/-- The first 64 KiB sector of slot `k` is erased. -/
def eraseFirst (s : State) (k : Nat) : State :=
  let n := (slotBytes s k).length
  setSlotBytes s k (if n ≤ 0x10000 then [] else List.replicate 0x10000 0xFF#8 ++ (slotBytes s k).drop 0x10000)

/-- After the DONE of an adoption the adopted slot is the only intact one, and N sends HELLO again (R264). -/
def adoptDone (s : State) (k : Nat) : State :=
  if s.slots.adopt then
    let s1 := showSlots (eraseFirst s (1 - k))
    sendHello (setPstate { s1 with slots := { s1.slots with adopt := false }, bly := { s1.bly with adopting := false } } 1)
  else s

/-- DONE (R294): the parameter record and the tables are applied, TRIAL clears, and the new slot is the booted slot. -/
def commitDoneSlot (s : State) : State :=
  let k := targetSlot s
  let s1 := match slotParts (slotBody s.slots.buf) with
    | some p => settled s (applySlot s p)
    | none => s
  let s2 := { s1 with
    trial := false
    slots := { s1.slots with booted := k, crc := hdrCrc s.slots.buf, seq := hdrSeq s.slots.buf } }
  adoptDone (setCommit s2 5) k

/-- What follows a swap. -/
def afterSwap (s : State) : State :=
  if s.slots.commit = 4 then
    (if s.slots.trialImage then
       (let s1 := setCommit s 5
        { s1 with slots := { s1.slots with trialImage := false } })
     else commitDoneSlot s)
  else s

/-- IMAGE_SWAP (R125, R254): a pair swaps at the scan start that the leader has named. -/
def imageSwap (s : State) : State :=
  let due := if pstate s = 2 then
      (match s.bly.swapAt with
       | some t => decide (t ≤ s.tb)
       | none => false)
    else true
  if s.sle.swapPend && atBoundary s && due then
    if s.sle.recov = none then
      let s1 := swapNow s
      if s1.sle.swapPend then s1 else afterSwap { s1 with bly := { s1.bly with swapAt := none } }
    else if pstate s = 2 then safeStop s 0x6003
    else s
  else s

end Sys2Proof.Machine
end

