-- ==== Sys2Proof/Machine/Od.lean ====
section
/-!
DEFINITION. The object service (R268 to R288): serving requests, live changes and their application, life-cycle requests (R390), the
responses a new leader repeats (R318).
-/
namespace Sys2Proof.Machine

/-! ## READ and DESCRIBE (R274) -/

/-- The largest data length of a message. -/
def dataMax : Nat := 212

/-- The value of an entry as READ sees it, or the status that refuses it (R270, R298). -/
def readValue (s : State) (r : OdRef) : Nat × List Byte :=
  if r.row.acc = 3 || (r.row.idx = 0x9000 && r.i = 2 && r.sub = 1) then (0x0102, []) else odValue s r

def odRead (s : State) (index sub ofs : Nat) : Served :=
  match odFind index sub with
  | none => say s (resErr 0x0101 index sub)
  | some r =>
    let (st, v) := readValue s r
    if st ≠ 0 then say s (resErr st index sub)
    else if ofs ≠ 0 && decide (v.length ≤ ofs) then say s (resErr 0x010A index sub)
    else
      say (odReadEffect s r) ⟨0, if v.length ≤ ofs + dataMax then 2 else 0, ofs, (v.drop ofs).take dataMax⟩

def odDescribeReq (s : State) (index sub : Nat) : Served :=
  match odFind index sub with
  | none => say s (resErr 0x0101 index sub)
  | some r => say s ⟨0, 0, 0, odDescribe r⟩

/-! ## Accepting class S and class L entries (R283 to R285) -/

/-- t_PWM of the LED bank of a string. -/
def stringBank (it : Item) : Option Nat :=
  if 0x4100 ≤ it.1 && decide (it.1 < 0x4120) then some ((it.1 - 0x4100) / 16) else none

def touchesMatrix (it : Item) : Bool := it.1 = 0x4011 || it.1 = 0x4012

/-- A set in atomic mode takes effect at one instant (R284). -/
def atomicOk (s : State) (l : List Item) : Bool :=
  l.all (fun it => !isClassL it) ||
    (l.all isClassL && !l.any touchesMatrix &&
      ((l.filterMap stringBank).all fun b => decide (tPwm s b = tPwm s ((l.filterMap stringBank).headD b)))) ||
    l.all touchesMatrix

/-- The quota of R314 for writes and sets is full. -/
def quotaFull (s : State) : Bool := decide (16 ≤ ledgerOd s)
def countQuota (s : State) : State := { s with od := { s.od with quotaFull := satAdd 16 s.od.quotaFull 1 } }

/-- A refused check is journaled where its rule says so (R44). -/
def logCheck (s : State) (b : Nat × Nat × Nat) : State :=
  if b.1 = 44 then log s 0x2001 (Config.checkNumber 44).toNat (b.2.1 * 65536 + b.2.2) 0 else s

/-- An accepted write or set waits for its boundary, from the completion of its request (R285). -/
def acceptSet (s : State) (q : OdReq) (op mode : Nat) (items : List Item) : Served :=
  let index := odIndex q.msg
  let sub := odSub q.msg
  let first := items.headD (index, sub, [])
  if mode = 0 && !atomicOk s items then say s (resErr 0x0106 first.1 first.2.1)
  else match liveBad (candidate s items) with
  | some b => say (logCheck s b) (resErr 0x0107 b.2.1 b.2.2)
  | none =>
    ({ s with od := { s.od with
        waits := s.od.waits ++ [⟨q.src, odTxn q.msg, op, index, sub, mode, items, q.at_, q.cast, none⟩] } }, none)

/-! ## Class C (R272) -/

/-- Conditions of a life-cycle transition beside the state of the device (R390). -/
def lcCondition (s : State) (target : Nat) : Bool :=
  let c := lcState s
  if target = 5 then true
  else if target = 4 then c = 1 || c = 2 || c = 3
  else if target = 3 then c = 2
  else if target = 2 then
    c = 1 && crcGood s 2 && wlocked s 2 && rlocked s 2 && [0, 1, 3, 4, 5, 6, 7].all (wlocked s)
  else false

/-- LC_REQUEST (R390, R403): status, and the state in which it waits for its confirmation. -/
def lcRequest (s : State) (mail : Bool) (target : Nat) : Nat × State :=
  if !mail || decide (target ≤ lcState s) then (0x0102, s)
  else if s.dev ≠ .safeStopped || s.kill.scan || s.ports.scanUsed || s.otp.cmd.isSome || s.otp.lcProg.isSome || s.od.lcReq.isSome ||
      !lcCondition s target then (0x0105, s)
  else (0, { s with od := { s.od with lcReq := some (target, s.tb) } })

/-- A command entry is written: status and state. -/
def command (s : State) (c : OdCmd) (src : Nat) (mail : Bool) (v : Nat) : Nat × State :=
  let try_ := fun (r : Option State) => match r with
    | some t => (0, t)
    | none => (0x0105, s)
  match c with
  | .commit => if v = 1 then try_ (slotCommit s) else try_ (slotCancel s)
  | .revert => try_ (trialRevert s)
  | .lmpApply => (0, lmpApply s v)
  | .mtxApply => (0, if v = 1 then matrixApply s else s)
  | .lmpFault => (0, faultClear s v)
  | .aspCommit => (0, commitGo s (v = 3))
  | .headClr => (0, headClr s v)
  | .headApply => (0, headApply s v)
  | .power => try_ (pwrRequest s v src)
  | .odometer =>
    if !mail then (0x0102, s)
    else (if s.otp.cmd.isSome then 0x0105 else 0, otpStart (fldSet s Reg.OTP_PROG_ADDR F.OTP_PROG_ADDR_WORD v) 3)
  | .lifeCycleReq => lcRequest s mail v

/-- A class C write (R272). -/
def writeCommand (s : State) (r : OdRef) (src : Nat) (mail : Bool) (v : List Byte) : Nat × State :=
  match r.row.back with
  | .cmd c => command s c src mail (ofLe v)
  | .num .blkSel => (0, { s with od := { s.od with blkSel := ofLe v } })
  | .num .selector => (0, { s with jrn := { s.jrn with selector := ofLe v } })
  | .blob .buffer => (0, s)
  | _ => registerItem s r v

/-- The transaction `txn` of a source has been applied now (R318). -/
def markApplied (s : State) (src txn : Nat) : State :=
  match txnOf s src with
  | some x => if x.txn = txn then setTxn s { x with applied := some s.tb } else s
  | none => s

/-! ## WRITE (R274) -/

/-- A whole value has arrived. -/
def writeWhole (s : State) (q : OdReq) (r : OdRef) (v : List Byte) : Served :=
  let txn := odTxn q.msg
  let st := valueStatus s r v
  if st ≠ 0 then say s (resErr st r.index r.sub)
  else if r.row.cls = 2 then
    let (c, t) := writeCommand s r q.src q.mail v
    if c ≠ 0 then say t (resErr c r.index r.sub)
    else if r.row.idx = 0xA001 then (t, none)
    else say (markApplied t q.src txn) resOk
  else acceptSet s q 2 0 [(r.index, r.sub, v)]

/-- The partial value in the download buffer is discarded. -/
def dropSegment (s : State) : State := { s with od := { s.od with segment := none }, slots := { s.slots with buf := [] } }

/-- Segments may be received: not while a commit runs, and a slot only in the states of R294 (R296). -/
def segmentOpen (s : State) (r : OdRef) : Bool := !committing s && !(r.row.idx = 0x1F01 && !commitStates s)

/-- A segment of a value. -/
def writeSegment (s : State) (q : OdReq) (r : OdRef) : Served :=
  let key := (q.src, r.index, r.sub)
  let d := odData q.msg
  let ofs := odOffset q.msg
  let first := bitN (odFlags q.msg) 0
  let err := fun (t : State) (c : Nat) => say t (resErr c r.index r.sub)
  if !segmentOpen s r then err s 0x0105
  else if !first && s.od.segment ≠ some key then err s 0x010A
  else
    let have_ := if first then 0 else s.slots.buf.length
    let gone := if s.od.segment.isSome then dropSegment s else s
    if ofs ≠ have_ || decide (0x100000 < ofs + d.length) then err gone 0x010A
    else if r.row.size < ofs + d.length then err gone 0x0103
    else
      let s1 := { s with
        od := { s.od with segment := some key }
        slots := { s.slots with buf := (if first then [] else s.slots.buf) ++ d } }
      if bitN (odFlags q.msg) 1 then
        let s2 := { s1 with od := { s1.od with segment := none } }
        writeWhole s2 q r s2.slots.buf
      else say s1 resOk

/-- WRITE. -/
def odWrite (s : State) (q : OdReq) : Served :=
  let index := odIndex q.msg
  let sub := odSub q.msg
  match odFind index sub with
  | none => say s (resErr 0x0101 index sub)
  | some r =>
    if r.row.acc < 2 then say s (resErr 0x0102 index sub)
    else if quotaFull s then say (countQuota s) (resErr 0x010B index sub)
    else if odFlags q.msg % 4 = 3 && odOffset q.msg = 0 && decide (r.row.size ≤ dataMax) then writeWhole s q r (odData q.msg)
    else writeSegment s q r

/-! ## Sets (R283) -/

def setOf (s : State) (src : Nat) : Option OdSet := s.od.sets.find? fun t => t.src = src
def dropSet (s : State) (src : Nat) : State := { s with od := { s.od with sets := s.od.sets.filter fun t => t.src ≠ src } }

/-- What a set counts: 4 bytes for each entry, and the value bytes. -/
def setBytes (l : List Item) : Nat := (l.map fun it => 4 + it.2.2.length).foldl (· + ·) 0

/-- SET_OPEN. -/
def setOpen (s : State) (q : OdReq) : Served :=
  let s1 := dropSet s q.src
  if 4 ≤ s1.od.sets.length then say s1 (resErr 0x010B (odIndex q.msg) (odSub q.msg))
  else say { s1 with od := { s1.od with sets := s1.od.sets ++ [⟨q.src, odSub q.msg, s.tb, []⟩] } } resOk

/-- SET_ADD. -/
def setAdd (s : State) (q : OdReq) : Served :=
  let index := odIndex q.msg
  let sub := odSub q.msg
  let v := odData q.msg
  let err := fun (c : Nat) => say s (resErr c index sub)
  match setOf s q.src with
  | none => err 0x0108
  | some t =>
    match odFind index sub with
    | none => err 0x0101
    | some r =>
      if r.row.acc < 2 then err 0x0102
      else if r.row.cls = 2 || decide (dataMax < r.row.size) then err 0x0108
      else if valueStatus s r v ≠ 0 then err (valueStatus s r v)
      else if 4096 < setBytes t.items + 4 + v.length then err 0x0108
      else
        let u := { t with items := t.items ++ [(index, sub, v)] }
        say { s with od := { s.od with sets := s.od.sets.map fun x => if x.src = q.src then u else x } } resOk

/-- SET_APPLY: with a full quota the set stays open and unchanged. -/
def setApply (s : State) (q : OdReq) : Served :=
  match setOf s q.src with
  | none => say s (resErr 0x0108 (odIndex q.msg) (odSub q.msg))
  | some t =>
    if quotaFull s then say (countQuota s) (resErr 0x010B (odIndex q.msg) (odSub q.msg))
    else acceptSet (dropSet s q.src) q 0x12 t.mode t.items

/-- SET_DROP. -/
def setDrop (s : State) (q : OdReq) : Served :=
  match setOf s q.src with
  | none => say s (resErr 0x0108 (odIndex q.msg) (odSub q.msg))
  | some _ => say (dropSet s q.src) resOk

/-- SET_TIMEOUT: a set without SET_APPLY for 10 s. -/
def setTimeout (s : State) (src : Nat) : State :=
  match setOf s src with
  | some t => if t.opened + 1000000000 ≤ s.tb && s.od.mgmt = none then log (dropSet s src) 0xB001 src t.mode 0 else s
  | none => s

/-! ## Serving (R271, R276, R278, R280, R281) -/

/-- Requests that the device serves in its present state (R271, R281). -/
def stateAllows (s : State) (q : OdReq) : Bool :=
  let op := odOp q.msg
  let reads := op = 1 || op = 3
  let ix := odIndex q.msg
  if s.dev = .powerUp || s.dev = .selfTest || essentialFailed s then
    reads && ((0x1000 ≤ ix && decide (ix ≤ 0x10FF)) || (0x1F00 ≤ ix && decide (ix ≤ 0x1FFF)))
  else if s.dev = .faulted then reads || (op = 2 && ix = 0x8000 && odSub q.msg = 2)
  else reads || !(q.mail && pairMember s && (pstate s = 2 || pstate s = 4 || pstate s = 5))

/-- A taken-up request is carried out. -/
def handle (s : State) (q : OdReq) : Served :=
  let m := q.msg
  if !stateAllows s q then say s (resErr 0x0105 (odIndex m) (odSub m))
  else match odOp m with
  | 1 => odRead s (odIndex m) (odSub m) (odOffset m)
  | 2 => odWrite s q
  | 3 => odDescribeReq s (odIndex m) (odSub m)
  | 0x10 => setOpen s q
  | 0x11 => setAdd s q
  | 0x12 => setApply s q
  | _ => setDrop s q

/-- One request is served. -/
def serveReq (s : State) (q : OdReq) : State := serveWith s q fun t => handle t q

/-- The management pair serves the next request if its operation is `op` (R274, R280, R315). -/
def serve (s0 : State) (op : Nat) : State :=
  let s := refuseMalformed s0.od.inbox.length s0
  match nextReq s with
  | none => s
  | some q =>
    if odOp q.msg = op && pairServes s then
      let t := serveReq { s with od := { s.od with inbox := s.od.inbox.erase q } } q
      refuseMalformed t.od.inbox.length t
    else s

/-- OBJECT_FRAME: a message for this node, or for all, waits for the object service. -/
def objectArrives (s : State) (p : Nat) (f : ObjFrame) (fcs : Bool) : State :=
  let r := objectFrame s p f fcs
  if r.2 then odArrive r.1 f.src.toNat false (f.dst = 0xFFFF) f.msg else r.1

/-- SUB_EXPIRED at a scan start. -/
def subExpired (s : State) (k : Nat) : State :=
  if atBoundary s then
    match (subscriptions s)[k]? with
    | some v => expireSub s k v
    | none => s
  else s

/-! ## Application (R285, R286) -/

/-- The wait is answered; it leaves the ledger when its response has left on every path (R314). -/
def finishWait (s : State) (w : OdWait) (status index sub : Nat) : State :=
  let m := odResponse w.op w.txn w.index w.sub status 0 (if status = 0 then 0 else index * 65536 + sub) []
  let s1 := { s with od := { s.od with waits := s.od.waits.erase w } }
  let s2 := odAnswer s1 w.src w.txn w.silent m
  { s2 with od := { s2.od with leaving := leavingOd s2 ++ if responseWaits s2 m then [m] else [] } }

/-- Tables of a set are held until they are loaded (R209). -/
def holdTables (s : State) (l : List Item) : State :=
  (l.filter isTable).foldl (fun t it =>
    { t with od := { t.od with vals := tabIns t.od.vals (256 * it.1 + it.2.1) it.2.2 } }) s

/-- Stop-apply loads the tables the management pair holds (R209). -/
def loadHeld (s : State) : State := { storeItems s (heldItems s) with od := { s.od with vals := [] } }

/-- The class S entries of a set take effect. -/
def applyClassS (s : State) (l : List Item) (stop : Bool) : State :=
  let plain := l.filter fun it => !isTable it && it.1 ≠ 0x2020
  let s1 := holdTables (storeItems s plain) l
  let s2 := if stop then loadHeld s1 else s1
  let s3 := if l.any isRws then { s2 with trial := true } else s2
  let s4 := if s3.dev = .safeStopped then restartTouched s3 l else s3
  let s5 := configChanged (settled s s4)
  match l.find? fun it => it.1 = 0x2020 with
  | some it => trialImage s5 it.2.2
  | none => s5

/-- Re-checked against the present values, which an earlier set may have changed: status and entry. -/
def waitStatus (s : State) (w : OdWait) : Nat × Nat × Nat :=
  let bad := w.items.findSome? fun it => (odFind it.1 it.2.1).bind fun r =>
    if valueStatus s r it.2.2 ≠ 0 then some (valueStatus s r it.2.2, it.1, it.2.1) else none
  let first := w.items.headD (w.index, w.sub, [])
  if !(s.dev = .run || s.dev = .degraded || s.dev = .safeStopped) then (0x0105, first.1, first.2.1)
  else match w.items.find? isRws with
  | some it =>
    if s.dev ≠ .safeStopped || (it.1 = 0x2020 && !trialImageOpen s) then (0x0105, it.1, it.2.1)
    else bad.getD (match liveBad (candidate s w.items) with
      | some b => (0x0107, b.2.1, b.2.2)
      | none => (0, 0, 0))
  | none => bad.getD (match liveBad (candidate s w.items) with
      | some b => (0x0107, b.2.1, b.2.2)
      | none => (0, 0, 0))

/-- A due write or set applies. -/
def applyWait (s : State) (w : OdWait) : State :=
  let (c, ix, sb) := waitStatus s w
  if c ≠ 0 then
    finishWait (if c = 0x0107 then logCheck s ((liveBad (candidate s w.items)).getD (0, 0, 0)) else s) w c ix sb
  else
    let running := s.dev = .run || s.dev = .degraded
    let s1 := if w.mode = 1 && running then safeStop (log s 0xB002 w.src w.txn 0) 0xB002 else s
    let ls := w.items.filter isClassL
    let ss := w.items.filter fun it => !isClassL it
    let s2 := if ss = [] then s1 else applyClassS s1 ss (w.mode = 1)
    let s3 := markApplied (applyLamp s2 ls) w.src w.txn
    let v := { w with applied := some s.tb }
    let s4 := { s3 with od := { s3.od with waits := s3.od.waits.map fun x => if x = w then v else x } }
    if ls.all (latched s4) then finishWait s4 v 0 0 0 else s4

/-- A class L set whose values are latched. -/
def latchedWait (s : State) : Option OdWait :=
  s.od.waits.find? fun w => w.applied.isSome && (w.items.filter isClassL).all (latched s)

/-- The first write or set that was complete at least 20 µs before this boundary. -/
def dueWait (s : State) : Option OdWait := s.od.waits.find? fun w => w.applied = none && decide (w.at_ + 2000 ≤ s.tb)

/-- SET_APPLICATION. -/
def setApplication (s : State) : State :=
  if s.od.mgmt.isSome || coreDown s then s
  else match latchedWait s with
  | some w => finishWait s w 0 0 0
  | none =>
    if s.dev = .faulted then
      (match s.od.waits.find? fun w => w.applied = none with
       | some w => finishWait s w 0x0105 (w.items.headD (w.index, w.sub, [])).1 (w.items.headD (w.index, w.sub, [])).2.1
       | none => s)
    else if atBoundary s && s.sle.recov = none && started s.dev then
      (match dueWait s with
       | some w => applyWait s w
       | none => s)
    else s

/-! ## A new leader (R318) -/

/-- A leader after an arbitration repeats the responses to what was applied in the last 10 ms. -/
def repeatResponses (s : State) : State :=
  s.od.table.foldl (fun t x =>
    match x.applied, x.resp with
    | some a, some m => if s.tb ≤ a + 1000000 then odSend t x.src (withDup m) else t
    | _, _ => t) s

/-- ARBITRATION_END (R258, R318). -/
def arbitrationWon (s : State) : State :=
  let t := arbitrationEnd s
  if isLeader t && !isLeader s then repeatResponses t else t

/-! ## Rows of single entries -/

/-- LC_REQUEST: a write of `target` to `0xA001:01` through the mailbox. -/
def lcRequestRow (s : State) (target : Nat) : State :=
  if servesWrites s && s.od.mgmt = none && 2 ≤ target && decide (target ≤ 5) then (lcRequest s true target).2 else s

/-- TRIAL_IMAGE: a whole image written to `0x2020:01` applies at a scan boundary. -/
def trialImageRow (s : State) (bs : List Byte) : State :=
  if trialImageOpen s && atBoundary s && s.sle.recov = none && decide (bs.length ≤ imageMax) then trialImage s bs else s

end Sys2Proof.Machine
end

