-- ==== Sys2Proof/Machine/CmdBly.lean ====
section
/-!
DEFINITION. The meanings of the Belay commands, one per row of the table.
-/
namespace Sys2Proof.Machine

/-- BLY_LOCK_LOST (R24): The BLY clock loses lock and the event is treated as partner loss. -/
def execBlyLockLost (s : State) : Out := done (live s (blyLockLost s))

/-- LINK_TRAINED (R239): The Belay receiver aligns its lanes from training blocks and reports LINK. -/
def execLinkTrained (s : State) : Out := done (live s (linkTrained s))

/-- HELLO (R256): A Belay HELLO is received with the partner's serial, position, state and slot CRC. -/
def execHello (h : BlyHead) (m : Hello) (s : State) : Out := done (live s (helloRx s h m))

/-- PAIR_FORM (R256): At the first scan start after the pairing conditions hold, both members enter PAIRED. -/
def execPairForm (peer : Bool) (s : State) : Out := done (live s (pairForm s peer))

/-- SOLO_START (R256): With SOLO set and no training blocks for 10 s, a searching member enters ALONE. -/
def execSoloStart (s : State) : Out := done (live s (soloStart s))

/-- IMAGE (R249): The partner's IMAGE frame is received and merged into the snapshot. -/
def execImage (h : BlyHead) (m : ImageMsg) (stall : Bool) (s : State) : Out := done (live s (imageRx s h m stall))

/-- IMAGE_MISS (R251): The partner's IMAGE is not readable by S + 6.0 µs, so the lane evaluates its own snapshot and the miss is
counted. -/
def execImageMiss (s : State) : Out := done (live s (imageMiss s))

/-- OUTIMG (R253): The partner's OUTIMG is received and compared with the own image of the same TBS. -/
def execOutimg (h : BlyHead) (m : OutImg) (s : State) : Out := done (live s (outimgRx s h m))

/-- SAFE_COPY (R237): The follower receives the leader's SAFE frame copy for transmission. -/
def execSafeCopy (h : BlyHead) (f : SafeFrame) (s : State) : Out := done (live s (safeCopyRx s h f))

/-- HEARTBEAT (R257): A Belay HEARTBEAT is received; a reported fatal or SPLIT partner state declares the partner lost. -/
def execHeartbeat (h : BlyHead) (m : Heartbeat) (s : State) : Out := done (live s (heartbeatRx s h m))

/-- HEARTBEAT_TX (R242): Every 20 µs a member sends a HEARTBEAT at the first opportunity. -/
def execHeartbeatTx (s : State) : Out := done (live s (heartbeatTx s))

/-- ADOPT_REQ (R264): The survivor receives ADOPT_REQ and streams its slot. -/
def execAdoptReq (h : BlyHead) (c : CtlArgs) (s : State) : Out := done (live s (adoptReq s h c))

/-- STREAM_START (R261): The newcomer receives STREAM_START and enters RESYNC_DST. -/
def execStreamStart (h : BlyHead) (c : CtlArgs) (s : State) : Out := done (live s (streamStart s h c))

/-- STREAM (R262): A STREAM frame carrying slot, record, cairn or ledger data is received. -/
def execStream (h : BlyHead) (d : StreamData) (s : State) : Out := done (live s (streamRx s h d))

/-- STREAM_END (R261): The newcomer receives STREAM_END, loads the cairn, replays the ledger and re-runs the missed scans. -/
def execStreamEnd (h : BlyHead) (c : CtlArgs) (s : State) : Out := done (live s (streamEnd s h c))

/-- CAUGHT_UP (R261): The survivor receives CAUGHT_UP and starts comparing the newcomer's real-time images. -/
def execCaughtUp (h : BlyHead) (c : CtlArgs) (s : State) : Out := done (live s (caughtUpRx s h c))

/-- RELEASE (R261): The newcomer receives RELEASE as the survivor turns its bypass off. -/
def execRelease (h : BlyHead) (c : CtlArgs) (s : State) : Out := done (live s (releaseRx s h c))

/-- ABORT (R265): The newcomer receives ABORT, returns to SEARCH and schedules a retry. -/
def execAbort (h : BlyHead) (c : CtlArgs) (s : State) : Out := done (live s (abortRx s h c))

/-- CONTROL_SWAP (R254): The follower receives CONTROL SWAP naming the scan start for the pair's image swap. -/
def execControlSwap (h : BlyHead) (c : CtlArgs) (s : State) : Out := done (live s (controlSwap s h c))

/-- IDIFF (R252): A member's filtered input has differed from the partner's for IDIFF, and its warning bit is set. -/
def execIdiff (i : Fin 128) (s : State) : Out := done (live s (idiffSet s i.val))

/-- PARTNER_LOST (R257): No valid Belay frame for 300 µs declares the partner lost; a leader becomes survivor. -/
def execPartnerLost (s : State) : Out := done (live s (partnerSilent s))

/-- ARBITRATION_END (R258): t_arb ends without a newer leader frame, and the follower becomes survivor, leader, ALONE and
DEGRADED. -/
def execArbitrationEnd (s : State) : Out := done (live s (arbitrationWon s))

/-- BP_FAIL (R259): The bypass relay has not pulled in within TBP, and the member goes to SAFE-STOPPED. -/
def execBpFail (s : State) : Out := done (live s (bpFail s))

/-- HOLD_EXP (R260): The survivor's hold timer expires, and it goes to SAFE-STOPPED. -/
def execHoldExp (s : State) : Out := done (live s (holdExpire s))

/-- RESYNC_TIMEOUT (R265): Resynchronisation has not completed within 200 ms, and the survivor sends ABORT. -/
def execResyncTimeout (s : State) : Out := done (live s (resyncTimeout s))

/-- RESYNC_RETRY (R265): 1 s after an abort the newcomer retries resynchronisation, at most three times. -/
def execResyncRetry (s : State) : Out := done (live s (resyncRetry s))

/-- BLY_LINK_ERR_READ (R4): A read of BLY_LINK_ERR returns the CRC and MISS counts and clears them. -/
def execBlyLinkErrRead (s : State) : Out := done (live s (rcRead s Reg.BLY_LINK_ERR))

/-- BYPASS_RELEASE_TIMEOUT (R259): TBP after the bypass channel turns off, the relay feedback must show ON; if it still shows
OFF, BP_WELD is set and both members go to SAFE-STOPPED. -/
def execBypassReleaseTimeout (own : Bool) (s : State) : Out := done (live s (bypassReleaseTimeout s own))

/-- IDIFF_CLEAR (R252): After a member's and its partner's filtered values of an input have been equal for IDIFF, the input's
bit in BLY_IDIFFk clears. -/
def execIdiffClear (i : Fin 128) (s : State) : Out := done (live s (idiffClear s i.val))

/-- PAIR_SWAP_CANCEL (R297): The leader has not received the follower's HEARTBEAT report of the new BODY_CRC within T_CONFIRM,
so it cancels its own swap and journals the event. -/
def execPairSwapCancel (s : State) : Out := done (live s (pairSwapCancel s))

end Sys2Proof.Machine
end

