-- ==== Sys2Proof/Machine/CmdFio.lean ====
section
/-!
DEFINITION. The meanings of the field input commands, one per row of the table.
-/
namespace Sys2Proof.Machine

/-- FILTERED_CHANGE (R40): The raw value of an input has held for FILTER samples, so the filtered value and its time stamp
change. -/
def execFilteredChange (i : Fin 128) (on : Bool) (first : Nat) (s : State) : Out :=
  done (live s (filteredChange s i.val on first))

/-- TEST_PULSE_START (R45): A source reaches its phase slot and starts its off-pulse. -/
def execTestPulseStart (n : Fin 16) (off : List (Fin 128)) (s : State) : Out :=
  done (live s (tpStart s n.val (off.map Fin.val)))

/-- TEST_PULSE_END (R48): The pulse width expires and the source drives again. -/
def execTestPulseEnd (n : Fin 16) (s : State) : Out := done (live s (tpEnd s n.val))

/-- TP_WINDOW_END (R50): The source window ends; held lows pass, the responses are judged and the next width is computed. -/
def execTpWindowEnd (n : Fin 16) (resp : List (Fin 128 × Nat)) (lows : List (Fin 128 × Bool)) (late : List (Fin 128 × Nat))
    (s : State) : Out :=
  done (live s (windowEnd s n.val (resp.map fun p => (p.1.val, p.2)) (lows.map fun p => (p.1.val, p.2)) (late.map fun p => (p.1.val, p.2))))

/-- LEAK_MEASURE (R55): The off-state or on-state voltage of an input is measured at its scheduled point in the 100 ms interval.
-/
def execLeakMeasure (i : Fin 128) (v : Fin 255) (s : State) : Out := done (live s (leakMeasure s i.val v.val))

/-- VFIELD_UPDATE (R58): At each 1 ms TB multiple FIO_VFIELD takes the mean of the last millisecond's samples. -/
def execVfieldUpdate (v0 : BitVec 16) (v1 : BitVec 16) (s : State) : Out := done (live s (vfieldUpdate s v0.toNat v1.toNat))

/-- WARN_ENTER (R58): VFIELD has been below 18.0 V for 100 µs, and the bank enters WARN. -/
def execWarnEnter (b : Fin 2) (mv : BitVec 16) (s : State) : Out := done (live s (warnEnter s b.val mv.toNat))

/-- WARN_LEAVE (R58): VFIELD has been at or above 18.5 V for 1 ms, and the bank leaves WARN. -/
def execWarnLeave (b : Fin 2) (mv : BitVec 16) (s : State) : Out := done (live s (warnLeave s b.val mv.toNat))

/-- SAG_ENTER (R58): VFIELD has been below 15.0 V for 1 ms; the inputs are forced OFF and the pulses and output diagnostics are
suspended. -/
def execSagEnter (b : Fin 2) (mv : BitVec 16) (failing : BitVec 24) (s : State) : Out :=
  done (live s (sagEnter s b.val mv.toNat failing.toNat))

/-- SAG_LEAVE (R58): VFIELD has been at or above 16.0 V for 1 ms, and the bank leaves SAG. -/
def execSagLeave (b : Fin 2) (mv : BitVec 16) (s : State) : Out := done (live s (sagLeave s b.val mv.toNat))

/-- BROWN_OUT_ENTER (R58): VFIELD has been below 12.0 V for 100 µs; the bank's outputs switch off and are latched. -/
def execBrownOutEnter (b : Fin 2) (mv : BitVec 16) (s : State) : Out := done (live s (brownOutEnter s b.val mv.toNat))

/-- BROWN_OUT_LEAVE (R58): VFIELD has been at or above 16.0 V for 1 ms; the bank leaves BROWN-OUT while the output latch stays.
-/
def execBrownOutLeave (b : Fin 2) (mv : BitVec 16) (s : State) : Out := done (live s (brownOutLeave s b.val mv.toNat))

/-- FIO_TP_SKIP_READ (R4): A read of FIO_TP_SKIP returns the skip counts and clears them. -/
def execFioTpSkipRead (s : State) : Out := done (live s (rcRead s Reg.FIO_TP_SKIP))

end Sys2Proof.Machine
end

