-- ==== Sys2Proof/Machine/Bus.lean ====
section
/-!
DEFINITION. The SYS interconnect (R1, R27, R30 to R33, R355, R412, R413, R415) and the host SPI bridge over it (R429 to R432).
-/
namespace Sys2Proof.Machine

/-! ## Writes -/

/-- From the acceptance of a SLEEP request on, the host cannot write the retention SRAM (R413). -/
def retentionClosed (s : State) : Bool :=
  s.pwr.entering = some 2 || (match s.pwr.req with
    | some (t, _) => t = 2
    | none => false)

/-- A memory byte that a bus write may reach: bank 0 of the retention SRAM is read-only (R415). -/
def memWritable (s : State) (m : Master) (a : Nat) : Bool :=
  memReadable s a && !(inRet a && (retBank a = 0 || (m = .host && retentionClosed s)))

/-- An address of a block window. -/
def inWindow (a : Nat) : Bool := decide (0x40000000 ≤ a) && decide (a < 0x40110000)

/-- Millrace reaches every address of R30 but its own window and the boot ROM (R355). -/
def windowOpen (m : Master) (a : Nat) : Bool := inWindow a && !(m = .mrc && a / 65536 = 0x400B)

/-- A write of `2 ^ k` bytes; none: it ends with a bus error and has no effect. DESIGN CHOICE (log entry 144): so does a write of the
management pair to the boot ROM, about which R27 says nothing. -/
def busWrite (s : State) (m : Master) (a k w : Nat) : Option State :=
  if inSram a || inRet a then
    if a % 2 ^ k = 0 && memWritable s m a then some { s with mem := memSetBytes s.mem a (leBytes (2 ^ k) w) } else none
  else if windowOpen m a && k = 2 && a % 4 = 0 then regWrite (ungate s a) m a (BitVec.ofNat 32 w)
  else none

/-- REGISTER_WRITE, and every other bus write. -/
def busWriteRow (s : State) (m : Master) (a k w : Nat) : State := if coreDown s then s else busTry s (busWrite s m a k w)

/-! ## Reads -/

/-- Registers whose read does more than return the view: FIFO and capture reads, and counters that clear (R4). -/
def regRead (s : State) (a : Nat) (r : RegRow) : State :=
  if let some n := idx (Reg.ADC_RES 0) 4 0x400 a then adcResRead s n
  else if let some n := idx (Reg.TMR_CAP 0) 16 0x20 a then captureRead s n
  else if r.acc = .rc then rcRead s a
  else busOk s (regView s a).toNat

/-- The debug registers answer the host only, while debug is open (R126); the OTP window only where it is not locked (R408). -/
def readOpen (s : State) (m : Master) (a : Nat) : Bool :=
  if Reg.SLE_DBG_CTRL ≤ a && decide (a ≤ Reg.SLE_DBG_BP) then m = .host && debugOpen s else true

/-- The bytes of the boot ROM (R30). -/
def romBytes (a k : Nat) : List Byte := (List.range k).map fun j => Config.romByte (a + j)

/-- A read of `2 ^ k` bytes: `s.bus` holds the answer. The boot ROM answers the management pair only (R27). -/
def busRead (s : State) (m : Master) (a k : Nat) : State :=
  if inSram a || inRet a then
    if a % 2 ^ k = 0 && memReadable s a then busOk s (ofLe (memBytes s.mem a (2 ^ k))) else busErr s
  else if inRom a then
    if m = .mgmt && a % 2 ^ k = 0 then busOk s (ofLe (romBytes a (2 ^ k))) else busErr s
  else if windowOpen m a && k = 2 && a % 4 = 0 then
    match regRow a with
    | none => busErr s
    | some r =>
      if !readOpen s m a then busErr s
      else if let some n := idx (Reg.OTP_DATA 0) 512 4 a then
        (match otpWindow s n with
         | some w => busOk s w.toNat
         | none => busErr s)
      else regRead (ungate s a) a r
  else busErr s

/-! ## The host SPI bridge -/

/-- A bit of `HOST_SPI_STAT` is set. -/
def spiFlag (s : State) (f : Fld) : State := fldSet s Reg.HOST_SPI_STAT f 1

/-- The bridge applies the oldest posted write (R432). -/
def applyPosted (s : State) : State :=
  match s.ports.posted with
  | [] => s
  | (a, w) :: t =>
    let s1 := { s with ports := { s.ports with posted := t } }
    (busWrite s1 .host a 2 w.toNat).getD (spiFlag s1 F.HOST_SPI_STAT_ERR)

/-- The bridge applies `k` posted writes. -/
def applySome : Nat → State → State
  | 0, s => s
  | k + 1, s => applySome k (applyPosted s)

/-- A word arrives; a full queue drops it. -/
def postWord (s : State) (a : Nat) (w : Word) : State :=
  if 4 ≤ s.ports.posted.length then spiFlag s F.HOST_SPI_STAT_OVF
  else { s with ports := { s.ports with posted := s.ports.posted ++ [(a, w)] } }

/-- The words of a burst, each with the number of posted writes the bridge has applied before it arrives. -/
def postWords (s : State) (a : Nat) : List (Nat × Word) → State
  | [] => s
  | (k, w) :: t => postWords (postWord (applySome k s) a w) (a + 4) t

/-- The commands of the host SPI port (R430). -/
inductive SpiCmd where
  | read | qread | write | qwrite | status
  deriving DecidableEq, Repr

/-- The command of a command byte; none: an unknown command. -/
def spiCommand (c : Byte) : Option SpiCmd :=
  if c = 0x0B then some .read
  else if c = 0x6B then some .qread
  else if c = 0x02 then some .write
  else if c = 0x32 then some .qwrite
  else if c = 0x05 then some .status
  else none

/-- A transaction that begins with the byte `c`: it is what the row stands for, `f`, when the byte is that of command `k`; an unknown
command sets FORMAT and has no other effect (R441). -/
def spiBegin (s : State) (c : Byte) (k : SpiCmd) (f : State → State) : State :=
  if coreDown s then s
  else match spiCommand c with
    | some k' => if k' = k then f s else s
    | none => spiFlag s F.HOST_SPI_STAT_FORMAT

/-- An unaligned address sets FORMAT (R430); each access to it then ends with its bus error (R1, R31). -/
def spiAlign (s : State) (a : Nat) : State := if a % 4 = 0 then s else spiFlag s F.HOST_SPI_STAT_FORMAT

/-- SPI_WRITE and SPI_QWRITE. -/
def spiWrite (s : State) (a : Nat) (ws : List (Nat × Word)) : State :=
  if coreDown s then s else postWords (spiAlign s a) a ws

/-- What one word of a read sends: a wait byte, the marker and the data, most significant byte first (R429, R431). -/
def spiBytes (b : Bus) : List Byte :=
  [0, if b.err then 0xE7 else 0x5A] ++ (leBytes 4 (if b.err then 0 else b.data)).reverse

/-- The words of a read burst. -/
def spiWords : Nat → State → Nat → State
  | 0, s, _ => s
  | k + 1, s, a =>
    let s1 := busRead s .host a 2
    spiWords k { s1 with ports := { s1.ports with miso := s1.ports.miso ++ spiBytes s1.bus } } (a + 4)

/-- Accesses that have started and whose data are not shifted out: they take their effect (R432). -/
def spiUnread : Nat → State → Nat → State
  | 0, s, _ => s
  | k + 1, s, a => spiUnread k { busRead s .host a 2 with bus := s.bus } (a + 4)

/-- A read of `n` words and `k` further accesses; the bridge applies its posted writes first, in order. -/
def spiReads (s : State) (a n k : Nat) : State :=
  let s1 := { s with ports := { s.ports with miso := [] } }
  if coreDown s then s1 else spiUnread k (spiWords n (applySome 4 (spiAlign s1 a)) a) (a + 4 * n)

/-- SPI_READ and SPI_QREAD of `n` words: the marker of the last word has started a further access (R431). -/
def spiRead (s : State) (a n : Nat) : State := spiReads s a n 1

/-- SPI_STATUS. -/
def spiStatus (s : State) : State :=
  { s with ports := { s.ports with
    miso := if coreDown s then [] else [BitVec.ofNat 8 (regView s Reg.HOST_SPI_STAT).toNat] } }

/-- SPI_ABORT: `HSPI_CS_N` rises inside a word, of a read after `n` whole words, of which the access has started, and with `marked` its
marker has been shifted and the next access has started too; of a write after the words `ws` (R431, R432). -/
def spiAbort (s : State) (c : Byte) (a n : Nat) (marked : Bool) (ws : List (Nat × Word)) : State :=
  if coreDown s then s
  else
    let s1 := match spiCommand c with
      | some .read => spiReads s a n (1 + b2n marked)
      | some .qread => spiReads s a n (1 + b2n marked)
      | some .write => spiWrite s a ws
      | some .qwrite => spiWrite s a ws
      | some .status => s
      | none => spiFlag s F.HOST_SPI_STAT_FORMAT
    spiFlag s1 F.HOST_SPI_STAT_ABORT

/-- SPI_TIMEOUT (R431). -/
def spiTimeout (s : State) : State :=
  if coreDown s then s
  else spiFlag { s with bus := ⟨true, 0⟩, ports := { s.ports with miso := spiBytes ⟨true, 0⟩ } } F.HOST_SPI_STAT_TMO

end Sys2Proof.Machine
end

