-- ==== Sys2Proof/Machine/Pins.lean ====
section
/-!
DEFINITION. What the pads of the part carry while their blocks do not drive them: the reset state (R451) and the clamps (R417). While a
block drives its pads, `chApplied`, `sourceDrives`, `stageRuns`, `scnOn`, `colSinks`, `gpioLevel`, `safeStateLow` and `faultLow` say what
they carry.
-/
namespace Sys2Proof.Machine

/-- The driven ball groups of R451, and the sinks of the inputs. -/
inductive Pad where
  | fi | tp | soh | sol | lx | lk | scn | col | ain | ropeTx | blyTx | spiOut | qspiCs | qspiSck | qspiIo | gpio | tdo | safeState | fault | pmb
  deriving DecidableEq, Repr

/-- What a pad carries: `off` for a switch, a source or a sink. -/
inductive PadLevel where
  | off | low | high | highZ | idle | open | input | atEntry
  deriving DecidableEq, Repr

/-- The reset state of a group (R451). -/
def padReset : Pad → PadLevel
  | .fi => .off
  | .tp => .off
  | .soh => .off
  | .sol => .off
  | .lx => .off
  | .lk => .off
  | .scn => .off
  | .col => .off
  | .ain => .open
  | .ropeTx => .idle
  | .blyTx => .highZ
  | .spiOut => .input
  | .qspiCs => .high
  | .qspiSck => .low
  | .qspiIo => .input
  | .gpio => .input
  | .tdo => .highZ
  | .safeState => .low
  | .fault => .low
  | .pmb => .highZ

/-- The clamp of a group (R417); none: the isolation cells do not clamp it. -/
def padClamp : Pad → Option PadLevel
  | .fi => some .off
  | .tp => some .off
  | .soh => some .off
  | .sol => some .off
  | .lx => some .off
  | .lk => some .off
  | .scn => some .off
  | .col => some .off
  | .ain => some .open
  | .ropeTx => some .idle
  | .blyTx => some .highZ
  | .spiOut => some .highZ
  | .qspiCs => some .high
  | .qspiSck => none
  | .qspiIo => some .highZ
  | .gpio => some .highZ
  | .tdo => some .highZ
  | .safeState => some .low
  | .fault => some .atEntry
  | .pmb => none

/-- The block of a group has not driven it since the reset. DESIGN CHOICE (log entry 204): the field, lamp, Rope and Belay blocks first drive at
the end of SELF-TEST, the flash master in it, all others from the release of reset on. -/
def undriven (s : State) : Pad → Bool
  | .gpio => coreOffOrReset s
  | .spiOut => coreOffOrReset s
  | .tdo => coreOffOrReset s
  | .pmb => s.pwr.resetLow
  | .qspiCs => s.dev = .powerUp || coreOffOrReset s
  | .qspiSck => s.dev = .powerUp || coreOffOrReset s
  | .qspiIo => s.dev = .powerUp || coreOffOrReset s
  | .ain => s.dev = .powerUp || coreOffOrReset s
  | _ => !started s.dev

/-- The clamps are applied: before OPERATION is sent, and until the logic step of a wake (R413, R417, R421). -/
def clampsApplied (s : State) : Bool := s.pwr.entering.isSome || decide (2 ≤ s.pwr.state)

/-- What the pads of a group carry while nothing drives them; none: their block does. -/
def padHeld (s : State) (p : Pad) : Option PadLevel :=
  if clampsApplied s then padClamp p
  else if undriven s p then some (padReset p)
  else none

end Sys2Proof.Machine
end

