-- ==== Sys2Proof/Machine/CmdHost.lean ====
section
/-!
DEFINITION. The meanings of the host port commands, one per row of the table.
-/
namespace Sys2Proof.Machine

/-- SPI_READ (R431): Host SPI READ returns words after wait bytes and a marker. -/
def execSpiRead (c : Byte) (a : Word) (n : Nat) (s : State) : Out :=
  done (live s (spiBegin s c .read fun s => spiRead s a.toNat n))

/-- SPI_QREAD (R430): Host SPI QREAD, as READ on four lines. -/
def execSpiQread (c : Byte) (a : Word) (n : Nat) (s : State) : Out :=
  done (live s (spiBegin s c .qread fun s => spiRead s a.toNat n))

/-- SPI_WRITE (R432): Host SPI WRITE posts words into the 4-word write queue. -/
def execSpiWrite (c : Byte) (a : Word) (ws : List (Nat × Word)) (s : State) : Out :=
  done (live s (spiBegin s c .write fun s => spiWrite s a.toNat ws))

/-- SPI_QWRITE (R430): Host SPI QWRITE, as WRITE on four lines. -/
def execSpiQwrite (c : Byte) (a : Word) (ws : List (Nat × Word)) (s : State) : Out :=
  done (live s (spiBegin s c .qwrite fun s => spiWrite s a.toNat ws))

/-- SPI_STATUS (R430): Host SPI STATUS returns bits 7:0 of HOST_SPI_STAT. -/
def execSpiStatus (c : Byte) (s : State) : Out := done (if coreDown s then spiStatus s else spiBegin s c .status spiStatus)

/-- SPI_ABORT (R432): HSPI_CS_N rises inside a word; the partial word is discarded and ABORT set. -/
def execSpiAbort (c : Byte) (a : Word) (n : Nat) (marked : Bool) (ws : List (Nat × Word)) (s : State) : Out :=
  done (live s (spiAbort s c a.toNat n marked ws))

/-- SPI_TIMEOUT (R431): A bridge access has not completed within 1 ms; 0xE7 is sent and TMO set. -/
def execSpiTimeout (s : State) : Out := done (live s (spiTimeout s))

/-- FLASH_READ (R436): HOST_FLASH_CTRL.READ reads flash into the buffer. -/
def execFlashRead (s : State) : Out := done (live s (access s Reg.HOST_FLASH_CTRL fun s => busOk (flashStart s 0) 0))

/-- FLASH_PROG (R436): HOST_FLASH_CTRL.PROG programs the buffer into the host area, or is DENIED. -/
def execFlashProg (s : State) : Out := done (live s (access s Reg.HOST_FLASH_CTRL fun s => busOk (flashStart s 1) 0))

/-- FLASH_ERASE (R436): HOST_FLASH_CTRL.ERASE erases a 64 KiB sector of the host area, or is DENIED. -/
def execFlashErase (s : State) : Out := done (live s (access s Reg.HOST_FLASH_CTRL fun s => busOk (flashStart s 2) 0))

/-- FLASH_DONE (R436): A host flash command completes or times out, and RESULT is set. -/
def execFlashDone (ok : Bool) (s : State) : Out := done (live s (flashDone s ok))

end Sys2Proof.Machine
end

