-- ==== Sys2Proof/Machine/CmdLmp.lean ====
section
/-!
DEFINITION. The meanings of the lamp drive, aspect and proving commands, one per row of the table.
-/
namespace Sys2Proof.Machine

/-- BANK_BOUNDARY (R164): At a bank boundary LMP computes and latches the applied duty and current of every string. -/
def execBankBoundary (b : Fin 2) (s : State) : Out := done (live s (bankBoundary s b.val))

/-- COMMIT_APPLY (R193): A pending commit's values latch at the first qualifying bank boundary or frame start. -/
def execCommitApply (k : Fin 3) (s : State) : Out := done (live s (commitApply s k.val))

/-- STRING_ON_EDGE (R162): A string's on-window starts at its offset, triggers the supervision set and may carry a probe. -/
def execStringOnEdge (n : Fin 32) (s : State) : Out := done (live s (stringOnEdge s n.val))

/-- PROVING_WINDOW (R196): At on-edge + 8 µs the window of a lit string is decided as pass or fail. -/
def execProvingWindow (n : Fin 32) (i : BitVec 9) (v : BitVec 8) (meas : Bool) (s : State) : Out :=
  done (live s (provingWindow s n.val i.toNat v.toNat meas))

/-- CONFIRMATION_PROBE (R200): 480 µs after a failed probe a confirmation probe is measured; if it fails, DARK is declared. -/
def execConfirmationProbe (n : Fin 32) (i : BitVec 9) (v : BitVec 8) (s : State) : Out :=
  done (live s (confirmationProbe s n.val i.toNat v.toNat))

/-- DARK_CHECK (R202): At its 4 ms cycle offset a string is checked for current or voltage while it should be dark. -/
def execDarkCheck (n : Fin 32) (i : BitVec 9) (v : BitVec 8) (s : State) : Out :=
  done (live s (darkCheck s n.val i.toNat v.toNat))

/-- LIT_RECHECK (R204): 200 µs after LIT the string is checked again. -/
def execLitRecheck (n : Fin 32) (i : BitVec 9) (v : BitVec 8) (s : State) : Out :=
  done (live s (litRecheck s n.val i.toNat v.toNat))

/-- MATRIX_FRAME_START (R175): A matrix frame starts at its TB multiple and staged dot values latch. -/
def execMatrixFrameStart (s : State) : Out := done (live s (matrixFrameStart s))

/-- MATRIX_LINE_SLOT (R175): A line slot starts after the pre-charge and blanking, and the column sinks run for their dot
duties. -/
def execMatrixLineSlot (l : Fin 16) (cur : List (BitVec 8)) (leak : List (BitVec 8)) (s : State) : Out :=
  done (live s (matrixLineSlot s l.val (cur.map BitVec.toNat) (leak.map BitVec.toNat)))

/-- STAGE_OPEN (R177): A stage shows no current at full voltage in a long enough window; OPEN latches and the stage stops. -/
def execStageOpen (n : Fin 32) (s : State) : Out := done (live s (stageOpen s n.val))

/-- STAGE_SHORT (R177): A string voltage below 2.0 V in 4 consecutive windows latches SHORT. -/
def execStageShort (n : Fin 32) (s : State) : Out := done (live s (stageShort s n.val))

/-- STAGE_OCP (R177): The inductor peak exceeds its limit for 8 consecutive switching cycles, and OCP latches. -/
def execStageOcp (n : Fin 32) (s : State) : Out := done (live s (stageOcp s n.val))

/-- STAGE_THERMAL (R177): A stage hot spot reaches 165 °C, and the stage stops. -/
def execStageThermal (n : Fin 32) (s : State) : Out := done (live s (stageThermal s n.val))

/-- STAGE_THERMAL_CLEAR (R177): The stage cools to 145 °C and THERMAL clears automatically. -/
def execStageThermalClear (n : Fin 32) (s : State) : Out := done (live s (stageThermalClear s n.val))

/-- STAGE_UVLO (R177): VLED has been outside 11.0–32.0 V for 10 µs, and the bank's stages stop. -/
def execStageUvlo (b : Fin 2) (ov : Bool) (s : State) : Out := done (live s (stageUvlo s b.val ov))

/-- STAGE_UVLO_CLEAR (R177): VLED has been within 11.5–31.0 V for 1 ms, and UVLO clears. -/
def execStageUvloClear (b : Fin 2) (s : State) : Out := done (live s (stageUvloClear s b.val))

/-- FAULT_CLEAR (R178): A write of 1 to LMP_FAULT clears latched stage faults, and the stages restart at the next boundary. -/
def execFaultClear (m : BitVec 32) (s : State) : Out :=
  done (live s (access s Reg.LMP_FAULT fun s => busOk (faultClear s m.toNat) 0))

/-- LMP_APPLY (R166): LMP_APPLY marks staged string values for the next bank boundary, ignoring ASP-owned bits from other
masters. -/
def execLmpApply (m : BitVec 32) (s : State) : Out :=
  done (live s (access s Reg.LMP_APPLY fun s => busOk (lmpApply s m.toNat) 0))

/-- MATRIX_APPLY (R175): LMP_MTX_CTRL marks staged matrix values for the next frame start. -/
def execMatrixApply (s : State) : Out := done (live s (access s Reg.LMP_MTX_CTRL fun s => busOk (matrixApply s) 0))

/-- THERMAL_DERATE_TICK (R171): Every 10 ms the thermal factor is recomputed from the NTC and die sensors. -/
def execThermalDerateTick (codes : List (BitVec 14)) (vdd : BitVec 14) (die : List (BitVec 8)) (s : State) : Out :=
  done (live s (thermalTick s (codes.map BitVec.toNat) vdd.toNat (die.map fun t => ofTwos 8 t.toNat)))

/-- POWER_DERATE_TICK (R171): Every 1 ms the power factor is adjusted from P_lamp and P_allow. -/
def execPowerDerateTick (banks : List (BitVec 16 × BitVec 16)) (strs : List (BitVec 16 × BitVec 16)) (sinks : BitVec 32)
    (scans : BitVec 32) (s : State) : Out :=
  done (live s (powerTick s (lampPower (banks.map fun m => (m.1.toNat, m.2.toNat)) (strs.map fun m => (m.1.toNat, m.2.toNat)) sinks.toNat scans.toNat)))

/-- BANK_DERATE_TICK (R171): Every 1 ms the bank factor is adjusted from the bank's output current. -/
def execBankDerateTick (i0 : BitVec 16) (i1 : BitVec 16) (s : State) : Out := done (live s (bankTick s i0.toNat i1.toNat))

/-- ASPECT_REQUEST (R189): An SLE aspect request arrives at ASP; if newer, it is accepted and its values are staged and marked.
-/
def execAspectRequest (s : State) : Out := done (live s (aspectRequest s))

/-- HEAD_SELECT (R190): A write of ASP_HEAD_SELh stages an operational aspect and sets STAGED, or ends with a bus error. -/
def execHeadSelect (h : Fin 32) (a : BitVec 8) (s : State) : Out := done (live s (busTry s (headSelect s h.val a.toNat)))

/-- HEAD_APPLY (R190): ASP_HEAD_APPLY applies the staged selections of the heads at the next boundary. -/
def execHeadApply (m : BitVec 32) (s : State) : Out := done (live s (busOk (headApply s m.toNat) 0))

/-- HEAD_CLR (R206): ASP_HEAD_CLR clears PFAIL, DEAD and the latched stage faults of the heads. -/
def execHeadClr (m : BitVec 32) (s : State) : Out := done (live s (busOk (headClr s m.toNat) 0))

end Sys2Proof.Machine
end

