-- ==== Sys2Proof/Machine/MrcRun.lean ====
section
/-!
DEFINITION. What a Millrace descriptor moves (R357, R358, R365, R366), over the bus.
-/
namespace Sys2Proof.Machine

/-- How the moves of a descriptor end: state, bytes written, and the STATUS of R365. -/
structure Moved where
  s : State
  bytes : Nat
  status : Nat

/-- `k` consecutive words from `a`, in ascending order; none: one ends with a bus error. -/
def readWords : Nat → State → Nat → State × Option (List Nat)
  | 0, s, _ => (s, some [])
  | k + 1, s, a =>
    let t := busRead s .mrc a 2
    if t.bus.err then (t, none)
    else
      let r := readWords k t (a + 4)
      (r.1, r.2.map fun l => t.bus.data :: l)

/-- Words to `a` on; the bytes written before the first bus error, and whether there was none. -/
def writeWords (s : State) (a : Nat) : List Nat → State × Nat × Bool
  | [] => (s, 0, true)
  | w :: l =>
    match busWrite s .mrc a 2 w with
    | none => (s, 0, false)
    | some t =>
      let r := writeWords t (a + 4) l
      (r.1, 4 + r.2.1, r.2.2)

/-- Element `i` is written. -/
def putElement (d : Desc) (s : State) (i : Nat) (ws : List Nat) : State × Nat × Bool :=
  writeWords s (d.dst.toNat + if descDfix d then 0 else i * descE d) ws

/-- Element `i` of a copy or fill, or of a gather whose offset has been read. -/
def moveElement (d : Desc) (s : State) (i ofs : Nat) : State × Nat × Bool :=
  if descType d = 1 then putElement d s i (List.replicate (descE d / 4) d.src.toNat)
  else
    match readWords (descE d / 4) s (d.src.toNat + if descSfix d then 0 else ofs) with
    | (t, some ws) => putElement d t i ws
    | (t, none) => (t, 0, false)

/-- Writes that were outstanding behind a failing one finish, at most `w` words of the `k` elements from `i` on (R366). -/
def finishWrites (d : Desc) : Nat → Nat → State → Nat → State
  | 0, _, s, _ => s
  | k + 1, w, s, i =>
    if w < descE d / 4 then s
    else
      let t := if descType d = 2 then busRead s .mrc (d.idx.toNat + 4 * i) 2 else s
      let o := if descType d = 2 then t.bus.data else i * descE d
      if t.bus.err || o % descE d ≠ 0 then t else finishWrites d k (w - descE d / 4) (moveElement d t i o).1 (i + 1)

/-- Words that may be outstanding behind a failing write of channel `n`: OUTMAX − 1 bursts of 64 bytes; how many are is a free value (R362,
R366; log entry 112). -/
def outstandingWords (s : State) (n : Nat) : Nat := (Config.wordsBehind n s.tb).toNat % (16 * (outMax s n - 1) + 1)

/-- A write of element `i` has failed after `done` bytes: the ones behind it finish and are not counted; after a failing read there are
none. -/
def endBad (d : Desc) (w k : Nat) (r : State × Nat × Bool) (i done : Nat) (read : Bool) : Moved :=
  ⟨if read then r.1 else finishWrites d k w r.1 (i + 1), done + r.2.1, 1⟩

/-- The source of element `i` ends with a bus error. -/
def readFails (d : Desc) (s : State) (i ofs : Nat) : Bool := descType d ≠ 1 &&
  (readWords (descE d / 4) s (d.src.toNat + if descSfix d then 0 else if descType d = 2 then ofs else i * descE d)).2.isNone

/-- Elements from `i` on, `k` of them; `done` bytes are written before, and `w` words may be outstanding behind a failing write. -/
def moveFrom (d : Desc) (w : Nat) : Nat → State → Nat → Nat → Moved
  | 0, s, _, done => ⟨s, done, 0⟩
  | k + 1, s, i, done =>
    if descType d = 2 then
      let t := busRead s .mrc (d.idx.toNat + 4 * i) 2
      if t.bus.err then ⟨t, done, 1⟩
      else if t.bus.data % descE d ≠ 0 then ⟨t, done, 3⟩
      else
        let r := moveElement d t i t.bus.data
        if r.2.2 then moveFrom d w k r.1 (i + 1) (done + r.2.1) else endBad d w k r i done (readFails d t i t.bus.data)
    else
      let r := moveElement d s i (i * descE d)
      if r.2.2 then moveFrom d w k r.1 (i + 1) (done + r.2.1) else endBad d w k r i done (readFails d s i 0)

/-- Elements of a descriptor. -/
def descCount_ (d : Desc) : Nat := if descType d = 2 then d.len.toNat else d.len.toNat / descE d

/-- The last address a descriptor writes. -/
def lastWritten (d : Desc) : Nat := d.dst.toNat + (if descDfix d then 0 else (descCount_ d - 1) * descE d) + descE d - 4

/-- The read-back (R365): of memory a read, of a window an ordering read without a side effect. -/
def readBackOk (s : State) (a : Nat) : Bool :=
  if inSram a || inRet a then memReadable s a else windowOpen .mrc a && (regRow a).isSome

/-- The whole run of a descriptor of channel `n`, with its read-back. -/
def runDesc (s : State) (n : Nat) (d : Desc) : Moved :=
  let m := moveFrom d (outstandingWords s n) (descCount_ d) s 0 0
  if m.status = 0 && !readBackOk m.s (lastWritten d) then ⟨m.s, m.bytes, 1⟩ else m

/-- A channel's descriptor ends with `status`, if that is how its run ends. -/
def descriptorEnd (s : State) (n status : Nat) : State :=
  match (mrcGet s n).state, (mrcGet s n).act with
  | 2, some d =>
    let m := runDesc s n d
    if m.status = status then
      let s1 := { m.s with bus := s.bus }
      let s2 := if status = 1 then regSet s1 (Reg.MRC_CH_BADCNT n) (BitVec.ofNat 32 (satAdd 16 (regGet s1 (Reg.MRC_CH_BADCNT n)).toNat 1)) else s1
      mrcFinish s2 n d status m.bytes
    else s
  | _, _ => s

end Sys2Proof.Machine
end

