-- ==== Sys2Proof/Machine/CmdMrc.lean ====
section
/-!
DEFINITION. The meanings of the Millrace and CRC commands, one per row of the table.
-/
namespace Sys2Proof.Machine

/-- SHADOW_ARM (R359): The doorbell arms the shadow descriptor and starts an idle channel. -/
def execShadowArm (n : Fin 16) (s : State) : Out :=
  done (live s (access s (Reg.MRC_CH_CTRL n.val) fun s => busTry s (doorbell s n.val)))

/-- MRC_STOP (R367): STOP idles the channel at its next descriptor boundary. -/
def execMrcStop (n : Fin 16) (s : State) : Out :=
  done (live s (access s (Reg.MRC_CH_CTRL n.val) fun s => busOk (mrcStop s n.val) 0))

/-- DESCRIPTOR_FETCH (R358): A chained descriptor is fetched, given its record slot, checked and started. -/
def execDescriptorFetch (n : Fin 16) (s : State) : Out := done (live s (descriptorFetch s n.val))

/-- DESCRIPTOR_DONE (R365): The last element moves and is read back; the completion record is written and HEAD advances. -/
def execDescriptorDone (n : Fin 16) (s : State) : Out := done (live s (descriptorEnd s n.val 0))

/-- DESCRIPTOR_BUS_ERROR (R366): A bus error on a data access ends the descriptor with BAD. -/
def execDescriptorBusError (n : Fin 16) (s : State) : Out := done (live s (descriptorEnd s n.val 1))

/-- TQ_TAIL_WRITE (R364): Host firmware advances TAIL, and a channel in QWAIT resumes. -/
def execTqTailWrite (n : Fin 16) (w : Word) (s : State) : Out :=
  done (live s (access s (Reg.MRC_CH_TQ_TAIL n.val) fun s => busOk (tqTailWrite s n.val w) 0))

/-- MRC_EN_WRITE (R367): A write of MRC_EN enables channels; clearing a busy channel acts as STOP. -/
def execMrcEnWrite (w : Word) (s : State) : Out := done (live s (access s Reg.MRC_EN fun s => busOk (mrcEnWrite s w) 0))

/-- MRC_BADCNT_READ (R4): A read of MRC_CHn_BADCNT returns the count and clears it. -/
def execMrcBadcntRead (n : Fin 16) (s : State) : Out :=
  done (live s (access s (Reg.MRC_CH_BADCNT n.val) fun s => rcRead s (Reg.MRC_CH_BADCNT n.val)))

/-- CRC_INIT (R368): CRC_CTRLn.INIT loads INIT into the running value. -/
def execCrcInit (n : Fin 4) (s : State) : Out :=
  done (live s (access s (Reg.CRC_CTRL n.val) fun s => busOk (crcInit s n.val) 0))

/-- CRC_DATA8 (R369): A write to CRC_DATA8n processes 8 bits of data. -/
def execCrcData8 (n : Fin 4) (w : BitVec 8) (s : State) : Out :=
  done (live s (access s (Reg.CRC_DATA8 n.val) fun s => busTry s (crcData s n.val 1 (w.zeroExtend 32))))

/-- CRC_DATA16 (R369): A write to CRC_DATA16n processes 16 bits, lowest byte first. -/
def execCrcData16 (n : Fin 4) (w : BitVec 16) (s : State) : Out :=
  done (live s (access s (Reg.CRC_DATA16 n.val) fun s => busTry s (crcData s n.val 2 (w.zeroExtend 32))))

/-- CRC_DATA32 (R369): A write to CRC_DATA32n processes 32 bits, lowest byte first. -/
def execCrcData32 (n : Fin 4) (w : Word) (s : State) : Out :=
  done (live s (access s (Reg.CRC_DATA32 n.val) fun s => busTry s (crcData s n.val 4 w)))

/-- CRC_VAL_WRITE (R370): A write to CRC_VALn sets the running value. -/
def execCrcValWrite (n : Fin 4) (w : Word) (s : State) : Out :=
  done (live s (access s (Reg.CRC_VAL n.val) fun s => busOk (crcValWrite s n.val w) 0))

/-- IDX_ALIGN (R358): A gather offset read from the table is not a multiple of E; the descriptor ends with status IDX_ALIGN, its
record is written and the channel continues with NEXT. -/
def execIdxAlign (n : Fin 16) (s : State) : Out := done (live s (descriptorEnd s n.val 3))

end Sys2Proof.Machine
end

