-- ==== Sys2Proof/Machine/CmdOd.lean ====
section
/-!
DEFINITION. The meanings of the object dictionary, slot and journal commands, one per row of the table.
-/
namespace Sys2Proof.Machine

/-- READ (R274): An object READ returns a segment of an entry's value. -/
def execRead (s : State) : Out := done (live s (serve s 0x01))

/-- WRITE (R274): An object WRITE applies a value, or one segment of it, as a one-entry atomic set. -/
def execWrite (s : State) : Out := done (live s (serve s 0x02))

/-- DESCRIBE (R274): An object DESCRIBE returns an entry's type, access, apply class, size, default and limits. -/
def execDescribe (s : State) : Out := done (live s (serve s 0x03))

/-- SET_OPEN (R283): SET_OPEN opens a set for the source in atomic or stop-apply mode. -/
def execSetOpen (s : State) : Out := done (live s (serve s 0x10))

/-- SET_ADD (R283): SET_ADD checks one entry's type and range and adds it to the open set. -/
def execSetAdd (s : State) : Out := done (live s (serve s 0x11))

/-- SET_APPLY (R285): SET_APPLY runs the configuration checks over the whole set and schedules it for a scan boundary. -/
def execSetApply (s : State) : Out := done (live s (serve s 0x12))

/-- SET_DROP (R274): SET_DROP discards the source's open set. -/
def execSetDrop (s : State) : Out := done (live s (serve s 0x13))

/-- SET_APPLICATION (R285): An accepted set or class S write applies at its scan boundary, and its response is sent. -/
def execSetApplication (s : State) : Out := done (live s (setApplication s))

/-- SET_TIMEOUT (R283): A set without SET_APPLY for 10 s is dropped and journaled. -/
def execSetTimeout (src : BitVec 16) (s : State) : Out := done (live s (setTimeout s src.toNat))

/-- ODX_GO (R282): ODX_CTRL.GO submits the mailbox request to the management pair. -/
def execOdxGo (s : State) : Out := done (live s (busTry s (odxGo s)))

/-- SLOT_COMMIT (R294): A write of 1 to 0x1F02:01 starts the commit of the downloaded slot in CHECK. -/
def execSlotCommit (s : State) : Out := done (live s ((slotCommit s).getD s))

/-- SLOT_CANCEL (R296): A write of 2 to 0x1F02:01 cancels a commit in CHECK or CONFIRM. -/
def execSlotCancel (s : State) : Out := done (live s ((slotCancel s).getD s))

/-- CHECK_DONE (R294): The slot checks complete and the commit moves to WRITE or FAIL. -/
def execCheckDone (s : State) : Out := done (live s (checkDone s))

/-- WRITE_DONE (R294): Erasing, programming and read-back complete and the commit moves to CONFIRM or FAIL. -/
def execWriteDone (ok : Bool) (left : List Byte) (s : State) : Out := done (live s (writeDone s ok left))

/-- CONFIRM_TIMEOUT (R294): The T_CONFIRM window expires without confirmation, and the commit fails with ERR_CONFIRM. -/
def execConfirmTimeout (s : State) : Out := done (live s (confirmTimeout s))

/-- FINAL_DONE (R294): VALID is programmed and read back, and the image load and swap request follow. -/
def execFinalDone (ok : Bool) (s : State) : Out := done (live s (finalDone s ok))

/-- COMMISSION_PRESS (R295): The filtered rise of COMMISSION_N ends a hold that is judged as a confirmation, a rejection or a
stray press. -/
def execCommissionPress (hold : Nat) (s : State) : Out := done (live s (commissionPress s hold))

/-- TRIAL_REVERT (R287): A write of 0x1F03:01 requests the restore of the booted slot's values. -/
def execTrialRevert (s : State) : Out := done (live s ((trialRevert s).getD s))

/-- TRIAL_RESTORE (R287): At the next scan boundary the RWS values, tables and image are restored and TRIAL clears. -/
def execTrialRestore (s : State) : Out := done (live s (trialRestore s))

/-- TRIAL_IMAGE (R288): A trial function image written to 0x2020:01 is verified, loaded and taken into CONFIRM. -/
def execTrialImage (bs : List Byte) (s : State) : Out := done (live s (trialImageRow s bs))

/-- JOURNAL_WRITE (R309): After the 20 µs merge delay a queued event is written as a journal entry in TB order. -/
def execJournalWrite (s : State) : Out := done (live s (journalWrite s))

/-- MIRROR_WRITE (R311): A journal page is written to the QSPI mirror; on failure the mirror stops. -/
def execMirrorWrite (ok : Bool) (s : State) : Out := done (live s (mirrorWrite s ok))

/-- MGMT_MISMATCH (R315): A management-pair mismatch resets both copies and restores the last checkpoint. -/
def execMgmtMismatch (sig : Word) (s : State) : Out := done (live s (mgmtMismatch s sig))

/-- MGMT_RECOVERED (R315): The checkpoint restore completes, the ledger is replayed and the pair resumes. -/
def execMgmtRecovered (s : State) : Out := done (live s (mgmtRecovered s))

/-- LIMITS_EXCEEDED (R462): A supply, VFIELD, VLED or die temperature has been out of range for 10 ms, and bit 1 of 0x8003:01 is
set. -/
def execLimitsExceeded (q : Fin 9) (lo : BitVec 16) (hi : BitVec 16) (s : State) : Out :=
  done (live s (limitsExceeded s q.val lo hi))

/-- LIMITS_RESTORED (R462): All limits have been back in range for 10 ms, and the bit clears. -/
def execLimitsRestored (vs : List (BitVec 16 × BitVec 16)) (s : State) : Out := done (live s (limitsRestored s vs))

end Sys2Proof.Machine
end

