-- ==== Sys2Proof/Machine/Start.lean ====
section
/-!
DEFINITION. Starts (R374 to R384, R405, R423 to R426, R435, R454, R455): reset, cold start, BIST and its outcome, the slot step, and the end of
a wake; life-cycle transitions (R390, R391) and the background self-test (R385, R386).
-/
namespace Sys2Proof.Machine

/-! ## What a start senses -/

/-- The majority of three samples. -/
def majority (v : BitVec 3) : Bool := decide (2 ≤ b2n (bitN v.toNat 0) + b2n (bitN v.toNat 1) + b2n (bitN v.toNat 2))

/-- Both bits of every step after the present state up to `t` (R390). -/
def lcBits (s : State) (t : Nat) : Nat :=
  ((List.range 5).map fun k => if lcState s < k + 1 && decide (k + 1 ≤ t) then 3 * 4 ^ k else 0).foldl (· + ·) 0

/-- The fuses after a reset: what a command or a transition has programmed stays in the cells (R391, R403). -/
def otpCut (s : State) (c : Cut) : Otp :=
  let s1 := otpDone s c.okA c.okB c.wkA c.wkB
  let s2 := match s.otp.lcProg with
    | some t => programRow s1 fuseRow (BitVec.ofNat 32 (lcBits s t)) c.okA c.okB c.wkA c.wkB
    | none => s1
  { s2.otp with cmd := none, lcProg := none }

/-- Cells of row `row` have changed (R404). -/
def wearRow (s : State) (row : Nat) (x : OtpWear) : State :=
  let o := s.otp
  let a := (cell o.cellA row &&& ~~~x.lostA) ||| x.gainA
  let b := (cell o.cellB row &&& ~~~x.lostB) ||| x.gainB
  { s with otp := { o with
      cellA := tabPut 0 o.cellA row a
      cellB := tabPut 0 o.cellB row b
      weakA := tabPut 0 o.weakA row ((cell o.weakA row ||| x.weakA) &&& a)
      weakB := tabPut 0 o.weakB row ((cell o.weakB row ||| x.weakB) &&& b) } }

/-- The cells that have changed before a start. -/
def wearAll (s : State) (n : Sense) : State := n.wear.foldl (fun t p => wearRow t p.1.val p.2) s

/-! ## Reset (R374) -/

/-- The power controller as a start begins. -/
def startPwr (p : Pwr) : Pwr := { pwr0 with rtc := p.rtc, rtcAcc := p.rtcAcc }

/-- A reset ends what a scan has left (R392). -/
def scanEnds (s : State) : State :=
  { s with kill := { s.kill with scan := false }, ports := { s.ports with wiping := false, wiped := false, scanUsed := false } }

/-- Everything but the always-on domain is reset; both memories lose their content (R480). -/
def resetAll (s : State) (c : Cut) : State :=
  let s1 := scanEnds (coreReset { s with otp := otpCut s c } isPwrReg)
  { s1 with tb := 0, mem := memLose s1.mem, pwr := startPwr s.pwr }

/-- RESET_ASSERT: `RESET_N` has been low for 1 µs. -/
def resetAssert (s : State) (c : Cut) : State :=
  let s1 := resetAll s c
  { s1 with pwr := { s1.pwr with resetLow := true } }

/-! ## POWER-UP (R375, R376, R454) -/

/-- Lane 1 is UNUSABLE without its fuse (R376) or when marked (R382). -/
def laneInit (s : State) : State :=
  if !lane1Present s || fldGet s Reg.BIST_UNUSABLE F.BIST_UNUSABLE_LANE1 = 1 then setLane s 1 3 else s

/-- The serial number, words 16 and 17 of region 0 (R266, R398). -/
def loadSerial (s : State) : State := regSet (regSet s Reg.BLY_SN_LO (otpWord s 0 16)) Reg.BLY_SN_HI (otpWord s 0 17)

/-- `BIST_STATUS.POLICY` is a copy of the fuse (R394). -/
def showPolicy (s : State) : State := fldSet s Reg.BIST_STATUS F.BIST_STATUS_POLICY (b2n (haltPolicy s))

/-- Clocks are locked, straps are sensed, and the device enters SELF-TEST, in which the regions are read and the trim is loaded; under
TMODE it stays in POWER-UP. -/
def senseAll (s : State) (n : Sense) : State :=
  let s1 := fldSet { s with ports := { s.ports with quad := majority n.quad } } Reg.SYS_CLK_STATUS F.SYS_CLK_STATUS_PLL_LOCK 7
  let s2 := setBlyBit s1 F.BLY_STATUS_POS (majority n.pos)
  if majority n.tmode then
    { s2 with kill := { s2.kill with hold := true }, pwr := { s2.pwr with stage := 6 } }
  else
    let s3 := enterDev (laneInit s2) .selfTest 0
    let s4 := loadSerial (otpSense { s3 with pwr := { s3.pwr with stage := 1 } })
    fldSet (showPolicy s4) Reg.ADC_TRIM F.ADC_TRIM_LOADED 1

/-- What becomes of the summit log at a start (R426): `aon` 0 kept, 1 its CHK fails, 2 VAON has left its range. -/
def startSummit (s : State) (aon : Nat) : State :=
  if aon = 0 then s
  else
    let s1 := { s with
      summit := summit0
      regs := if aon = 2 then s.regs.filter (fun p => !isPwrReg p.1) else s.regs
      pwr := if aon = 2 then { s.pwr with rtc := 0, rtcAcc := 0 } else s.pwr }
    log (fldSet s1 Reg.PWR_STATUS F.PWR_STATUS_SUMMIT_RST 1) 0x3007 aon 0 0

/-- A wake from HIBERNATE is recorded, and TB goes on (R424, R425, R426). -/
def hibRecord (s : State) (code wakeAt tb : Nat) : State :=
  let us := posUs (rtcPos s - wakeAt)
  let s1 := sumRecord { s with tb := tb } ⟨3, 0, 0, code, us, wakeAt / 390625 % 2 ^ 48⟩
  let s2 := regSet s1 Reg.PWR_LAST_WAKE (BitVec.ofNat 32 code)
  fldSet { s2 with summit := { s2.summit with wake := code } } Reg.PWR_TIMES F.PWR_TIMES_WAKE (min (us / 10) 0xFFFF)

/-- TB after a wake (R424): the stored TB and the RTC ticks since entry, 3051.7578 units each. -/
def wakeTb (s : State) : Nat :=
  s.summit.tbEntry + (rtcCount s + 2 ^ 48 - s.summit.rtcEntry % 2 ^ 48) % 2 ^ 48 * 30517578 / 10000

/-- After each wake its source, `PWR_WAKE_STAT` and its duration are journaled (R426). -/
def logWake (s : State) : State :=
  if s.pwr.wake || s.pwr.hibStart then
    log s 0x3004 s.summit.wake (regGet s Reg.PWR_WAKE_STAT).toNat (fldGet s Reg.PWR_TIMES F.PWR_TIMES_WAKE)
  else s

/-- A cold start runs up to SELF-TEST (R374, R375). -/
def coldStart (s : State) (aon : Nat) (n : Sense) (c : Cut) : State :=
  let hib := s.pwr.hibWake && aon = 0
  let s1 := wiredSense (wearAll (resetAll s c) n)
  let s2 := if hib then hibRecord s1 (lowestWake s) s.pwr.wakeAt (wakeTb s) else s1
  let s3 := startSummit s2 aon
  let s4 := { s3 with
    summit := { s3.summit with boot := s3.summit.boot + 1 }
    otp := { s3.otp with parity := n.parity.toNat }
    pwr := { s3.pwr with tbStart := s3.tb, hibStart := hib } }
  senseAll s4 n

/-- COLD_START: a power-on, or the rise of `RESET_N`. -/
def coldStartRow (s : State) (resetN : Bool) (aon : Nat) (n : Sense) (c : Cut) : State :=
  if resetN && !s.pwr.resetLow then s else coldStart s aon n c

/-! ## Marking blocks unusable (R26, R382) -/

/-- A core of the supervision set `old` was lost: the set is refilled, whether it is held now or not, and the new assignment is
journaled (R26, R319). -/
def refillSupv (s : State) (old : List Nat) : State :=
  if supvSet s = old then s
  else
    let s1 := if s.supv then ((supvSet s).filter fun n => !old.contains n).foldl (fun t n => adcSet t n adcSt0) s else s
    log s1 0xC001 9 0 (packBits (supvSet s).contains 4)

/-- Bit `k` of `BIST_UNUSABLE` is set and journaled. -/
def markBlock (s : State) (k : Nat) : State :=
  let w := setBitN (regGet s Reg.BIST_UNUSABLE).toNat k true
  if bitN (regGet s Reg.BIST_UNUSABLE).toNat k then s
  else
    let s1 := log (regSet s Reg.BIST_UNUSABLE (BitVec.ofNat 32 w)) 0x1001 w 0 0
    if k = 0 then setLane s1 1 3
    else if k ≤ 4 then refillSupv (adcReturn s1 (k - 1)) (supvSet s)
    else s1

/-- Bit `k` of another unusable register is set and journaled. -/
def markBit (a : Nat) (s : State) (k : Nat) : State :=
  if bitN (regGet s a).toNat k then s
  else log (regSet s a (BitVec.ofNat 32 (setBitN (regGet s a).toNat k true))) 0x1001 (regGet s Reg.BIST_UNUSABLE).toNat 0 0

/-- The set bits of a mask, lowest first. -/
def maskBits (m n : Nat) : List Nat := (List.range n).filter (bitN m)

/-- Bits of `BIST_UNUSABLE` that name a block. -/
def blockMask : Nat := 0xFFE3F

def markAll (s : State) (m : Marks) : State :=
  let s1 := (maskBits (Nat.land m.blocks blockMask) 20).foldl markBlock s
  let s2 := (maskBits m.ins 8).foldl (markBit Reg.BIST_IN_UNUSABLE) s1
  let s3 := (maskBits m.outs 24).foldl (markBit Reg.BIST_OUT_UNUSABLE) s2
  (maskBits m.strs 32).foldl (markBit Reg.BIST_STR_UNUSABLE) s3

def anyMark (m : Marks) : Bool := Nat.land m.blocks blockMask ≠ 0 || m.ins ≠ 0 || m.outs ≠ 0 || m.strs ≠ 0

/-! ## Converters (R379) -/

def insertNat (x : Nat) : List Nat → List Nat
  | [] => [x]
  | y :: t => if x ≤ y then x :: y :: t else y :: insertNat x t

/-- Twice the median of four readings. DESIGN CHOICE (log entry 200): the median of four is the mean of the two in the middle. -/
def median4 (l : List Nat) : Nat :=
  let t := l.foldr insertNat []
  t.getD 1 0 + t.getD 2 0

/-- The reading `x` deviates by more than 1.5 % from the median, of which `m` is twice the value. -/
def deviates (x m : Nat) : Bool := decide (15 * m < 1000 * (2 * x - m)) || decide (15 * m < 1000 * (m - 2 * x))

/-- The cores that fail: both bandgaps off the median, or every core when the bandgaps differ by more than 1.5 %. DESIGN CHOICE (log
entry 200): 1.5 % of bandgap A. -/
def gapsFail (g : Gaps) : Nat → Bool :=
  let a := g.a.map BitVec.toNat
  let b := g.b.map BitVec.toNat
  let ma := median4 a
  let mb := median4 b
  fun k => decide (15 * ma < 1000 * (mb - ma)) || decide (15 * ma < 1000 * (ma - mb)) || (deviates (a.getD k 0) ma && deviates (b.getD k 0) mb)

/-- What the tests mark, with the cores that the bandgap test marks. -/
def withGaps (m : Marks) (g : Gaps) : Marks := { m with blocks := Nat.lor m.blocks (2 * packBits (gapsFail g) 4) }

/-! ## BIST (R378 to R384) -/

/-- The halt policy holds the device in reset in SELF-TEST (R383). -/
def holdReset (s : State) (code : Nat) : State :=
  let s1 := coreReset s fun a => isPwrReg a || isBistReg a
  { s1 with
    dev := .selfTest
    summit := { s1.summit with fatal := code }
    pwr := { s1.pwr with stage := 7 } }

/-- A failed essential block (R381): SAFE-STOPPED with `FAULT_N` low and the kill line asserted; no slot is loaded. -/
def essentialOutcome (s : State) : State :=
  if haltPolicy s then holdReset s 0x1001
  else
    let s1 := logWake (journalContinue (log s 0x1001 (regGet s Reg.BIST_UNUSABLE).toNat 0 0) s.pwr.tbStart)
    enterDev { s1 with kill := { s1.kill with hold := true }, pwr := { s1.pwr with stage := 4 } } .safeStopped 0x1001

/-- An attempt whose conditions failed (R378). -/
def bistInvalid (s : State) (mv err : Nat) : State :=
  let s1 := log (fldSet s Reg.BIST_STATUS F.BIST_STATUS_RESULT 4) 0x1002 (min (s.pwr.retries + 1) 3) mv err
  if s.pwr.retries < 3 then { s1 with pwr := { s1.pwr with stage := 2, invalidAt := s.tb } }
  else if haltPolicy s then holdReset s1 0x1002
  else essentialOutcome s1

/-- After BIST: the slot step follows, but not in BLANK and SCRAPPED (R388). -/
def bistPassed (s : State) : State :=
  { s with pwr := { s.pwr with stage := if lcState s = 0 || lcState s = 5 then 5 else 3 } }

/-- Tests that ran: a wake runs those of R423 only, which cover lane comparators, converters and gate drivers. -/
def marksOf (s : State) (m : Marks) : Marks := if s.pwr.wake then ⟨Nat.land m.blocks 0x1F, 0, m.outs, 0⟩ else m
def essentialOf (s : State) (ess : Nat) : Nat := if s.pwr.wake then Nat.land ess 0x25 else ess

/-- Deferred lamp tests (R380): LED bank 0, LED bank 1, matrix. -/
def setDefer (s : State) (d : Nat) : State :=
  fldSet { s with pwr := { s.pwr with defer0 := bitN d 0, defer1 := bitN d 1, deferM := bitN d 2 } }
    Reg.BIST_STATUS F.BIST_STATUS_DEFER (b2n (d ≠ 0))

/-- The lamp tests that a supply below 11.0 V defers, mV (R380). -/
def lampsDefer (vled0 vled1 vscn : Nat) : Nat := b2n (vled0 < 11000) + 2 * b2n (vled1 < 11000) + 4 * b2n (vscn < 11000)

/-- The supervision set takes its cores before any configuration is loaded. -/
def supvStart (s : State) : State := { s with supv := supvWanted s }

/-- The conditions of an attempt, as last measured: VDD_CORE within 0.77–0.83 V, the SYS clock within ±1 % (R378). -/
def bistValid (mv err : Nat) : Bool :=
  decide (770 ≤ mv) && decide (mv ≤ 830) && decide (-100 ≤ ofTwos 16 err) && decide (ofTwos 16 err ≤ 100)

/-- BIST_COMPLETE (R378, R381 to R383): an attempt ends with the conditions `mv` and `err` of `BIST_COND`. -/
def bistComplete (s : State) (mv err time ess defer : Nat) (g : Gaps) (m : Marks) : State :=
  if !(s.dev = .selfTest && s.pwr.stage = 1) then s
  else
    let s1 := fldSet (fldSet s Reg.BIST_COND F.BIST_COND_VDD mv) Reg.BIST_COND F.BIST_COND_ERR err
    let s3 := regSet s1 Reg.BIST_TIME (BitVec.ofNat 32 (time % 2 ^ 16))
    if !bistValid mv err then bistInvalid s3 mv err
    else
      let e := essentialOf s ess
      let k := marksOf s (withGaps m g)
      let s4 := supvStart (if s.pwr.wake then s3 else { s3 with mem := memZero s3.mem })
      let s5 := markAll (if s.pwr.wake then s4 else setDefer s4 defer) k
      if e ≠ 0 then
        essentialOutcome (fldSet (fldSet s5 Reg.BIST_STATUS F.BIST_STATUS_ESSENTIAL e) Reg.BIST_STATUS F.BIST_STATUS_RESULT 3)
      else
        if anyMark k && haltPolicy s then holdReset (fldSet s5 Reg.BIST_STATUS F.BIST_STATUS_RESULT 2) 0x1001
        else
          let marked := anyMark k || degradedCauses s5 / 4 % 2 = 1
          bistPassed (fldSet s5 Reg.BIST_STATUS F.BIST_STATUS_RESULT (if marked then 2 else 1))

/-- BIST_RETRY (R378). -/
def bistRetry (s : State) : State :=
  if s.pwr.stage = 2 && s.dev = .selfTest && decide (s.pwr.invalidAt + 1000000 ≤ s.tb) then
    let s1 := fldSet { s with pwr := { s.pwr with stage := 1, retries := s.pwr.retries + 1 } } Reg.BIST_STATUS F.BIST_STATUS_RESULT 0
    fldSet s1 Reg.BIST_STATUS F.BIST_STATUS_RETRIES (s.pwr.retries + 1)
  else s

/-- DEFERRED_LAMP_TEST (R380): bank `k`, or the matrix for 2, after its supply has been within 11.5–31.0 V for 1 ms, in which it lay
between `lo` and `hi` mV; a failure marks strings of the bank, or the matrix, and the hold of R383 does not apply. -/
def deferredTest (s : State) (k lo hi strs : Nat) (mtxFails : Bool) : State :=
  let p := s.pwr
  if !started s.dev || s.dev = .faulted || decide (lo < 11500) || decide (31000 < hi) then s
  else if (k = 0 && p.defer0) || (k = 1 && p.defer1) || (k = 2 && p.deferM) then
    let s1 := setDefer s (b2n (p.defer0 && k ≠ 0) + 2 * b2n (p.defer1 && k ≠ 1) + 4 * b2n (p.deferM && k ≠ 2))
    let bad := if k < 2 then ((maskBits strs 32).filter fun n => bankOfString n = k) else []
    let s2 := bad.foldl (markBit Reg.BIST_STR_UNUSABLE) s1
    let s3 := if k = 2 && mtxFails then markBlock s2 5 else s2
    if bad = [] && !(k = 2 && mtxFails) then s3 else degrade (failUnusable s3)
  else s

/-! ## The slot step (R291 to R293, R435) -/

/-- A torn slot, or one whose CRC or seal fails, is journaled (R293). -/
def logSlot (s : State) (k : Nat) : State :=
  let st := slotState s k
  if st = 2 && s.slots.booted = 1 - k then log s 0x2002 k (hdrSeq (slotBytes s k)) 0
  else if st = 3 || st = 4 then log s 0x2003 k st 0
  else s

/-- The image of the booted slot goes into bank A and runs; `equal`: both lanes' read-backs agree (R124). -/
def startLoad (s : State) (image : List Byte) (equal : Bool) : State :=
  let s1 := loadDone (firmwareLoad s image) equal
  if fldGet s1 Reg.SLE_IMG_STAT F.SLE_IMG_STAT_RESULT = 2 then startImage s1 else s1

/-- The slot of this start: content checks, parameters and tables, image. -/
def bootSlot (s : State) (equal : Bool) : State :=
  let k := bootChoice s
  let s1 := showSlots s
  let b := slotBytes s k
  let s2 := if k = 255 then { s1 with slots := { s1.slots with booted := 255 } }
    else { s1 with slots := { s1.slots with booted := k, crc := hdrCrc b, seq := hdrSeq b } }
  let s3 := logSlot (logSlot s2 0) 1
  if k = 255 then configChanged (standbyInit s3)
  else match slotBad s3 (slotBody b) with
    | some r => configChanged (standbyInit (logRefused s3 (some r)))
    | none => match slotParts (slotBody b) with
      | some p => startLoad (applySlot s3 p) p.image equal
      | none => s3

/-- The patch area carries this BODY_CRC and VALID: a section with the same BODY_CRC is not written again. -/
def patchStands (s : State) (crc : Nat) : Bool := hdrCrc s.flash.patch = crc && hdrValid s.flash.patch = 0x5AC33CA5

/-- The patch section of the booted slot that differs from the patch area, or that a write left without VALID (R435). -/
def newPatch (s : State) : Option (List Byte) :=
  if s.slots.booted < 2 then
    match slotParts (slotBody (slotBytes s s.slots.booted)) with
    | some p => p.patch.bind fun v =>
        if areaState patchMagic s.otp.key v = 0 && !patchStands s (hdrCrc v) then some v else none
    | none => none
  else none

/-- The booted slot carries a patch section. -/
def carriesPatch (s : State) : Bool :=
  s.slots.booted < 2 && (sectionOf (slotBody (slotBytes s s.slots.booted)) 7).isSome

/-- The patch area is not intact: the device runs without a patch, which is journaled. -/
def logNoPatch (s : State) : State :=
  if areaState patchMagic s.otp.key s.flash.patch = 0 then s else log s 0x2006 1 (hdrCrc s.flash.patch) 0

/-- SAFE-STOPPED at the end of a start: the kill line is released, BOOT or WAKE is journaled (R375, R423, R482). -/
def enterSafe (s : State) (pinLow : Bool) : State :=
  let s1 := logWake (if s.pwr.wake then s else log s 0x0002 s.summit.boot s.slots.booted (lcState s))
  let bad := vendorDamaged s
  let s2 := { s1 with
    slots := { s1.slots with needHigh := pinLow }
    pwr := { s1.pwr with stage := 4, vendorBad := bad }
    ports := { s1.ports with bgStart := s1.tb } }
  failUnusable (enterDev (srcFirst s2) .safeStopped (if bad then 0x2005 else if s.pwr.wake then 0x3004 else 0x0002))

/-- STARTUP_COMPLETE (R312, R375, R423, R435). `equal`: the image load matches; `pinLow`: level of `COMMISSION_N`; `patch`: a patch write
fails (0), succeeds (1), or the device is reset in it (2); `left`: what one that does not succeed leaves in the patch area; `n`: what the
cold start after a patch write senses. -/
def startupComplete (s : State) (equal pinLow : Bool) (patch : Nat) (left : List Byte) (n : Sense) : State :=
  if !(s.dev = .selfTest && s.pwr.stage = 3) then s
  else
    let s1 := bootSlot (logNoPatch (journalContinue s s.pwr.tbStart)) equal
    match newPatch s1 with
    | some v =>
      if lcState s1 ≠ 2 then enterSafe (log s1 0x2006 4 (hdrCrc v) 0) pinLow
      else if patch = 1 then
        let s2 := log { s1 with flash := { s1.flash with patch := v } } 0x2006 2 (hdrCrc v) 0
        coldStart (flushJournal s2 true) 0 n ⟨0, 0, 0, 0⟩
      else
        let s2 := { s1 with flash := { s1.flash with patch := withoutValid left } }
        if patch = 0 then enterSafe (log s2 0x2006 3 (hdrCrc v) 0) pinLow else resetAssert s2 ⟨0, 0, 0, 0⟩
    | none =>
      if carriesPatch s1 && lcState s1 ≠ 2 then
        enterSafe (log s1 0x2006 4 (hdrCrc ((sectionOf (slotBody (slotBytes s1 s1.slots.booted)) 7).getD [])) 0) pinLow
      else enterSafe s1 pinLow

/-! ## Life cycle (R390) -/

/-- LC_PROGRAM_DONE: every step up to the target is blown, and the device performs a cold start. -/
def lcProgramDone (s : State) (n : Sense) : State :=
  match s.otp.lcProg with
  | some _ => coldStart s 0 n ⟨0xFFFFFFFF, 0xFFFFFFFF, 0, 0⟩
  | none => s

/-! ## The end of a wake from SLEEP (R421 to R424) -/

/-- The core runs again from its reset with the registers bank 0 retained. -/
def wakeCore (s : State) : State :=
  let tb := wakeTb s
  let us := posUs (rtcPos s - s.pwr.wakeAt)
  let code := lowestWake s
  let s1 := sumRecord s ⟨2, 0, 0, code, us, s.pwr.wakeAt / 390625 % 2 ^ 48⟩
  let s2 := coreReset { s1 with tb := tb } fun a => isPwrReg a || isBistReg a
  let s3 := s.pwr.saved.foldl (fun t p => regSet t p.1 p.2) s2
  let s4 := fldSet (regSet s3 Reg.PWR_LAST_WAKE (BitVec.ofNat 32 code)) Reg.PWR_TIMES F.PWR_TIMES_WAKE (min (us / 10) 0xFFFF)
  { s4 with
    summit := { s4.summit with wake := code }
    sle := { s4.sle with undefA := true, undefB := true }
    pwr := { startPwr s4.pwr with
      wake := true, tbStart := tb, defer0 := s4.pwr.defer0, defer1 := s4.pwr.defer1, deferM := s4.pwr.deferM } }

/-- A summit log whose CHK fails at a wake is cleared; the boot count restarts at 1 (R426). DESIGN CHOICE (log entry 203): the stored TB and
RTC count are then those of the cleared log. -/
def wakeSummit (s : State) (chkBad : Bool) : State :=
  if chkBad then (let s1 := startSummit s 1
                  { s1 with summit := { s1.summit with boot := 1 } })
  else s

/-- WAKE_STEP_READY: the ready signal of the running step; the regulator step is held until the supplies are in range (R410); `flips`:
bytes of the retention SRAM that have changed, found at the memory step; `chkBad`: the CHK of the summit log fails; `n`: the straps at
the logic step. A wake from HIBERNATE goes on as a cold start once the core has power (R425). -/
def wakeStepReady (s : State) (flips : List (Nat × Byte)) (chkBad : Bool) (n : Sense) : State :=
  if s.dev = .faulted then s else
  let go := fun (t : State) (k : Nat) => { t with pwr := { t.pwr with step := k, stepAt := rtcPos t } }
  match s.pwr.step with
  | 1 => if s.kill.supply then s else go (pmbOn s) 2
  | 2 => if s.pwr.state = 3 then { s with pwr := { s.pwr with step := 0, hibWake := true } } else go s 3
  | 3 => go s 4
  | 4 => go (memoryStep s flips) 5
  | 5 =>
    let t := (maskBits (regGet s Reg.PWR_RET_FAIL).toNat 4).foldl (fun t b => log t 0x3002 b 0 0) (wakeCore (wakeSummit s chkBad))
    senseAll (wearAll t n) n
  | _ => s

/-! ## Background self-test (R385, R386) -/

/-- Slices run in these states; one that falls due in RECOVERING or during a resynchronisation waits. -/
def slicesRun (s : State) : Bool :=
  fldGet s Reg.BIST_BG_CFG F.BIST_BG_CFG_EN = 1 && (s.dev = .run || s.dev = .degraded || s.dev = .safeStopped) && pairRuns s &&
    !(pstate s = 4 || pstate s = 5) && s.pwr.entering = none

/-- Lane 1 is the spare lane. -/
def spareLane (s : State) : Bool := s.sle.lane1 = 0 && !wide s

/-- Number of a slice in the cycle; the spare lane comes last. -/
def sliceId : Slice → Nat
  | .sram b k => 256 * b.val + k.val
  | .ret b k => 2048 + 8 * b.val + k.val
  | .input i => 2080 + i.val
  | .output c => 2208 + c.val
  | .adc n => 2232 + n.val
  | .otp g _ => 2236 + g.val
  | .spareStart => 2373
  | .spare => 2373

/-- Slices of a cycle: 2373, and that of the spare lane where there is one. -/
def sliceTotal (s : State) : Nat := 2373 + b2n (spareLane s)

/-- How many of them have run in this cycle. -/
def slicesRan (s : State) : Nat := (s.ports.bgRan.filter (· < 2373)).length + b2n (spareLane s && s.ports.bgRan.contains 2373)

/-- The cycle in ticks. -/
def bgCycle (s : State) : Nat := fldGet s Reg.BIST_BG_CFG F.BIST_BG_CFG_CYCLE * 360000000000

/-- The next slice of the cycle is due: the slices are spread evenly over it (R385). DESIGN CHOICE (log entry 201): their order is
open. -/
def sliceDue (s : State) : Bool := decide (slicesRan s * bgCycle s ≤ (s.tb - s.ports.bgStart) * sliceTotal s) && decide (s.ports.bgStart ≤ s.tb)

/-- The OTP command that runs works on a region with a row in the group (R403). -/
def otpBusyAt (s : State) (g : Nat) : Bool :=
  match s.otp.cmd with
  | some k => (List.range 4).any fun i => match rowWord s (4 * g + i) with
    | some w => decide (w < 512) && w / 32 = cmdRegion s k
    | none => false
  | none => false

/-- The slice is due and has hardware to test now: a spare lane that is not yet in its slice, or is, no readback mask on the channel
(R387), no OTP command on the region (R403). -/
def sliceReady (s : State) (k : Slice) : Bool :=
  !s.ports.bgRan.contains (sliceId k) &&
    (match k with
     | .spareStart => sliceDue s && spareLane s && s.sle.recov = none && s.sle.spareTest = none
     | .spare => spareLane s && s.sle.spareTest.isSome
     | .output c => sliceDue s && !masked s c.val
     | .otp g _ => sliceDue s && !otpBusyAt s g.val
     | _ => sliceDue s)

/-- Reactions to a failed slice (R386); the margin scan reacts under R404. -/
def sliceFails (s : State) : Slice → State
  | .sram b _ => if b.val = 0 then fatal (log s 0x1001 (regGet s Reg.BIST_UNUSABLE).toNat 0 0) 0x1001 0 else degrade (markBlock s (8 + b.val))
  | .ret b _ => degrade (markBlock s (16 + b.val))
  | .input i => degrade (markBit Reg.BIST_IN_UNUSABLE s (i.val / 16))
  | .output c => degrade (markBit Reg.BIST_OUT_UNUSABLE s c.val)
  | .adc n => degrade (markBlock s (1 + n.val))
  | .spare => failLane s 1 5 (lastSig s)
  | .spareStart => s
  | .otp _ _ => s

/-- What the test of a slice does to its hardware: the step of a comparator (R386), and the spare lane's test ends. -/
def sliceSteps (s : State) : Slice → State
  | .input i => { s with fio := { s.fio with slice := some (i.val, s.tb) } }
  | .output c => { s with sout := { s.sout with slice := some (c.val, s.tb) } }
  | .spare => { s with sle := { s.sle with spareTest := none } }
  | _ => s

/-- Row `row` has changed by `x`; a word in use whose normal read would change keeps its value until the next reset, and its region
raises the alarm (R404). A row of the wired row keeps its value in its latches (R376). The list names the words that changed. -/
def marginRow (row : Nat) (x : OtpWear) (acc : State × List Nat) : State × List Nat :=
  let s := acc.1
  let s1 := wearRow s row x
  match rowWord s row with
  | none => (s1, acc.2)
  | some w =>
    let before := if w < 512 then otpWord s (w / 32) (w % 32) else rowNormal s row
    if rowNormal s1 row = rowNormal s row || unsensed s (w / 32) then (s1, acc.2)
    else if w < 512 then
      (regSet { s1 with otp := { s1.otp with held := tabIns s1.otp.held w before } } Reg.OTP_ALARM
        (BitVec.ofNat 32 (setBitN (regGet s1 Reg.OTP_ALARM).toNat (w / 32) true)), w :: acc.2)
    else (s1, w :: acc.2)

/-- What a margin scan of the four rows from 4 × g finds (R404), and whether it is journaled: a changed word, or a marginal word not
counted yet. -/
def marginScan (s : State) (g : Nat) (ws : List OtpWear) : State × Bool :=
  let words := ((List.range 4).filterMap fun i => rowWord s (4 * g + i)).filter fun w => !unsensed s (w / 32)
  let r := (ws.take 4).zipIdx.foldl (fun acc p => marginRow (4 * g + p.2) p.1 acc) (s, [])
  let s2 := r.1
  let fresh := words.filter fun w =>
    !s2.otp.known.contains w && rowMarginal s2 (if w < 512 then otpRow s2 (w / 32) (w % 32) else w)
  let s3 := if fresh = [] then s2 else showMargin s2 (s2.otp.known ++ fresh)
  if r.2 = [] && fresh = [] then (s3, false)
  else (log s3 0x2005 ((regGet s3 Reg.OTP_ALARM).toNat % 65536) s3.otp.known.length 0, true)

/-- Number of a slice's kind, in the order of R386. -/
def sliceKind : Slice → Nat
  | .sram _ _ => 1
  | .ret _ _ => 2
  | .input _ => 3
  | .output _ => 4
  | .adc _ => 5
  | .spareStart => 6
  | .spare => 6
  | .otp _ _ => 7

/-- Decision 8 is journaled (R319); kind 0 is a completed cycle. -/
def logSlice (s : State) (kind n : Nat) : State :=
  log s 0xC001 8 (Config.sliceInstance kind).toNat (Config.sliceValue kind n).toNat

/-- The slice with this number has run: the next cycle starts when all have (R385, R394). -/
def sliceRan (s : State) (id : Nat) : State :=
  let s1 := { s with ports := { s.ports with bgRan := id :: s.ports.bgRan } }
  if slicesRan s1 < sliceTotal s1 then
    fldSet s1 Reg.BIST_BG_STAT F.BIST_BG_STAT_PROGRESS (slicesRan s1 * 100 / sliceTotal s1)
  else
    let s2 := { s1 with ports := { s1.ports with bgRan := [], bgStart := s.ports.bgStart + bgCycle s } }
    let s3 := fldSet s2 Reg.BIST_BG_STAT F.BIST_BG_STAT_PROGRESS 0
    logSlice (fldBump s3 Reg.BIST_BG_STAT F.BIST_BG_STAT_CYCLES 1) 0 (fldGet s3 Reg.BIST_BG_STAT F.BIST_BG_STAT_CYCLES)

/-- A slice has failed: it is counted and journaled (R385, R394). -/
def sliceBad (s : State) (kind : Nat) (failed : Bool) : State :=
  if failed then logSlice (fldBump s Reg.BIST_BG_STAT F.BIST_BG_STAT_FAILED 1) kind (fldGet s Reg.BIST_BG_STAT F.BIST_BG_STAT_FAILED)
  else s

/-- BG_SLICE: slice `k` runs; `fails`: it finds a fault. The slice of OTP rows reads them at both margins; it counts as failed when it
finds something to journal (log entry 201). The slice of the spare lane takes 15 ms, from `spareStart` to `spare`. -/
def bgSlice (s : State) (k : Slice) (fails : Bool) : State :=
  if slicesRun s && sliceReady s k then
    let s := ungateBlock s 0
    match k with
    | .spareStart => { s with sle := { s.sle with spareTest := some s.tb } }
    | .otp g ws =>
      let r := marginScan s g.val ws
      sliceRan (sliceBad r.1 7 r.2) (sliceId (.otp g ws))
    | k =>
      let s1 := sliceBad (sliceRan (sliceSteps s k) (sliceId k)) (sliceKind k) fails
      if fails then failUnusable (sliceFails s1 k) else s1
  else s

end Sys2Proof.Machine
end

