-- ==== Sys2Proof/Machine/CmdPwr.lean ====
section
/-!
DEFINITION. The meanings of the power commands, one per row of the table.
-/
namespace Sys2Proof.Machine

/-- REQ_DOZE (R412): Request code 1 enters DOZE, where idle blocks are clock-gated. -/
def execReqDoze (spi : Bool) (src : BitVec 16) (s : State) : Out :=
  done (live s (if spi then pwrReqWrite s 1 else (pwrRequest s 1 src.toNat).getD s))

/-- REQ_RUN (R412): Request code 4 returns the device from DOZE to RUN. -/
def execReqRun (spi : Bool) (src : BitVec 16) (s : State) : Out :=
  done (live s (if spi then pwrReqWrite s 4 else (pwrRequest s 4 src.toNat).getD s))

/-- REQ_SLEEP (R413): Request code 2 writes the journal page, stops the blocks in order, saves retention, clamps and switches
the regulator off. -/
def execReqSleep (spi : Bool) (us : Nat) (page : Bool) (ack : Bool) (s : State) : Out :=
  done (live s (lowEntry (flashEnds (if spi then pwrReqWrite s 2 else s) 2) 2 us page ack))

/-- REQ_HIBERNATE (R425): Request code 3 enters HIBERNATE without saving retention. -/
def execReqHibernate (spi : Bool) (us : Nat) (page : Bool) (ack : Bool) (s : State) : Out :=
  done (live s (lowEntry (flashEnds (if spi then pwrReqWrite s 3 else s) 3) 3 us page ack))

/-- REGULATOR_ACK_TIMEOUT (R413): A missing regulator acknowledgement is retried at 100 µs intervals, then treated as a refusal.
-/
def execRegulatorAckTimeout (ack : Bool) (s : State) : Out := done (regulatorAck s ack)

/-- CLOCK_GATE (R412): A DOZE block has been idle for 1024 SYS cycles and its clock is gated. -/
def execClockGate (b : Fin 62) (s : State) : Out := done (live s (clockGate s b.val))

/-- WAKE_EVENT (R418): A wake pin, the RTC alarm or ROPE_WAKE gives a latched wake event that starts the wake sequence. -/
def execWakeEvent (code : Fin 11) (s : State) : Out := done (wakeEvent s code.val)

/-- WAKE_STEP_READY (R421): A wake step's ready signal arrives in AON and the next step starts. -/
def execWakeStepReady (flips : List (Fin 32768 × Byte)) (chkBad : Bool) (n : Sense) (s : State) : Out :=
  done (wakeStepReady s (flips.map fun p => (p.1.val, p.2)) chkBad n)

/-- WAKE_STEP_TIMEOUT (R421): A wake step's ready signal misses its maximum; the regulator is switched off and WAKE_FAIL set. -/
def execWakeStepTimeout (s : State) : Out := done (wakeStepTimeout s)

/-- WAKE_RETRY (R421): 100 ms after a failed wake the sequence is repeated, up to three times. -/
def execWakeRetry (s : State) : Out := done (wakeRetry s)

/-- CORE_SUPPLY (R438): PGOOD low or VDD_CORE out of window for 10 µs sends the device to FAULTED. -/
def execCoreSupply (low : Bool) (mv : BitVec 16) (s : State) : Out :=
  done (live s (coreSupply s (if low then 1 else 2) mv.toNat))

/-- PMBUS_STATUS_POLL (R437): Every 100 ms the PMBus master reads STATUS_WORD and journals changes. -/
def execPmbusStatusPoll (w : Option (BitVec 16)) (s : State) : Out := done (live s (pmbusPoll s (w.map BitVec.toNat)))

end Sys2Proof.Machine
end

