-- ==== Sys2Proof/Machine/CmdRope.lean ====
section
/-!
DEFINITION. The meanings of the Rope commands, one per row of the table.
-/
namespace Sys2Proof.Machine

/-- ROPE_RX_LOCK_LOST (R24): A recovered Rope clock loses lock; the port is declared broken and ring healing starts. -/
def execRopeRxLockLost (p : Fin 3) (s : State) : Out := done (live s (rxLockLost s p.val))

/-- COMMIT_GO (R192): A local commit is offered to ASP from the commit registers, and with SEND it is also sent on the Rope. -/
def execCommitGo (send : Bool) (s : State) : Out := done (live s (busOk (commitGo s send) 0))

/-- SAFE_FRAME_TX (R216): 7.2 µs after a scan boundary the node sends its own SAFE frame on every port that is up. -/
def execSafeFrameTx (s : State) : Out := done (live s (safeFrameTx s))

/-- SAFE_WINDOW (R218): At each 62.5 µs TB multiple every egress reserves the SAFE window for SAFE frames. -/
def execSafeWindow (s : State) : Out := done (live s (safeWindow s))

/-- SAFE_FRAME (R219): A SAFE frame is received, then forwarded cut-through and delivered to the subscriptions. -/
def execSafeFrame (p : Fin 3) (f : SafeFrame) (fcs : Bool) (s : State) : Out :=
  done (live s (throughFifo s p.val (.safe f) fun s => safeFrame s p.val f fcs))

/-- OBJECT_FRAME (R220): An OBJECT frame is received, forwarded and delivered to the object service. -/
def execObjectFrame (p : Fin 3) (f : ObjFrame) (fcs : Bool) (s : State) : Out :=
  done (live s (throughFifo s p.val (.object f) fun s => objectArrives s p.val f fcs))

/-- COMMIT_FRAME (R220): A COMMIT frame is received, forwarded and delivered to ASP. -/
def execCommitFrame (p : Fin 3) (f : CommitFrame) (fcs : Bool) (s : State) : Out :=
  done (live s (throughFifo s p.val (.commit f) fun s => commitFrame s p.val f fcs))

/-- FOREIGN_FRAME (R213): A frame with a wrong EtherType, type or version is dropped and counted. -/
def execForeignFrame (p : Fin 3) (s : State) : Out := done (live s (foreignFrame s p.val))

/-- TIME_SYNC (R229): A TIME SYNC arrives; TB is corrected and a new SYNC is sent on the other ports. -/
def execTimeSync (p : Fin 3) (f : TimeFrame) (fcs : Bool) (sub : Fin 10) (s : State) : Out :=
  done (live s (throughFifo s p.val (.time f) fun s => timeSync s p.val f fcs sub.val))

/-- SYNC_SEND (R229): Every 1 ms the active root sends TIME SYNC on every port. -/
def execSyncSend (s : State) : Out := done (live s (syncSend s))

/-- DELAY_MEASURE (R229): Every 100 ms a port sends a TIME DREQ to measure its link delay. -/
def execDelayMeasure (p : Fin 3) (s : State) : Out := done (live s (delayMeasure s p.val))

/-- TIME_DREQ (R229): A TIME DREQ is received and answered with a DRESP on the same link. -/
def execTimeDreq (p : Fin 3) (f : TimeFrame) (fcs : Bool) (sub : Fin 10) (s : State) : Out :=
  done (live s (throughFifo s p.val (.time f) fun s => timeDreq s p.val f fcs sub.val))

/-- TIME_DRESP (R229): A TIME DRESP is received and the link delay is computed. -/
def execTimeDresp (p : Fin 3) (f : TimeFrame) (fcs : Bool) (sub : Fin 10) (s : State) : Out :=
  done (live s (throughFifo s p.val (.time f) fun s => timeDresp s p.val f fcs sub.val))

/-- ROOT_TAKEOVER (R229): The backup root sees no SYNC for 5 ms and becomes the active root. -/
def execRootTakeover (s : State) : Out := done (live s (rootTakeover s))

/-- TIME_UNLOCKED (R230): A node has not been locked for 10 ms, and sets UNLOCKED in its frames. -/
def execTimeUnlocked (s : State) : Out := done (live s (timeUnlocked s))

/-- PCS_SYNC_LOST (R227): A port loses PCS synchronisation, declares its link broken and, in a ring, sends BREAK. -/
def execPcsSyncLost (p : Fin 3) (s : State) : Out := done (live s (pcsSyncLost s p.val))

/-- LINK_SILENCE (R227): No valid frame has arrived for 3 neighbour scan periods, and the link is declared broken. -/
def execLinkSilence (p : Fin 3) (s : State) : Out := done (live s (linkSilence s p.val))

/-- RING_BREAK (R227): A RING-CONTROL BREAK is received and forwarded, and a held standby port opens. -/
def execRingBreak (p : Fin 3) (f : RingFrame) (fcs : Bool) (s : State) : Out :=
  done (live s (throughFifo s p.val (.ring f) fun s => ringBreak s p.val f fcs))

/-- LINK_REPAIRED (R228): A broken link has regained sync and valid frames for 3 scan periods; it becomes the standby link and
RESTORED is sent. -/
def execLinkRepaired (p : Fin 3) (s : State) : Out := done (live s (linkRepaired s p.val))

/-- RING_RESTORED (R228): A RING-CONTROL RESTORED frame is received and forwarded. -/
def execRingRestored (p : Fin 3) (f : RingFrame) (fcs : Bool) (s : State) : Out :=
  done (live s (throughFifo s p.val (.ring f) fun s => ringRestored s p.val f fcs))

/-- SUB_EXPIRED (R224): At a scan start more than T_wd has passed since a subscription's last accepted frame; its bits go to 0.
-/
def execSubExpired (k : Fin 256) (s : State) : Out := done (live s (subExpired s k.val))

/-- ROPE_PORT_ERR_READ (R4): A read of ROPE_PORTn_ERR returns the FCS and DROP counts and clears them. -/
def execRopePortErrRead (p : Fin 3) (s : State) : Out :=
  done (live s (access s (Reg.ROPE_PORT_ERR p.val) fun s => rcRead s (Reg.ROPE_PORT_ERR p.val)))

/-- PORT_UP (R229): A Rope port gains PCS synchronisation (with auto-negotiation) and comes up, so it starts sending SAFE frames
and the backup root's 5 ms SYNC wait can start. -/
def execPortUp (p : Fin 3) (s : State) : Out := done (live s (portUpEvent s p.val))

end Sys2Proof.Machine
end

