-- ==== Sys2Proof/Machine/Scan.lean ====
section
/-!
DEFINITION. The scan start (R64 to R68, R89, R115): release of the previous scan at the boundary, what an accepted start reset
does, and the start of the next scan with its exchange in a pair (R242, R249, R261).
-/
namespace Sys2Proof.Machine

/-- A scan starts now: an image runs, TB is a multiple of t_scan that has not started a scan, the lane is not halted, and the part
is past its self-test and not in FAULTED. -/
def scanOpen (s : State) : Bool :=
  s.sle.hasImage && atBoundary s && s.sle.lastStart ≠ some s.tb && !s.sle.halted && s.pwr.entering = none && started s.dev &&
    s.dev ≠ .faulted

/-! ## Release (R65, R99, R110, R115, R310) -/

/-- The held events of the scan are queued with the TB of their detection (R310). -/
def queueHeld (s : State) (es : List Event) : State :=
  es.foldl (fun s e => logAt s e.tb e.code e.p0 e.p1 e.p2 e.partner) s

/-- Counters of `0x2002`. -/
def countResets (s : State) (l : List Nat) : State :=
  { s with sle := { s.sle with resets := l.foldl (fun t k => tabPut 0 t k (satAdd 16 (tabGet 0 t k) 1)) s.sle.resets } }

/-- The output image goes to SOUT; it drives the outputs if the device already runs (R89). -/
def releaseImage (s : State) (r : ScanRes) : State :=
  if 4 ≤ s.sout.fifo.length then xingFull s F.SYS_XING_STATUS_OUT_OVF
  else { s with sout := { s.sout with fifo := s.sout.fifo ++ [(r.scan, r.image, active s.dev)] } }

/-- The aspect requests go to ASP; a full FIFO refuses them (R21). -/
def releaseAspects (s : State) (r : ScanRes) : State :=
  if 64 ≤ s.asp.fifo.length then fldSet s Reg.SYS_XING_STATUS F.SYS_XING_STATUS_ASP_OVF 1
  else { s with asp := { s.asp with fifo := s.asp.fifo ++ [⟨r.scan, s.tb, r.aspects⟩] } }

/-- The largest measured cycles of a lane, within its worst case (R67, R129). -/
def measureLane (s : State) (r : ScanRes) (lane worst : Nat) : State :=
  if evaluating s lane then
    let a := Reg.SLE_CYC_MAX lane
    regSet s a (BitVec.ofNat 32 (max (regGet s a).toNat (min worst (Config.scanCycles lane r.scan).toNat)))
  else s

def measureCycles (s : State) (r : ScanRes) : State :=
  measureLane (measureLane s r 0 (runImage s).cyc0) r 1 (if wide s then (runImage s).cyc1 else (runImage s).cyc0)

/-- TBS of a result: the start of the scan that computed it (R253). -/
def tbsOf (s : State) (r : ScanRes) : Nat :=
  match snapOf s r.scan with
  | some n => n.start
  | none => s.tb

/-- The new cairn, which a completed re-run has taken already, the SAFE bits, and the released image kept for the pair's comparison
(R110, R115, R253). -/
def keepResult (s0 : State) (r : ScanRes) : State :=
  let s := if recovPhase s0 = 2 then s0 else takeCairn s0 r
  { s with
    sle := { s.sle with safe := r.safe, res := none, recov := none }
    asp := { s.asp with safeHold := false }
    bly := { s.bly with images := ((tbsOf s r, r.image, r.safe) :: s.bly.images).take 8 } }

/-- BROWN_OUT_LATCH_CLEAR (R90). DESIGN CHOICE (log entry 154): whether the bank has left BROWN-OUT is judged at the release of the scan
that accepts the reset, not at its start. -/
def clearBrownOut (s : State) : State :=
  { s with sout := { s.sout with
      bo0 := s.sout.bo0 && levelOf s 0 = .brownOut
      bo1 := s.sout.bo1 && levelOf s 1 = .brownOut } }

/-- What the scan that accepts a start reset clears: brown-out latches, channel faults, lamp-feed cuts and IMG_MIS (R90, R148,
R206, R253). -/
def startResetEffects (s : State) : State := setBlyBit (cutRelease (clearFaults (clearBrownOut s))) F.BLY_STATUS_IMG_MIS false

/-- LEAVE_SAFE_STOPPED (R89, R155, R256, R260, R287). -/
def leaveSafe (s : State) (r : ScanRes) : State :=
  if s.dev = .safeStopped && r.leave && leaveOk s && mayLeave s then
    enterRun s
  else s

/-- The end of a recovery at the boundary that releases its scan; a takeover makes lane 1 ACTIVE (R115, R121). -/
def endRecovery (s : State) (rec : Option Recov) : State :=
  match rec with
  | none => s
  | some v =>
    let s1 := if v.takeover && s.sle.lane1 = 0 then setLane s 1 1 else s
    if s1.dev = .recovering then enterDev s1 (runState s1) 0x6001 else s1

/-- DEBUG_SPLIT_CLEAR (R128): the first equal scan after a Wide-mode resume has ended. -/
def clearSplit (s : State) : State :=
  if s.sle.resumed then
    { s with sle := { s.sle with resumed := false }, kill := { s.kill with debugSplit := false } }
  else s

/-- OUTPUT_IMAGE_RELEASE and what follows from the released scan. -/
def releaseScan (s : State) (r : ScanRes) : State :=
  let s1 := releaseImage s r
  if s1.dev = .faulted then s1
  else
    let s2 := countResets (queueHeld (keepResult (measureCycles (releaseAspects s1 r) r) r) r.events) r.counts
    let s3 := clearSplit (endRecovery s2 s.sle.recov)
    leaveSafe (compareEarly (if r.startReset then startResetEffects s3 else s3) (tbsOf s r) r.image r.safe) r

/-! ## The next scan -/

/-- Frames of the exchange go through the SLE→BLY FIFO (R19, R20); `stall`: the transmitter does not read now. -/
def throughTx (s : State) (l : List BlyFrame) (stall : Bool) : State :=
  let q := s.bly.txQ ++ l
  if 8 < q.length then xingFull s F.SYS_XING_STATUS_BLY_TX_OVF
  else if stall then { s with bly := { s.bly with txQ := q } }
  else q.foldl blyEmit { s with bly := { s.bly with txQ := [] } }

/-- The OUTIMG of a released scan. -/
def outimgOf (s : State) (r : ScanRes) (tbs : Nat) : BlyFrame :=
  .outimg ⟨BitVec.ofNat 64 tbs, BitVec.ofNat 32 r.image, BitVec.ofNat 32 r.safe, BitVec.ofNat 8 (devCode s.dev)⟩

/-- IMAGE, OUTIMG and, from the leader, SAFE_COPY, back to back (R237, R242). -/
def exchange (s : State) (sn : Snap) (rel : Option ScanRes) (tbs : Nat) (stall : Bool) : State :=
  if pairMember s && linkUp s then
    let l := BlyFrame.image (imageOf s sn) :: (rel.map fun r => outimgOf s r tbs).toList
    if sharesSafe s && isLeader s then
      let f := ownSafe s s.tb
      throughTx { s with bly := { s.bly with copy := some f } } (l ++ [.safeCopy f]) stall
    else throughTx s l stall
  else s

/-- The scan waits for the partner's IMAGE (R249): in a pair, and in a newcomer. -/
def waitsForPartner (s : State) : Bool := pstate s = 2 || pstate s = 5

/-- The snapshot goes through the FIO→SLE FIFO (R19, R20) and takes the next scan number; `stall`: the SLE does not read it now. One that
reads takes all that is there and goes on with the newest. -/
def throughIn (s : State) (sn : Snap) (stall : Bool) : State :=
  if 4 ≤ s.sle.inQ.length then xingFull s F.SYS_XING_STATUS_IN_OVF
  else
    { s with sle := { s.sle with
      scan := (s.sle.scan + 1) % 2 ^ 32, lastStart := some s.tb, inQ := if stall then s.sle.inQ ++ [sn] else [] } }

/-- What every boundary begins with: leadership after a replacement (R236), subscriptions (R224), the snapshot and the exchange. -/
def boundary (s0 : State) (sn : Snap) (rel : Option ScanRes) (tbs : Nat) (stall : Option Nat) : State :=
  let s1 := throughIn s0 sn (stall = some 0)
  if s1.dev = .faulted then s1 else exchange s1 sn rel tbs (stall = some 1)

def boundaryStart (s : State) : State := expireSubs (if s.bly.decide then decideLeader s else s)

/-- SNAPSHOT and evaluation of the next scan (R42, R65, R112, R119). `stall` names a stalled reader: 0 the SLE, 1 the Belay
transmitter (R20). -/
def startScan (s0 : State) (rel : Option ScanRes) (tbs : Nat) (stall : Option Nat) : State :=
  let b := boundaryStart s0
  let s := if b.bly.freeze then sendStream b else b
  let sn := snapNow s
  let s3 := boundary s sn rel tbs stall
  if s3.dev = .faulted then s3
  else
    let n := s3.sle.scan
    if stall = some 0 then pushSnap s3 n sn
    else if waitsForPartner s3 then
      let s4 := pushSnap s3 n sn
      { s4 with bly := { s4.bly with waiting := some sn.start } }
    else runScan s3 n sn

/-- A scan start that falls due during a recovery is skipped: its snapshot is journaled, its number taken (R112, R115, R119). -/
def skipScan (s0 : State) (v : Recov) (stall : Option Nat) : State :=
  let s := boundaryStart s0
  let sn := snapNow s
  let s1 := boundary s sn none 0 stall
  if s1.dev = .faulted then s1
  else
    let n := s1.sle.scan
    let s3 := if pstate s1 = 2 then fldBump s1 Reg.BLY_CNT F.BLY_CNT_CMPSKIP 1 else s1
    let s2 := regSet s3 Reg.SLE_SKIP_CNT (BitVec.ofNat 32 (satAdd 32 (regGet s3 Reg.SLE_SKIP_CNT).toNat 1))
    pushSnap { s2 with
      sle := { s2.sle with recov := some { v with skipped := v.skipped + 1 } }
      bly := { s2.bly with waiting := if waitsForPartner s2 then some sn.start else s2.bly.waiting } } n sn

/-- SCAN_OVERRUN of a lane that still evaluates (R68). -/
def scanOverrun (s : State) (lane : Nat) : State :=
  if s.sle.res.isSome && s.sle.recov = none && evaluating s lane then
    let s1 := log { s with sle := { s.sle with overruns := satAdd 16 s.sle.overruns 1 } } 0x6004 lane s.sle.scan 0
    fatal s1 0x6004 lane
  else s

/-- What happens at the boundary once overrun and mismatch are known. -/
def scanBoundary (s : State) (stall : Option Nat) : State :=
  let rel := match s.sle.res with
    | some r =>
      let t := releaseScan s r
      if t.dev = .faulted then t else startScan t (some r) (tbsOf s r) stall
    | none => startScan (endRecovery { s with sle := { s.sle with recov := none } } s.sle.recov) none 0 stall
  match s.sle.recov with
  | some v => if v.phase < 2 then skipScan s v stall else rel
  | none => rel

/-- SCAN_START (R64): `raw` holds the raw values of the last sample (R42); `overrun` names a lane that has not finished; `mis` is a
mismatch detected by the end of the scan: its lane
and signature (R111, R118); `stall` names a reader that does not read its FIFO now: 0 the SLE, 1 the Belay transmitter (R20). A swap
that falls due comes first (R125). -/
def scanStart (s0 : State) (raw : Nat) (overrun : Option Nat) (mis : Option (Nat × Word)) (stall : Option Nat) : State :=
  if !scanOpen s0 then s0
  else
    let s := imageSwap (leaderSwap (imageMiss { s0 with fio := { s0.fio with raw := raw } }))
    if !scanOpen s then s
    else
      let s1 := match overrun with
        | some l => scanOverrun s l
        | none => s
      let s2 := match mis with
        | some m => mismatch s1 m.1 m.2
        | none => s1
      if s2.dev = .faulted then s2
      else scanBoundary s2 stall

/-! ## Times that expire at a scan start (R71, R83, R84, R87, R91, R93) -/

/-- What expires in a block. -/
inductive BlkTime where
  | disc | twoHand | edm | stuck | stop1 | ton | toff
  deriving DecidableEq, Repr

/-- The block has made the change that the expiry stands for. -/
def expired (k : BlkTime) (typ : Nat) (x y : BlkSt) : Bool :=
  match k with
  | .disc => !x.disc && y.disc
  | .twoHand => typ = 0x03 && (x.disc || x.tpf) && !(y.disc || y.tpf)
  | .edm => !x.edm && y.edm
  | .stuck => !x.stuck && y.stuck
  | .stop1 => typ = 0x07 && x.q2 && !y.q2
  | .ton => typ = 0x13 && !x.q && y.q
  | .toff => typ = 0x14 && x.q && !y.q

/-- A block's time expires in the evaluation that a scan start begins (R65): the expiry of block `b` is that scan start, where the
block makes the change in it. -/
def blockTimeout (s : State) (b : Nat) (k : BlkTime) : State :=
  let t := scanStart s s.fio.raw none none none
  match t.sle.res with
  | some r =>
    if t.sle.lastStart ≠ s.sle.lastStart && expired k (blkTyp t b) (tabGet blkSt0 t.sle.cairn b) (tabGet blkSt0 r.blk b) then t
    else s
  | none => s

end Sys2Proof.Machine
end

