-- ==== Sys2Proof/Machine/CmdSle.lean ====
section
/-!
DEFINITION. The meanings of the evaluation engine commands, one per row of the table.
-/
namespace Sys2Proof.Machine

/-- SCAN_START (R64): At a TB multiple of t_scan the previous scan's results are released and a new scan takes its snapshot and
evaluates the image. -/
def execScanStart (raw : BitVec 128) (overrun : Option (Fin 2)) (mis : Option (Fin 2 × Word)) (stall : Option (Fin 2))
    (s : State) : Out :=
  done (live s (scanStart s raw.toNat (overrun.map Fin.val) (mis.map fun m => (m.1.val, m.2)) (stall.map Fin.val)))

/-- DISC_TIMEOUT (R71): At a scan start the pair is still in discrepancy after t_filter + T_disc, and DISC latches. -/
def execDiscTimeout (b : Fin 8192) (s : State) : Out := done (live s (blockTimeout s b.val .disc))

/-- TWOHAND_FAULT_CLEAR (R83): Both pushbuttons have stayed released without a fault for T_disc, and DISC and TPF of the
two-hand block clear. -/
def execTwohandFaultClear (b : Fin 8192) (s : State) : Out := done (live s (blockTimeout s b.val .twoHand))

/-- EDM_FAULT (R84): T_edm expires with the feedback disagreeing with the command, and EDM_FAULT latches. -/
def execEdmFault (b : Fin 8192) (s : State) : Out := done (live s (blockTimeout s b.val .edm))

/-- RESET_STUCK (R87): The reset button has been ON for more than 5 s, and RESET_STUCK is set and journaled. -/
def execResetStuck (b : Fin 8192) (s : State) : Out := done (live s (blockTimeout s b.val .stuck))

/-- STOP1_DELAY (R91): The STOP1 delay expires and Q2 falls to 0. -/
def execStop1Delay (b : Fin 8192) (s : State) : Out := done (live s (blockTimeout s b.val .stop1))

/-- TON_EXPIRY (R93): A TON timer reaches T and its Q rises. -/
def execTonExpiry (b : Fin 8192) (s : State) : Out := done (live s (blockTimeout s b.val .ton))

/-- TOFF_EXPIRY (R93): A TOFF timer reaches T and its Q falls. -/
def execToffExpiry (b : Fin 8192) (s : State) : Out := done (live s (blockTimeout s b.val .toff))

/-- HEARTBEAT_INJECTION (R107): A heartbeat difference is injected into a comparator group at its 62.5 µs offset and both
results are checked. -/
def execHeartbeatInjection (u : Fin 3) (g : Fin 16) (full : Fin 4) (msk : Fin 4) (sig : Word) (s : State) : Out :=
  done (live s (injection s u.val g.val full.val msk.val sig))

/-- COMPARATOR_FAULT (R107): A comparator group reports 0b00 or 0b11, or a heartbeat fails, and the lane is failed at once. -/
def execComparatorFault (lane : Fin 2) (s : State) : Out := done (live s (comparatorFault s lane.val))

/-- MISMATCH (R114): A mismatch of an evaluating lane starts a recovery: outputs held, copies reset, cairn restored. -/
def execMismatch (lane : Fin 2) (sig : Word) (s : State) : Out := done (live s (mismatch s lane.val sig))

/-- RERUN_START (R114): The reset and cairn restore complete, and the disturbed scan is re-run from its journaled snapshot. -/
def execRerunStart (s : State) : Out := done (live s (rerunStart s))

/-- RECOVERY_COMPLETE (R115): The re-run finishes with all comparisons equal, and its results wait for release at the next
boundary. -/
def execRecoveryComplete (s : State) : Out := done (live s (recoveryComplete s))

/-- RECOVERY_LIMIT (R116): The recovery has not completed within L × t_scan + 20 µs; the device enters FAULTED. -/
def execRecoveryLimit (s : State) : Out := done (live s (recoveryLimit s))

/-- SPARE_MISMATCH (R122): A mismatch of lane 1 while SPARE resets the lane and is counted and journaled. -/
def execSpareMismatch (sig : Word) (s : State) : Out := done (live s (spareMismatch s sig))

/-- STATE_ECC (R113): An uncorrectable state-memory error is found; the device goes to the safe state and enters FAULTED. -/
def execStateEcc (lane : Fin 2) (bank : Fin 2) (word : Nat) (correctable : Bool) (s : State) : Out :=
  done (live s (stateEcc s lane.val bank.val word correctable))

/-- IMAGE_ECC (R123): The continuous read of the active image bank finds an uncorrectable word, and the lane is failed. -/
def execImageEcc (lane : Fin 2) (correctable : Bool) (s : State) : Out := done (live s (imageEcc s lane.val correctable))

/-- LOAD (R124): SLE_IMG_CTRL.LOAD starts the copy of an image from SRAM into the inactive banks, or is refused during a load.
-/
def execLoad (s : State) : Out := done (live s (loadFromSram s))

/-- LOAD_COMPLETE (R124): The image load and its read-back finish, and RESULT becomes MATCHED or mismatched. -/
def execLoadComplete (equal : Bool) (s : State) : Out := done (live s (loadComplete s equal))

/-- SWAP (R125): SLE_IMG_CTRL.SWAP requests an image bank swap and sets SWAP_PEND. -/
def execSwap (s : State) : Out := done (live s (swapWrite s))

/-- IMAGE_SWAP (R125): At the first scan start that is not RECOVERING the banks exchange roles and the device enters
SAFE-STOPPED from the zero cairn. -/
def execImageSwap (s : State) : Out := done (live s (imageSwap s))

/-- HALT (R127): A debug halt stops the lane and puts the device in SAFE-STOPPED; in Wide mode it splits lockstep. -/
def execHalt (s : State) : Out := done (live s (busTry s (actHalt s)))

/-- STEP (R127): A debug step executes one block of a halted lane. -/
def execStep (s : State) : Out := done (live s (busTry s (actStep s)))

/-- RESUME (R127): A debug resume continues the lane at the next scan start, from a zero cairn in Wide mode. -/
def execResume (s : State) : Out := done (live s (busTry s (actResume s)))

/-- DEBUG_RD (R127): A debug read loads SLE_DBG_DATA from state memory, registers or image memory. -/
def execDebugRd (s : State) : Out := done (live s (busTry s (actRead s)))

/-- DEBUG_WR (R127): A debug write stores SLE_DBG_DATA into a halted lane's state memory or registers. -/
def execDebugWr (s : State) : Out := done (live s (busTry s (actWrite s)))

end Sys2Proof.Machine
end

