-- ==== Sys2Proof/Machine/CmdSout.lean ====
section
/-!
DEFINITION. The meanings of the safe output commands, one per row of the table.
-/
namespace Sys2Proof.Machine

/-- SOUT_IMAGE_APPLY (R135): A released output image arrives at SOUT and all of its channel changes are applied in one FIO
cycle. -/
def execSoutImageApply (s : State) : Out := done (live s (soutImageApply s))

/-- CURRENT_MEASUREMENT (R137): Every 250 µs the supervision set measures each channel's current and node voltages. -/
def execCurrentMeasurement (b0 : BitVec 16) (b1 : BitVec 16) (ms : List (BitVec 16 × BitVec 8 × BitVec 8)) (s : State) : Out :=
  done (live s (currentMeasurement s b0.toNat b1.toNat (ms.map fun m => (m.1.toNat, m.2.1.toNat, m.2.2.toNat))))

/-- READBACK_MASK_END (R139): T_MASK after a switch-state change ends, and the readback comparison resumes. -/
def execReadbackMaskEnd (c : Fin 24) (h : Bool) (l : Bool) (s : State) : Out := done (live s (maskEnd s c.val h l))

/-- OFF_PULSE_START (R140): A channel that is on reaches its phase slot and switches the selected switch off for its off-pulse.
-/
def execOffPulseStart (c : Fin 24) (s : State) : Out := done (live s (opStart s c.val))

/-- OFF_PULSE_END (R142): The pulse ends after W, or after the late response, and the response enters the width history. -/
def execOffPulseEnd (c : Fin 24) (r : Nat) (h : Bool) (l : Bool) (s : State) : Out := done (live s (opEnd s c.val r h l))

/-- OFF_PULSE_TIMEOUT (R142): No response appears by OW_MAX; the pulse fails and HS_STUCK or LS_STUCK latches. -/
def execOffPulseTimeout (c : Fin 24) (observer : Option (Fin 24)) (s : State) : Out :=
  done (live s (opTimeout s c.val (observer.map Fin.val)))

/-- CROSS (R146): An observer channel's readback or current changes inside another channel's pulse window, and CROSS latches on
both. -/
def execCross (c : Fin 24) (d : Fin 24) (h : Bool) (l : Bool) (s : State) : Out := done (live s (soutCross s c.val d.val h l))

/-- SHORT_VF (R144): A readback shows ON with both switches off for 100 µs; the switches are held off and the fault latches. -/
def execShortVf (c : Fin 24) (since : Nat) (h : Bool) (l : Bool) (s : State) : Out := done (live s (shortVf s c.val since h l))

/-- ON_LOST (R144): The readback of a channel that is on has differed from its pattern for 100 µs; the fault latches. -/
def execOnLost (c : Fin 24) (since : Nat) (h : Bool) (l : Bool) (s : State) : Out := done (live s (onLost s c.val since h l))

/-- OVERLOAD (R144): A switch has been in current limit for 1 ms, or above 0.6 A for 50 ms, and is turned off and latched. -/
def execOverload (c : Fin 24) (s : State) : Out := done (live s (overload s c.val))

/-- BANK_OVL (R144): A bank feed current has been above 4.4 A for 100 ms, and every channel of the bank is switched off and
latched. -/
def execBankOvl (b : Fin 2) (s : State) : Out := done (live s (bankOvl s b.val))

/-- THERMAL (R144): A switch hot spot reaches its threshold, and the channel is switched off and latched. -/
def execThermal (c : Fin 24) (s : State) : Out := done (live s (soutThermal s c.val))

/-- OPEN_LOAD (R144): A channel that is on has carried less than IOPEN for 100 ms, and the OPEN warning is set. -/
def execOpenLoad (c : Fin 24) (s : State) : Out := done (live s (openLoad s c.val))

/-- OFF_PATTERN_HELD (R148): The off pattern has held for 100 ms, so the fault may clear at the next start reset. -/
def execOffPatternHeld (c : Fin 24) (h : Bool) (l : Bool) (s : State) : Out := done (live s (offPatternHeld s c.val h l))

/-- LAMP_FEED_CUT (R151): An ASP cut request reaches SOUT and the lamp-feed channel switches off. -/
def execLampFeedCut (b : Fin 2) (s : State) : Out := done (live s (lampFeedCut s b.val))

/-- EXT_STOP (R154): A direct stop pin falls; the kill line is asserted and the device enters SAFE-STOPPED. -/
def execExtStop (pinB : Bool) (s : State) : Out := done (extStop s pinB)

/-- EXT_STOP_RELEASE (R154): Both direct stop pins return high, and without EXT_DISC the kill line is released. -/
def execExtStopRelease (a : Bool) (b : Bool) (s : State) : Out := done (extStopRelease s a b)

/-- EXT_DISC (R155): The two direct stop pins have differed for longer than EXTD, and EXT_DISC latches. -/
def execExtDisc (s : State) : Out := done (live s (extDisc s))

/-- SOUT_OP_SKIP_READ (R4): A read of SOUT_OP_SKIP returns the skip counts and clears them. -/
def execSoutOpSkipRead (s : State) : Out := done (live s (rcRead s Reg.SOUT_OP_SKIP))

end Sys2Proof.Machine
end

