-- ==== Sys2Proof/Machine/CmdStart.lean ====
section
/-!
DEFINITION. The meanings of the start-up, self-test, JTAG, life-cycle and fuse commands, one per row of the table.
-/
namespace Sys2Proof.Machine

/-- COLD_START (R375): Power-on reset or the rise of RESET_N starts POWER-UP: fuses sensed, clocks locked, straps sensed. -/
def execColdStart (resetN : Bool) (aon : Fin 3) (n : Sense) (c : Cut) (s : State) : Out :=
  done (coldStartRow s resetN aon.val n c)

/-- RESET_ASSERT (R374): RESET_N low for at least 1 µs resets the device and abandons any start sequence. -/
def execResetAssert (c : Cut) (s : State) : Out := done (resetAssert s c)

/-- BIST_RETRY (R378): 10 ms after an INVALID_CONDITIONS attempt, BIST runs again. -/
def execBistRetry (s : State) : Out := done (live s (bistRetry s))

/-- BIST_COMPLETE (R381): BIST ends, and failing blocks are marked unusable, fail the start or hold the device in reset. -/
def execBistComplete (mv : BitVec 16) (err : BitVec 16) (time : BitVec 16) (ess : BitVec 8) (vled0 : BitVec 16)
    (vled1 : BitVec 16) (vscn : BitVec 16) (g : Gaps) (m : Marks) (s : State) : Out :=
  done (live s (bistComplete s mv.toNat err.toNat time.toNat ess.toNat (lampsDefer vled0.toNat vled1.toNat vscn.toNat) g m))

/-- STARTUP_COMPLETE (R375): The slot is selected, checked and its image loaded; the device enters SAFE-STOPPED and releases the
kill line. -/
def execStartupComplete (equal : Bool) (pinLow : Bool) (patch : Fin 3) (left : List Byte) (n : Sense) (s : State) : Out :=
  done (live s (startupComplete s equal pinLow patch.val left n))

/-- DEFERRED_LAMP_TEST (R380): Deferred lamp-stage tests run once VLED has been in range for 1 ms. -/
def execDeferredLampTest (k : Fin 3) (lo : BitVec 16) (hi : BitVec 16) (strs : BitVec 32) (mtx : Bool) (s : State) : Out :=
  done (live s (deferredTest s k.val lo.toNat hi.toNat strs.toNat mtx))

/-- BG_SLICE (R385): A background self-test slice falls due, runs and reacts to failure. -/
def execBgSlice (k : Slice) (fails : Bool) (s : State) : Out := done (live s (bgSlice s k fails))

/-- SCAN_REQ (R392): A JTAG scan request asserts the kill line and starts the wipe engine. -/
def execScanReq (s : State) : Out := done (live s (scanReq s))

/-- WIPE_COMPLETE (R392): The wipe ends; wipe-complete is set and scan is enabled. -/
def execWipeComplete (s : State) : Out := done (live s (wipeComplete s))

/-- IDCODE (R439): The JTAG IDCODE instruction reads the device identification. -/
def execIdcode (s : State) : Out := done (live s (jtagSelect s 0x01 (idcode s).toNat))

/-- BYPASS (R439): The JTAG BYPASS instruction, also selected by any unavailable code. -/
def execBypass (s : State) : Out := done (live s (jtagSelect s 0xFF 0))

/-- SAMPLE_PRELOAD (R439): The JTAG SAMPLE/PRELOAD instruction in FACTORY or RMA after the wipe. -/
def execSamplePreload (s : State) : Out := done (live s (jtagSelect s 0x02 (Config.boundaryCells s.tb)))

/-- EXTEST (R439): The JTAG EXTEST instruction, with field cells driving only internal dummy paths. -/
def execExtest (s : State) : Out := done (live s (jtagSelect s 0x03 0))

/-- MGMT_DBG (R439): The JTAG management-debug instruction in FACTORY or PROVISIONED. -/
def execMgmtDbg (s : State) : Out := done (live s (jtagSelect s 0x30 0))

/-- FUSE_PROG (R439): The JTAG fuse instruction programs the BLANK to FACTORY transition. -/
def execFuseProg (s : State) : Out := done (live s (fuseProg s))

/-- LC_REQUEST (R390): A life-cycle request written to 0xA001:01 waits for confirmation within 60 s. -/
def execLcRequest (target : Fin 8) (s : State) : Out := done (live s (lcRequestRow s target.val))

/-- LC_CONFIRM_TIMEOUT (R390): No confirmation within 60 s, and the life-cycle request is refused with ERR_CONFIRM. -/
def execLcConfirmTimeout (s : State) : Out := done (live s (lcTimeout s))

/-- LC_PROGRAM_DONE (R390): The life-cycle steps are programmed and the device performs a cold start. -/
def execLcProgramDone (n : Sense) (s : State) : Out := done (live s (lcProgramDone s n))

/-- OTP_PROGRAM (R401): OTP_PROG_CTRL.GO programs the set bits of a word in both cells. -/
def execOtpProgram (s : State) : Out := done (live s (busOk (otpStart s 0) 0))

/-- WLOCK (R401): OTP_PROG_CTRL.WLOCK programs the write lock of a region. -/
def execWlock (s : State) : Out := done (live s (busOk (otpStart s 1) 0))

/-- RLOCK (R401): OTP_PROG_CTRL.RLOCK programs the read lock of a region. -/
def execRlock (s : State) : Out := done (live s (busOk (otpStart s 2) 0))

/-- ODO_INC (R407): An odometer increment programs the bit at the counter's present value, or ends with RANGE. -/
def execOdoInc (s : State) : Out := done (live s (busOk (otpStart s 3) 0))

/-- MSCAN (R404): OTP_PROG_CTRL.MSCAN reads a region at both margins now. -/
def execMscan (s : State) : Out := done (live s (busOk (otpStart s 4) 0))

/-- OTP_COMMAND_DONE (R402): An OTP command ends, and its RESULT is set. -/
def execOtpCommandDone (okA : Word) (okB : Word) (wkA : Word) (wkB : Word) (s : State) : Out :=
  done (live s (otpDone s okA okB wkA wkB))

end Sys2Proof.Machine
end

