-- ==== Sys2Proof/Machine/Sys.lean ====
section
/-!
DEFINITION. The DIAG domain: clock monitor (R23, R24), device watchdog (R28) and the supplies (R452).
-/
namespace Sys2Proof.Machine

/-! ## Clock monitor -/

/-- Nominal count of a window in 1/100: PLL_A, PLL_B and PLL_C over 40.96 µs, the reference over 51.2 µs (R17, R23). -/
def nominal100 (k : Nat) : Nat := if k = 0 then 3276800 else if k = 1 then 1048576 else if k = 2 then 5120000 else 128000

/-- The count lies outside its band: ±1 % of nominal, ±10 % for the reference. -/
def countBad (k n : Nat) : Bool :=
  let band := if k = 3 then 10 else 1
  decide (n * 10000 < (100 - band) * nominal100 k) || decide ((100 + band) * nominal100 k < n * 10000)

/-- A fault of this clock is already declared. -/
def clockFaulted (s : State) (k : Nat) : Bool :=
  if k = 3 then fldGet s Reg.SYS_CLK_STATUS F.SYS_CLK_STATUS_REF_FAULT = 1
  else !pllLocked s k

/-- The status bits of a declared fault. -/
def showClockFault (s : State) (k : Nat) : State :=
  if k = 3 then fldSet s Reg.SYS_CLK_STATUS F.SYS_CLK_STATUS_REF_FAULT 1
  else
    let s1 := fldSet s Reg.SYS_CLK_STATUS F.SYS_CLK_STATUS_PLL_FAULT
      (setBitN (fldGet s Reg.SYS_CLK_STATUS F.SYS_CLK_STATUS_PLL_FAULT) k true)
    fldSet s1 Reg.SYS_CLK_STATUS F.SYS_CLK_STATUS_PLL_LOCK (setBitN (fldGet s1 Reg.SYS_CLK_STATUS F.SYS_CLK_STATUS_PLL_LOCK) k false)

/-- With PLL_C all Rope ports and the Belay link go down. -/
def linksDown (s : State) : State :=
  let s1 := (List.range 3).foldl (fun t p => fldSet t (Reg.ROPE_PORT_STAT p) F.ROPE_PORT_STAT_LINK 0) s
  blyIdle <| fldSet (setBlyBit s1 F.BLY_STATUS_LINK false) Reg.SYS_CLK_STATUS F.SYS_CLK_STATUS_BLY_LOCK 0

/-- The reaction to a clock fault (R24). -/
def clockFault (s : State) (k n : Nat) : State :=
  let s1 := showClockFault { s with kill := { s.kill with clock := true, pllB := s.kill.pllB || k = 1 } } k
  let s2 := if k = 2 then linksDown s1 else s1
  fatal (log s2 0x3008 (k + 1) n (openDiv (nominal100 k) 100)) 0x3008 (k + 1)

/-- CLOCK_MONITOR_WINDOW: a window of clock `k` (PLL_A, PLL_B, PLL_C, reference) ends with count `n`. -/
def clockWindow (s : State) (k n : Nat) : State :=
  if s.dev ≠ .powerUp && !coreDown s && countBad k n && !clockFaulted s k then clockFault s k n else s

/-! ## Watchdog and supplies -/

/-- WATCHDOG (R28): no service within 10 ms. -/
def watchdog (s : State) : State :=
  if s.dev ≠ .powerUp && !coreDown s && s.dev ≠ .faulted then fatal (log s 0xE003 0 0 0) 0xE003 0 else s

/-- SUPPLY_BELOW_RANGE (R452): a supply falls below its operating range, or all are back in it. -/
def supplyBelow (s : State) (below : Bool) : State := { s with kill := { s.kill with supply := below } }

end Sys2Proof.Machine
end

