-- ==== Sys2Proof/Machine/CmdSys.lean ====
section
/-!
DEFINITION. The meanings of the system, clock and supply commands, one per row of the table.
-/
namespace Sys2Proof.Machine

/-- REGISTER_WRITE (R4): A bus write to a register that has no row of its own sets its value, clears W1C bits or is ignored,
according to its access code. -/
def execRegisterWrite (m : Master) (a : Word) (k : Fin 5) (w : BitVec 128) (s : State) : Out :=
  done (live s (busWriteRow s m a.toNat k.val w.toNat))

/-- CLOCK_MONITOR_WINDOW (R23): A DIAG clock-monitor counting window ends, and the count of a PLL or of the reference is checked
against its band. -/
def execClockMonitorWindow (k : Fin 4) (n : BitVec 32) (s : State) : Out := done (live s (clockWindow s k.val n.toNat))

/-- WATCHDOG (R28): The device watchdog expires without a service from the management pair; the kill line is asserted and the
device enters FAULTED. -/
def execWatchdog (s : State) : Out := done (live s (watchdog s))

/-- SUPPLY_BELOW_RANGE (R452): VDD_CORE, VDD_IO18, VDD_IO33 or VDD_ANA falls below its operating range, so every field, lamp and
matrix switch turns off and the kill line is asserted. -/
def execSupplyBelowRange (below : Bool) (s : State) : Out := done (supplyBelow s below)

end Sys2Proof.Machine
end

