-- ==== Sys2Proof/Machine/CmdTmr.lean ====
section
/-!
DEFINITION. The meanings of the timer commands, one per row of the table.
-/
namespace Sys2Proof.Machine

/-- TIMER_PERIOD_EVENT (R346): The counter returns from PERIOD, or is forced, to 0; a one-shot stops and an aligned timer
resyncs. -/
def execTimerPeriodEvent (n : Fin 16) (s : State) : Out := done (live s (tmrPeriodEvent s n.val))

/-- TIMER_COMPARE_EVENT (R346): Counting brings the counter to CMP, which offers an ADC trigger and sets CMP_EVT. -/
def execTimerCompareEvent (n : Fin 16) (s : State) : Out := done (live s (tmrCompareEvent s n.val))

/-- TIMER_ENABLE (R347): A write setting EN starts the timer, loading the TB-aligned count, or sets CFG_ERR. -/
def execTimerEnable (n : Fin 16) (w : Word) (s : State) : Out :=
  done (live s (access s (Reg.TMR_CFG n.val) fun s => busTry s (tmrCfgWrite s n.val w)))

/-- TMR_PERIOD_WRITE (R349): A PERIOD write while running applies at the next tick and may force a late period. -/
def execTmrPeriodWrite (n : Fin 16) (v : Word) (s : State) : Out :=
  done (live s (access s (Reg.TMR_PERIOD n.val) fun s => busOk (tmrPeriodWrite s n.val v) 0))

/-- TIMER_CAPTURE (R350): A qualifying capture edge stores the count or TB in TMR_CAPn and sets NEW or OVR. -/
def execTimerCapture (n : Fin 16) (rising : Bool) (s : State) : Out := done (live s (tmrCapture s n.val rising))

/-- CAPTURE_READ (R350): A read of TMR_CAPn returns the captured value and clears NEW. -/
def execCaptureRead (n : Fin 16) (s : State) : Out := done (live s (access s (Reg.TMR_CAP n.val) fun s => captureRead s n.val))

end Sys2Proof.Machine
end

