-- ==== Sys2Proof/Machine/Dispatch.lean ====
section
/-! DEFINITION. One arm per command: its meaning. -/
namespace Sys2Proof.Machine

def exec (i : Instr) (s : State) : Host.Outcome State Fault Refusal :=
  match i with
  | .registerWrite m a k w => Sys2Proof.Machine.execRegisterWrite m a k w s
  | .clockMonitorWindow k n => Sys2Proof.Machine.execClockMonitorWindow k n s
  | .ropeRxLockLost p => Sys2Proof.Machine.execRopeRxLockLost p s
  | .blyLockLost => Sys2Proof.Machine.execBlyLockLost s
  | .watchdog => Sys2Proof.Machine.execWatchdog s
  | .scanStart raw overrun mis stall => Sys2Proof.Machine.execScanStart raw overrun mis stall s
  | .discTimeout b => Sys2Proof.Machine.execDiscTimeout b s
  | .twohandFaultClear b => Sys2Proof.Machine.execTwohandFaultClear b s
  | .edmFault b => Sys2Proof.Machine.execEdmFault b s
  | .resetStuck b => Sys2Proof.Machine.execResetStuck b s
  | .stop1Delay b => Sys2Proof.Machine.execStop1Delay b s
  | .tonExpiry b => Sys2Proof.Machine.execTonExpiry b s
  | .toffExpiry b => Sys2Proof.Machine.execToffExpiry b s
  | .filteredChange x on first => Sys2Proof.Machine.execFilteredChange x on first s
  | .testPulseStart n off => Sys2Proof.Machine.execTestPulseStart n off s
  | .testPulseEnd n => Sys2Proof.Machine.execTestPulseEnd n s
  | .tpWindowEnd n resp lows late => Sys2Proof.Machine.execTpWindowEnd n resp lows late s
  | .leakMeasure x v => Sys2Proof.Machine.execLeakMeasure x v s
  | .vfieldUpdate v0 v1 => Sys2Proof.Machine.execVfieldUpdate v0 v1 s
  | .warnEnter b mv => Sys2Proof.Machine.execWarnEnter b mv s
  | .warnLeave b mv => Sys2Proof.Machine.execWarnLeave b mv s
  | .sagEnter b mv failing => Sys2Proof.Machine.execSagEnter b mv failing s
  | .sagLeave b mv => Sys2Proof.Machine.execSagLeave b mv s
  | .brownOutEnter b mv => Sys2Proof.Machine.execBrownOutEnter b mv s
  | .brownOutLeave b mv => Sys2Proof.Machine.execBrownOutLeave b mv s
  | .fioTpSkipRead => Sys2Proof.Machine.execFioTpSkipRead s
  | .heartbeatInjection u g full msk sig => Sys2Proof.Machine.execHeartbeatInjection u g full msk sig s
  | .comparatorFault lane => Sys2Proof.Machine.execComparatorFault lane s
  | .mismatch lane sig => Sys2Proof.Machine.execMismatch lane sig s
  | .rerunStart => Sys2Proof.Machine.execRerunStart s
  | .recoveryComplete => Sys2Proof.Machine.execRecoveryComplete s
  | .recoveryLimit => Sys2Proof.Machine.execRecoveryLimit s
  | .spareMismatch sig => Sys2Proof.Machine.execSpareMismatch sig s
  | .stateEcc lane bank word correctable => Sys2Proof.Machine.execStateEcc lane bank word correctable s
  | .imageEcc lane correctable => Sys2Proof.Machine.execImageEcc lane correctable s
  | .load => Sys2Proof.Machine.execLoad s
  | .loadComplete equal => Sys2Proof.Machine.execLoadComplete equal s
  | .swap => Sys2Proof.Machine.execSwap s
  | .imageSwap => Sys2Proof.Machine.execImageSwap s
  | .halt => Sys2Proof.Machine.execHalt s
  | .step => Sys2Proof.Machine.execStep s
  | .resume => Sys2Proof.Machine.execResume s
  | .debugRd => Sys2Proof.Machine.execDebugRd s
  | .debugWr => Sys2Proof.Machine.execDebugWr s
  | .soutImageApply => Sys2Proof.Machine.execSoutImageApply s
  | .currentMeasurement b0 b1 ms => Sys2Proof.Machine.execCurrentMeasurement b0 b1 ms s
  | .readbackMaskEnd c h l => Sys2Proof.Machine.execReadbackMaskEnd c h l s
  | .offPulseStart c => Sys2Proof.Machine.execOffPulseStart c s
  | .offPulseEnd c r h l => Sys2Proof.Machine.execOffPulseEnd c r h l s
  | .offPulseTimeout c observer => Sys2Proof.Machine.execOffPulseTimeout c observer s
  | .cross c d h l => Sys2Proof.Machine.execCross c d h l s
  | .shortVf c since h l => Sys2Proof.Machine.execShortVf c since h l s
  | .onLost c since h l => Sys2Proof.Machine.execOnLost c since h l s
  | .overload c => Sys2Proof.Machine.execOverload c s
  | .bankOvl b => Sys2Proof.Machine.execBankOvl b s
  | .thermal c => Sys2Proof.Machine.execThermal c s
  | .openLoad c => Sys2Proof.Machine.execOpenLoad c s
  | .offPatternHeld c h l => Sys2Proof.Machine.execOffPatternHeld c h l s
  | .lampFeedCut b => Sys2Proof.Machine.execLampFeedCut b s
  | .extStop pinB => Sys2Proof.Machine.execExtStop pinB s
  | .extStopRelease a b => Sys2Proof.Machine.execExtStopRelease a b s
  | .extDisc => Sys2Proof.Machine.execExtDisc s
  | .soutOpSkipRead => Sys2Proof.Machine.execSoutOpSkipRead s
  | .bankBoundary b => Sys2Proof.Machine.execBankBoundary b s
  | .commitApply k => Sys2Proof.Machine.execCommitApply k s
  | .stringOnEdge n => Sys2Proof.Machine.execStringOnEdge n s
  | .provingWindow n x v meas => Sys2Proof.Machine.execProvingWindow n x v meas s
  | .confirmationProbe n x v => Sys2Proof.Machine.execConfirmationProbe n x v s
  | .darkCheck n x v => Sys2Proof.Machine.execDarkCheck n x v s
  | .litRecheck n x v => Sys2Proof.Machine.execLitRecheck n x v s
  | .matrixFrameStart => Sys2Proof.Machine.execMatrixFrameStart s
  | .matrixLineSlot l cur leak => Sys2Proof.Machine.execMatrixLineSlot l cur leak s
  | .stageOpen n => Sys2Proof.Machine.execStageOpen n s
  | .stageShort n => Sys2Proof.Machine.execStageShort n s
  | .stageOcp n => Sys2Proof.Machine.execStageOcp n s
  | .stageThermal n => Sys2Proof.Machine.execStageThermal n s
  | .stageThermalClear n => Sys2Proof.Machine.execStageThermalClear n s
  | .stageUvlo b ov => Sys2Proof.Machine.execStageUvlo b ov s
  | .stageUvloClear b => Sys2Proof.Machine.execStageUvloClear b s
  | .faultClear m => Sys2Proof.Machine.execFaultClear m s
  | .lmpApply m => Sys2Proof.Machine.execLmpApply m s
  | .matrixApply => Sys2Proof.Machine.execMatrixApply s
  | .thermalDerateTick codes vdd die => Sys2Proof.Machine.execThermalDerateTick codes vdd die s
  | .powerDerateTick banks strs sinks scans => Sys2Proof.Machine.execPowerDerateTick banks strs sinks scans s
  | .bankDerateTick i0 i1 => Sys2Proof.Machine.execBankDerateTick i0 i1 s
  | .aspectRequest => Sys2Proof.Machine.execAspectRequest s
  | .headSelect h a => Sys2Proof.Machine.execHeadSelect h a s
  | .headApply m => Sys2Proof.Machine.execHeadApply m s
  | .headClr m => Sys2Proof.Machine.execHeadClr m s
  | .commitGo send => Sys2Proof.Machine.execCommitGo send s
  | .safeFrameTx => Sys2Proof.Machine.execSafeFrameTx s
  | .safeWindow => Sys2Proof.Machine.execSafeWindow s
  | .safeFrame p f fcs => Sys2Proof.Machine.execSafeFrame p f fcs s
  | .objectFrame p f fcs => Sys2Proof.Machine.execObjectFrame p f fcs s
  | .commitFrame p f fcs => Sys2Proof.Machine.execCommitFrame p f fcs s
  | .foreignFrame p => Sys2Proof.Machine.execForeignFrame p s
  | .timeSync p f fcs sub => Sys2Proof.Machine.execTimeSync p f fcs sub s
  | .syncSend => Sys2Proof.Machine.execSyncSend s
  | .delayMeasure p => Sys2Proof.Machine.execDelayMeasure p s
  | .timeDreq p f fcs sub => Sys2Proof.Machine.execTimeDreq p f fcs sub s
  | .timeDresp p f fcs sub => Sys2Proof.Machine.execTimeDresp p f fcs sub s
  | .rootTakeover => Sys2Proof.Machine.execRootTakeover s
  | .timeUnlocked => Sys2Proof.Machine.execTimeUnlocked s
  | .pcsSyncLost p => Sys2Proof.Machine.execPcsSyncLost p s
  | .linkSilence p => Sys2Proof.Machine.execLinkSilence p s
  | .ringBreak p f fcs => Sys2Proof.Machine.execRingBreak p f fcs s
  | .linkRepaired p => Sys2Proof.Machine.execLinkRepaired p s
  | .ringRestored p f fcs => Sys2Proof.Machine.execRingRestored p f fcs s
  | .subExpired k => Sys2Proof.Machine.execSubExpired k s
  | .ropePortErrRead p => Sys2Proof.Machine.execRopePortErrRead p s
  | .linkTrained => Sys2Proof.Machine.execLinkTrained s
  | .hello h m => Sys2Proof.Machine.execHello h m s
  | .pairForm peer => Sys2Proof.Machine.execPairForm peer s
  | .soloStart => Sys2Proof.Machine.execSoloStart s
  | .image h m stall => Sys2Proof.Machine.execImage h m stall s
  | .imageMiss => Sys2Proof.Machine.execImageMiss s
  | .outimg h m => Sys2Proof.Machine.execOutimg h m s
  | .safeCopy h f => Sys2Proof.Machine.execSafeCopy h f s
  | .heartbeat h m => Sys2Proof.Machine.execHeartbeat h m s
  | .heartbeatTx => Sys2Proof.Machine.execHeartbeatTx s
  | .adoptReq h c => Sys2Proof.Machine.execAdoptReq h c s
  | .streamStart h c => Sys2Proof.Machine.execStreamStart h c s
  | .stream h d => Sys2Proof.Machine.execStream h d s
  | .streamEnd h c => Sys2Proof.Machine.execStreamEnd h c s
  | .caughtUp h c => Sys2Proof.Machine.execCaughtUp h c s
  | .release h c => Sys2Proof.Machine.execRelease h c s
  | .abort h c => Sys2Proof.Machine.execAbort h c s
  | .controlSwap h c => Sys2Proof.Machine.execControlSwap h c s
  | .idiff x => Sys2Proof.Machine.execIdiff x s
  | .partnerLost => Sys2Proof.Machine.execPartnerLost s
  | .arbitrationEnd => Sys2Proof.Machine.execArbitrationEnd s
  | .bpFail => Sys2Proof.Machine.execBpFail s
  | .holdExp => Sys2Proof.Machine.execHoldExp s
  | .resyncTimeout => Sys2Proof.Machine.execResyncTimeout s
  | .resyncRetry => Sys2Proof.Machine.execResyncRetry s
  | .blyLinkErrRead => Sys2Proof.Machine.execBlyLinkErrRead s
  | .read => Sys2Proof.Machine.execRead s
  | .write => Sys2Proof.Machine.execWrite s
  | .describe => Sys2Proof.Machine.execDescribe s
  | .setOpen => Sys2Proof.Machine.execSetOpen s
  | .setAdd => Sys2Proof.Machine.execSetAdd s
  | .setApply => Sys2Proof.Machine.execSetApply s
  | .setDrop => Sys2Proof.Machine.execSetDrop s
  | .setApplication => Sys2Proof.Machine.execSetApplication s
  | .setTimeout src => Sys2Proof.Machine.execSetTimeout src s
  | .odxGo => Sys2Proof.Machine.execOdxGo s
  | .slotCommit => Sys2Proof.Machine.execSlotCommit s
  | .slotCancel => Sys2Proof.Machine.execSlotCancel s
  | .checkDone => Sys2Proof.Machine.execCheckDone s
  | .writeDone ok left => Sys2Proof.Machine.execWriteDone ok left s
  | .confirmTimeout => Sys2Proof.Machine.execConfirmTimeout s
  | .finalDone ok => Sys2Proof.Machine.execFinalDone ok s
  | .commissionPress hold => Sys2Proof.Machine.execCommissionPress hold s
  | .trialRevert => Sys2Proof.Machine.execTrialRevert s
  | .trialRestore => Sys2Proof.Machine.execTrialRestore s
  | .trialImage bs => Sys2Proof.Machine.execTrialImage bs s
  | .journalWrite => Sys2Proof.Machine.execJournalWrite s
  | .mirrorWrite ok => Sys2Proof.Machine.execMirrorWrite ok s
  | .mgmtMismatch sig => Sys2Proof.Machine.execMgmtMismatch sig s
  | .mgmtRecovered => Sys2Proof.Machine.execMgmtRecovered s
  | .limitsExceeded q lo hi => Sys2Proof.Machine.execLimitsExceeded q lo hi s
  | .limitsRestored vs => Sys2Proof.Machine.execLimitsRestored vs s
  | .conversionDone n v mux g => Sys2Proof.Machine.execConversionDone n v mux g s
  | .adcTrigger n => Sys2Proof.Machine.execAdcTrigger n s
  | .swtrig n => Sys2Proof.Machine.execSwtrig n s
  | .flush n => Sys2Proof.Machine.execFlush n s
  | .triggerDelayEnd n => Sys2Proof.Machine.execTriggerDelayEnd n s
  | .entryDelayEnd n => Sys2Proof.Machine.execEntryDelayEnd n s
  | .adcUrgentGo n => Sys2Proof.Machine.execAdcUrgentGo n s
  | .adcEnable n w => Sys2Proof.Machine.execAdcEnable n w s
  | .adcDisable n => Sys2Proof.Machine.execAdcDisable n s
  | .adcResRead n => Sys2Proof.Machine.execAdcResRead n s
  | .adcUrgentDropRead => Sys2Proof.Machine.execAdcUrgentDropRead s
  | .adcCntRead n => Sys2Proof.Machine.execAdcCntRead n s
  | .timerPeriodEvent n => Sys2Proof.Machine.execTimerPeriodEvent n s
  | .timerCompareEvent n => Sys2Proof.Machine.execTimerCompareEvent n s
  | .timerEnable n w => Sys2Proof.Machine.execTimerEnable n w s
  | .tmrPeriodWrite n v => Sys2Proof.Machine.execTmrPeriodWrite n v s
  | .timerCapture n rising => Sys2Proof.Machine.execTimerCapture n rising s
  | .captureRead n => Sys2Proof.Machine.execCaptureRead n s
  | .shadowArm n => Sys2Proof.Machine.execShadowArm n s
  | .mrcStop n => Sys2Proof.Machine.execMrcStop n s
  | .descriptorFetch n => Sys2Proof.Machine.execDescriptorFetch n s
  | .descriptorDone n => Sys2Proof.Machine.execDescriptorDone n s
  | .descriptorBusError n => Sys2Proof.Machine.execDescriptorBusError n s
  | .tqTailWrite n w => Sys2Proof.Machine.execTqTailWrite n w s
  | .mrcEnWrite w => Sys2Proof.Machine.execMrcEnWrite w s
  | .mrcBadcntRead n => Sys2Proof.Machine.execMrcBadcntRead n s
  | .crcInit n => Sys2Proof.Machine.execCrcInit n s
  | .crcData8 n w => Sys2Proof.Machine.execCrcData8 n w s
  | .crcData16 n w => Sys2Proof.Machine.execCrcData16 n w s
  | .crcData32 n w => Sys2Proof.Machine.execCrcData32 n w s
  | .crcValWrite n w => Sys2Proof.Machine.execCrcValWrite n w s
  | .coldStart resetN aon n c => Sys2Proof.Machine.execColdStart resetN aon n c s
  | .resetAssert c => Sys2Proof.Machine.execResetAssert c s
  | .bistRetry => Sys2Proof.Machine.execBistRetry s
  | .bistComplete mv err time ess vled0 vled1 vscn g m => Sys2Proof.Machine.execBistComplete mv err time ess vled0 vled1 vscn g m s
  | .startupComplete equal pinLow patch left n => Sys2Proof.Machine.execStartupComplete equal pinLow patch left n s
  | .deferredLampTest k lo hi strs mtx => Sys2Proof.Machine.execDeferredLampTest k lo hi strs mtx s
  | .bgSlice k fails => Sys2Proof.Machine.execBgSlice k fails s
  | .scanReq => Sys2Proof.Machine.execScanReq s
  | .wipeComplete => Sys2Proof.Machine.execWipeComplete s
  | .idcode => Sys2Proof.Machine.execIdcode s
  | .bypass => Sys2Proof.Machine.execBypass s
  | .samplePreload => Sys2Proof.Machine.execSamplePreload s
  | .extest => Sys2Proof.Machine.execExtest s
  | .mgmtDbg => Sys2Proof.Machine.execMgmtDbg s
  | .fuseProg => Sys2Proof.Machine.execFuseProg s
  | .lcRequest target => Sys2Proof.Machine.execLcRequest target s
  | .lcConfirmTimeout => Sys2Proof.Machine.execLcConfirmTimeout s
  | .lcProgramDone n => Sys2Proof.Machine.execLcProgramDone n s
  | .otpProgram => Sys2Proof.Machine.execOtpProgram s
  | .wlock => Sys2Proof.Machine.execWlock s
  | .rlock => Sys2Proof.Machine.execRlock s
  | .odoInc => Sys2Proof.Machine.execOdoInc s
  | .mscan => Sys2Proof.Machine.execMscan s
  | .otpCommandDone okA okB wkA wkB => Sys2Proof.Machine.execOtpCommandDone okA okB wkA wkB s
  | .reqDoze spi src => Sys2Proof.Machine.execReqDoze spi src s
  | .reqRun spi src => Sys2Proof.Machine.execReqRun spi src s
  | .reqSleep spi us page ack => Sys2Proof.Machine.execReqSleep spi us page ack s
  | .reqHibernate spi us page ack => Sys2Proof.Machine.execReqHibernate spi us page ack s
  | .regulatorAckTimeout ack => Sys2Proof.Machine.execRegulatorAckTimeout ack s
  | .clockGate b => Sys2Proof.Machine.execClockGate b s
  | .wakeEvent code => Sys2Proof.Machine.execWakeEvent code s
  | .wakeStepReady flips chkBad n => Sys2Proof.Machine.execWakeStepReady flips chkBad n s
  | .wakeStepTimeout => Sys2Proof.Machine.execWakeStepTimeout s
  | .wakeRetry => Sys2Proof.Machine.execWakeRetry s
  | .coreSupply low mv => Sys2Proof.Machine.execCoreSupply low mv s
  | .pmbusStatusPoll w => Sys2Proof.Machine.execPmbusStatusPoll w s
  | .spiRead c a n => Sys2Proof.Machine.execSpiRead c a n s
  | .spiQread c a n => Sys2Proof.Machine.execSpiQread c a n s
  | .spiWrite c a ws => Sys2Proof.Machine.execSpiWrite c a ws s
  | .spiQwrite c a ws => Sys2Proof.Machine.execSpiQwrite c a ws s
  | .spiStatus c => Sys2Proof.Machine.execSpiStatus c s
  | .spiAbort c a n marked ws => Sys2Proof.Machine.execSpiAbort c a n marked ws s
  | .spiTimeout => Sys2Proof.Machine.execSpiTimeout s
  | .flashRead => Sys2Proof.Machine.execFlashRead s
  | .flashProg => Sys2Proof.Machine.execFlashProg s
  | .flashErase => Sys2Proof.Machine.execFlashErase s
  | .flashDone ok => Sys2Proof.Machine.execFlashDone ok s
  | .bypassReleaseTimeout own => Sys2Proof.Machine.execBypassReleaseTimeout own s
  | .idiffClear x => Sys2Proof.Machine.execIdiffClear x s
  | .portUp p => Sys2Proof.Machine.execPortUp p s
  | .pairSwapCancel => Sys2Proof.Machine.execPairSwapCancel s
  | .idxAlign n => Sys2Proof.Machine.execIdxAlign n s
  | .supplyBelowRange below => Sys2Proof.Machine.execSupplyBelowRange below s

end Sys2Proof.Machine
end

