-- ==== Sys2Proof/Machine/Tick.lean ====
section
/-!
DEFINITION. What passes with time alone while no command waits: one tick of TB with its slew (R342, R343), the RTC (R424), a posted
write of the SPI bridge (R432), and the frames that may now leave the Rope ports and the Belay transmitter (R217, R218,
R242).
-/
namespace Sys2Proof.Machine

/-- The correction that the next changed tick serves: the phase slew, then the rate (R343). -/
def tickCorrection (s : State) : Int := if s.rope.slew ≠ 0 then s.rope.slew else s.rope.rateDue

/-- This tick is the one in 2500 that a slew or the rate of a TIME_LOCKED node changes (R343). -/
def slewTick (s : State) : Bool := timeLocked s && tickCorrection s ≠ 0 && decide (s.rope.slewAt + 2500 ≤ s.tb)

/-- Length of this tick in SYS cycles of 2.5 ns. -/
def tickCycles (s : State) : Nat := if slewTick s then (if 0 < tickCorrection s then 3 else 5) else 4

/-- One changed tick less is due. -/
def spent (x : Int) : Int := if 0 < x then x - 1 else x + 1

/-- The correction left after this tick. -/
def afterSlew (s : State) : State :=
  if slewTick s then
    { s with rope := { s.rope with
        slew := if s.rope.slew ≠ 0 then spent s.rope.slew else 0
        rateDue := if s.rope.slew ≠ 0 then s.rope.rateDue else spent s.rope.rateDue
        slewAt := s.tb } }
  else s

/-- What a tick of 4 SYS cycles adds to the rate correction: a changed tick falls due for every 2.5 ns gathered (R343). -/
def gatherRate (s : State) : State :=
  let r := (regGet s Reg.TMR_TB_RATE).toInt
  if !timeLocked s || r = 0 then s
  else
    let a := s.rope.rateAcc + 4 * r
    let k : Int := if 1000000000 ≤ a then 1 else if a ≤ -1000000000 then -1 else 0
    { s with rope := { s.rope with rateDue := s.rope.rateDue + k, rateAcc := a - 1000000000 * k } }

/-- One tick. Without power in the core, or in reset, only the RTC counts; while the blocks are stopped for a power transition, TB and
the RTC. -/
def tick (s : State) : State :=
  if coreOffOrReset s then rtcAdvance s 128
  else
    let s1 := gatherRate (afterSlew (rtcAdvance s (32 * tickCycles s)))
    let s2 := { s1 with tb := s1.tb + 1 }
    if coreDown s then s2 else regate (blyPump (pumpAll (applyPosted s2)))

end Sys2Proof.Machine
end

