-- ==== Sys2Proof/Safety.lean ====
section
/-!
DEFINITION. The terms in which the claims about the machine are stated: what a command leaves unchanged, when the safe outputs follow
the lines and the image, and when memory has its canonical form.
-/
namespace Sys2Proof.Machine

/-- The parts of State, one for each field but the registers. -/
inductive Part where
  | pending | tb | dev | jrn | fio | sout | kill | sle | summit | trial | lmp | asp | rope | bly | tmr | otp | flash | slots
  | od | adc | supv | mem | mrc | pwr | ports | bus
  deriving DecidableEq, Repr

/-- The part `p` of `t` is that of `s`. -/
def samePart (s t : State) : Part → Prop
  | .pending => t.pending = s.pending
  | .tb => t.tb = s.tb
  | .dev => t.dev = s.dev
  | .jrn => t.jrn = s.jrn
  | .fio => t.fio = s.fio
  | .sout => t.sout = s.sout
  | .kill => t.kill = s.kill
  | .sle => t.sle = s.sle
  | .summit => t.summit = s.summit
  | .trial => t.trial = s.trial
  | .lmp => t.lmp = s.lmp
  | .asp => t.asp = s.asp
  | .rope => t.rope = s.rope
  | .bly => t.bly = s.bly
  | .tmr => t.tmr = s.tmr
  | .otp => t.otp = s.otp
  | .flash => t.flash = s.flash
  | .slots => t.slots = s.slots
  | .od => t.od = s.od
  | .adc => t.adc = s.adc
  | .supv => t.supv = s.supv
  | .mem => t.mem = s.mem
  | .mrc => t.mrc = s.mrc
  | .pwr => t.pwr = s.pwr
  | .ports => t.ports = s.ports
  | .bus => t.bus = s.bus

/-- From `s` to `t` only the parts in `P` and the registers at the addresses `R` change. -/
structure Only (P : List Part) (R : Nat → Prop) (s t : State) : Prop where
  parts : ∀ p, p ∉ P → samePart s t p
  regs : ∀ a, ¬ R a → regGet t a = regGet s a

/-- Whenever the command answers a next state, only the parts in `P` and the registers at `R` have changed. -/
def Leaves (P : List Part) (R : Nat → Prop) (c : Instr) (s : State) : Prop :=
  ∀ t, exec c s = .next t → Only P R s t

/-- No register. -/
def noReg (_ : Nat) : Prop := False

/-- The safe outputs stand as the lines and the image say: settling changes nothing (R134). -/
abbrev Settled (s : State) : Prop := settle s = s

/-- Every channel is on exactly when all terms of R134 hold: it is commanded, the device state allows outputs, the kill line is not
asserted, and no channel fault, group stop, brown-out latch or disabled switch holds it off; while its bank sags, only where it was on. -/
def OutputsFollow (s : State) : Prop :=
  ∀ c, c < 24 → bitN s.sout.applied c = chApplied s c

/-- The evaluation that a scan start begins now makes change `k` in block `b` (R65). -/
def ExpiresNow (s : State) (b : Nat) (k : BlkTime) : Prop :=
  ∃ r, (scanStart s s.fio.raw none none none).sle.res = some r ∧ (scanStart s s.fio.raw none none none).sle.lastStart ≠ s.sle.lastStart ∧
    expired k (blkTyp (scanStart s s.fio.raw none none none) b) (tabGet blkSt0 (scanStart s s.fio.raw none none none).sle.cairn b)
      (tabGet blkSt0 r.blk b) = true

/-- The management pair takes up request `q`, whose operation is `op`, from a source it processes, and no message that waits is
malformed; `u` is the state as the request has been taken up (R274, R276, R280). -/
structure Serves (s : State) (op : Nat) (q : OdReq) (u : State) : Prop where
  runs : coreDown s = false ∧ s.od.mgmt = none ∧ pairDead s = false
  formed : s.od.inbox.all (fun x => !odFormatBad x.msg) = true
  next : nextReq s = some q
  oper : odOp q.msg = op
  asked : q.cast = false
  taken : takeRequest { s with od := { s.od with inbox := s.od.inbox.erase q } } q.src (odTxn q.msg) = (u, .process)
  open_ : stateAllows u q = true

/-- Request `q` has been answered with `r`: the response stands in the record of its source, and one to the mailbox is shown there
(R273, R276, R282). -/
def Answered (t : State) (q : OdReq) (r : OdRes) : Prop :=
  (∃ x, txnOf t q.src = some x ∧ x.txn = odTxn q.msg ∧ x.sent = true ∧ x.resp = some (responseTo q.msg r)) ∧
    (q.src = 0 → fldGet t Reg.ODX_STATUS F.ODX_STATUS_DONE = 1 ∧ fldGet t Reg.ODX_STATUS F.ODX_STATUS_LAST = r.status % 65536)

/-- The Belay frames that wait for the transmitter or whose sending has begun (R242). -/
def blyOffered (t : State) : List BlyFrame := t.bly.queue ++ t.bly.out.map (·.frame)

/-- The member has become the survivor: ALONE and leader, its bypass requested under the hold timer; with HOLD = 0 it stops and requests
none (R259, R260). -/
abbrev BecomesSurvivor (s t : State) : Prop :=
  pstate t = 3 ∧ isLeader t = true ∧ t.bly.arb = none ∧
    (fldGet s Reg.BLY_CFG F.BLY_CFG_HOLD ≠ 0 → t.sout.bypassReq = true ∧
      t.bly.holdEnd = some (s.tb + fldGet s Reg.BLY_CFG F.BLY_CFG_HOLD * 6000000000) ∧ (s.dev = .run → t.dev = .degraded)) ∧
    (fldGet s Reg.BLY_CFG F.BLY_CFG_HOLD = 0 → t.sout.bypassReq = s.sout.bypassReq ∧ (active s.dev = true → t.dev = .safeStopped))

/-- The commands that can take a part into the states that drive outputs: a scan start, under each of its names, and the image
comparison at the end of a replacement (R89, R261). -/
def startsDriving : Instr → Bool
  | .scanStart .. => true
  | .discTimeout .. => true
  | .twohandFaultClear .. => true
  | .edmFault .. => true
  | .resetStuck .. => true
  | .stop1Delay .. => true
  | .tonExpiry .. => true
  | .toffExpiry .. => true
  | .outimg .. => true
  | _ => false

/-! ## Frames -/

/-- The block windows of R30, by the upper half of their addresses. -/
def anyWindow : List Nat := (List.range 17).map (· + 0x4000)

/-- Every part but those of `l`. -/
def allBut (l : List Part) : List Part :=
  [Part.pending, .tb, .dev, .jrn, .fio, .sout, .kill, .sle, .summit, .trial, .lmp, .asp, .rope, .bly, .tmr, .otp, .flash, .slots, .od,
    .adc, .supv, .mem, .mrc, .pwr, .ports, .bus].filter fun p => !l.contains p

/-- Commands of the field inputs and the safe outputs: the parts each may change, and
the block windows whose registers it may change. -/
def touchesField : Instr → Option (List Part × List Nat)
  | .filteredChange .. | .tpWindowEnd .. => some ([.dev, .jrn, .fio, .sout, .asp, .bly], [0x400E])
  | .testPulseStart .. => some ([.jrn, .fio], [0x4004])
  | .testPulseEnd .. => some ([.fio], [])
  | .leakMeasure .. => some ([.jrn, .fio], [])
  | .vfieldUpdate .. => some ([], [0x4004])
  | .warnEnter .. | .warnLeave .. | .sagLeave .. | .brownOutLeave .. => some ([.jrn, .fio, .sout], [])
  | .sagEnter .. | .brownOutEnter .. => some ([.jrn, .fio, .sout], [0x4004, 0x4006])
  | .fioTpSkipRead => some ([.bus], [0x4004])
  | .soutImageApply | .currentMeasurement .. | .offPulseEnd .. | .cross .. | .shortVf .. | .onLost .. => some ([.jrn, .sout],
    [0x4006])
  | .readbackMaskEnd .. | .offPulseStart .. | .offPatternHeld .. => some ([.sout], [0x4006])
  | .offPulseTimeout .. | .overload .. | .bankOvl .. | .thermal .. | .openLoad .. => some ([.jrn, .sout], [])
  | .lampFeedCut .. => some ([.sout], [])
  | .extStop .. => some ([.dev, .jrn, .sout, .kill, .asp], [])
  | .extStopRelease .. | .extDisc => some ([.jrn, .sout, .kill], [])
  | .soutOpSkipRead => some ([.bus], [0x4006])
  | _ => none

/-- Commands of the lamp drive and its proving: the parts each may change, and
the block windows whose registers it may change. -/
def touchesLamp : Instr → Option (List Part × List Nat)
  | .bankBoundary .. | .matrixFrameStart => some ([.jrn, .lmp, .asp], [0x4007, 0x4008])
  | .commitApply .. => some ([.lmp, .asp], [0x4007, 0x4008])
  | .stringOnEdge .. => some ([.lmp], [0x4008])
  | .provingWindow .. | .confirmationProbe .. | .darkCheck .. | .litRecheck .. | .matrixLineSlot .. | .stageOpen .. |
    .stageShort .. | .stageOcp .. | .stageThermal .. | .stageThermalClear .. | .stageUvlo .. | .stageUvloClear .. => some
    ([.jrn, .lmp], [0x4007, 0x4008])
  | .faultClear .. => some ([.jrn, .lmp, .pwr, .bus], [0x4007, 0x4008])
  | .lmpApply .. | .matrixApply => some ([.lmp, .pwr, .bus], [])
  | .thermalDerateTick .. | .powerDerateTick .. | .bankDerateTick .. => some ([.jrn, .lmp], [0x4007])
  | .aspectRequest => some ([.lmp, .asp], [0x4007])
  | .headSelect .. => some ([.asp, .bus], [0x4008])
  | .headApply .. => some ([.lmp, .asp, .bus], [0x4007, 0x4008])
  | .headClr .. => some ([.jrn, .lmp, .bus], [0x4007, 0x4008])
  | _ => none

/-- Commands of the Rope and of the Belay link: the parts each may change, and
the block windows whose registers it may change. -/
def touchesLink : Instr → Option (List Part × List Nat)
  | .ropeRxLockLost .. | .ringBreak .. => some ([.jrn, .rope], [0x4000, 0x400D])
  | .blyLockLost => some ([.dev, .jrn, .sout, .kill, .sle, .asp, .bly], [0x4000, 0x4005, 0x400D, 0x400E])
  | .commitGo .. => some ([.jrn, .lmp, .asp, .rope, .bus], [0x4008, 0x400D])
  | .safeFrameTx | .safeWindow => some ([.rope], [])
  | .safeFrame .. => some ([.dev, .jrn, .sout, .sle, .summit, .asp, .rope, .bly], [0x4000, 0x4005, 0x400D, 0x400E])
  | .objectFrame .. => some ([.rope, .od, .pwr], [0x4000, 0x400D, 0x400F])
  | .commitFrame .. => some ([.jrn, .lmp, .asp, .rope], [0x4000, 0x4008, 0x400D])
  | .foreignFrame .. => some ([], [0x400D])
  | .timeSync .. => some (allBut [.pending, .dev, .summit, .trial, .otp, .flash, .supv, .mem, .mrc, .bus], [0x4000, 0x400A, 0x400D])
  | .syncSend => some ([.rope], [0x400A, 0x400D])
  | .delayMeasure .. => some ([.rope], [0x400D])
  | .timeDreq .. | .timeDresp .. | .ringRestored .. => some ([.rope], [0x4000, 0x400D])
  | .rootTakeover => some ([.jrn, .rope], [0x400A, 0x400D])
  | .pcsSyncLost .. | .linkSilence .. | .linkRepaired .. | .subExpired .. => some ([.jrn, .rope], [0x400D])
  | .timeUnlocked => some ([.jrn, .rope], [])
  | .ropePortErrRead .. => some ([.pwr, .bus], [0x400D])
  | .linkTrained => some ([.sout, .bly], [0x4000, 0x400E])
  | .hello .. | .resyncTimeout => some ([.jrn, .sout, .bly], [0x400E])
  | .pairForm .. => some ([.jrn, .sout, .bly], [0x400D, 0x400E])
  | .soloStart | .heartbeat .. | .partnerLost => some ([.dev, .jrn, .sout, .kill, .sle, .asp, .bly], [0x4005, 0x400D, 0x400E])
  | .image .. => some ([.dev, .jrn, .sout, .kill, .sle, .summit, .asp, .bly], [0x4000, 0x4005, 0x400E])
  | .imageMiss => some ([.dev, .jrn, .sout, .kill, .sle, .asp, .bly], [0x4005, 0x400E])
  | .outimg .. => some ([.dev, .jrn, .sout, .kill, .asp, .bly], [0x400E])
  | .safeCopy .. | .adoptReq .. | .caughtUp .. | .controlSwap .. => some ([.bly], [0x400E])
  | .heartbeatTx | .resyncRetry => some ([.bly], [])
  | .streamStart .. => some ([.sout, .bly], [0x400E])
  | .stream .. => some ([.jrn, .bly, .slots, .pwr], [0x400E])
  | .streamEnd .. => some ([.dev, .jrn, .sout, .kill, .sle, .asp, .rope, .bly, .od], anyWindow)
  | .release .. | .abort .. | .holdExp => some ([.dev, .jrn, .sout, .asp, .bly], [0x400E])
  | .idiff .. => some ([.jrn], [0x400E])
  | .arbitrationEnd => some ([.dev, .jrn, .sout, .kill, .sle, .asp, .rope, .bly], [0x4005, 0x400D, 0x400E, 0x400F])
  | .bpFail | .bypassReleaseTimeout .. => some ([.dev, .jrn, .sout, .asp], [0x400E])
  | .blyLinkErrRead => some ([.bus], [0x400E])
  | .idiffClear .. => some ([], [0x400E])
  | .portUp .. => some ([.rope, .pwr], [0x4000, 0x400D])
  | .pairSwapCancel => some ([.jrn, .sout, .sle, .bly, .slots, .pwr], [0x4005, 0x400E])
  | _ => none

/-- Commands of the evaluation engine, the object service, the slots and the journal: the parts each may change, and
the block windows whose registers it may change. -/
def touchesEngine : Instr → Option (List Part × List Nat)
  | .scanStart .. | .discTimeout .. | .twohandFaultClear .. | .edmFault .. | .resetStuck .. | .stop1Delay .. | .tonExpiry .. |
    .toffExpiry .. | .imageSwap => some (allBut [.pending, .tb, .bus], anyWindow)
  | .heartbeatInjection .. | .mgmtMismatch .. => some ([.dev, .jrn, .sout, .sle, .summit, .asp, .od], [0x4005])
  | .comparatorFault .. | .mismatch .. | .recoveryLimit | .spareMismatch .. | .stateEcc .. | .imageEcc .. => some ([.dev, .jrn,
    .sout, .sle, .summit, .asp], [0x4005])
  | .rerunStart => some ([.dev, .jrn, .sout, .kill, .sle, .asp], [0x4005])
  | .recoveryComplete => some ([.jrn, .sle], [0x4005])
  | .load | .swap => some ([.sle], [0x4005])
  | .loadComplete .. => some ([.jrn, .sout, .sle, .bly, .slots, .pwr], [0x4005, 0x400E])
  | .halt => some ([.dev, .jrn, .sout, .kill, .sle, .asp, .bus], [0x4005])
  | .step | .debugRd => some ([.sle, .bus], [0x4005])
  | .debugWr => some ([.sle, .rope, .bus], [0x4005])
  | .resume => some ([.jrn, .sle, .bus], [0x4005])
  | .read => some ([.rope, .tmr, .od], anyWindow)
  | .write => some (allBut [.pending, .tb, .fio, .trial, .flash, .bus], anyWindow)
  | .describe | .setOpen | .setAdd | .setDrop => some ([.rope, .od], [0x400D, 0x400F])
  | .setApply => some ([.jrn, .rope, .od], [0x400D, 0x400F])
  | .setApplication => some (allBut [.pending, .tb, .kill, .summit, .tmr, .otp, .flash, .mem, .mrc, .bus], anyWindow)
  | .setTimeout .. | .mgmtRecovered | .limitsExceeded .. | .limitsRestored .. => some ([.jrn, .od], [])
  | .odxGo => some ([.rope, .od, .pwr, .bus], [0x400D, 0x400F])
  | .slotCommit => some ([.jrn, .slots, .pwr], [])
  | .slotCancel => some ([.jrn, .bly, .slots, .pwr], [])
  | .checkDone => some ([.jrn, .sout, .bly, .flash, .slots, .pwr], [0x400E])
  | .writeDone .. | .finalDone .. => some ([.jrn, .sout, .sle, .bly, .flash, .slots, .pwr], [0x4005, 0x400E])
  | .confirmTimeout => some ([.jrn, .sout, .bly, .slots, .pwr], [0x400E])
  | .commissionPress .. => some ([.jrn, .sle, .rope, .bly, .otp, .slots, .od, .pwr], [0x4005, 0x400D, 0x400F])
  | .trialRevert => some ([.od], [])
  | .trialRestore => some ([.jrn, .fio, .sout, .sle, .trial, .lmp, .bly, .slots, .od, .adc, .supv, .ports], anyWindow)
  | .trialImage .. => some ([.jrn, .sout, .sle, .trial, .bly, .slots, .pwr], [0x4005, 0x400E])
  | .journalWrite => some ([.jrn], [])
  | .mirrorWrite .. => some ([.jrn, .flash, .pwr], [])
  | _ => none

/-- Commands of the converters, timers, Millrace, check units, fuses, power states, ports and starts: the parts each may change, and
the block windows whose registers it may change. -/
def touchesUnit : Instr → Option (List Part × List Nat)
  | .registerWrite .. | .descriptorDone .. | .descriptorBusError .. | .spiRead .. | .spiQread .. | .spiAbort .. | .idxAlign .. =>
    some (allBut [.pending, .tb, .fio, .trial, .bly, .flash, .slots], anyWindow)
  | .clockMonitorWindow .. => some ([.dev, .jrn, .sout, .kill, .sle, .summit, .asp, .bly], [0x4000, 0x4005, 0x400D, 0x400E])
  | .watchdog | .coreSupply .. => some ([.dev, .jrn, .sout, .sle, .summit, .asp], [0x4005])
  | .conversionDone .. => some ([.adc], [0x4000, 0x4009])
  | .adcTrigger .. | .triggerDelayEnd .. | .entryDelayEnd .. => some ([.adc], [0x4009])
  | .swtrig .. | .adcUrgentGo .. | .adcEnable .. | .adcDisable .. | .adcResRead .. => some ([.adc, .pwr, .bus], [0x4009])
  | .flush .. => some ([.adc, .pwr, .bus], [])
  | .adcUrgentDropRead | .adcCntRead .. => some ([.pwr, .bus], [0x4009])
  | .timerPeriodEvent .. | .timerCompareEvent .. => some ([.tmr], [0x400A])
  | .timerEnable .. | .tmrPeriodWrite .. => some ([.tmr, .pwr, .bus], [0x400A])
  | .timerCapture .. => some ([.tmr, .ports], [0x400A])
  | .spiStatus .. => some ([.ports], [0x4010])
  | .captureRead .. => some ([.pwr, .bus], [0x400A])
  | .shadowArm .. | .tqTailWrite .. => some ([.mem, .mrc, .pwr, .bus], [0x400B])
  | .mrcStop .. | .mrcEnWrite .. => some ([.mrc, .pwr, .bus], [0x400B])
  | .descriptorFetch .. => some ([.mem, .mrc], [0x400B])
  | .mrcBadcntRead .. => some ([.pwr, .bus], [0x400B])
  | .crcInit .. | .crcData8 .. | .crcData16 .. | .crcData32 .. | .crcValWrite .. => some ([.pwr, .bus], [0x400C])
  | .coldStart .. | .resetAssert .. | .lcProgramDone .. | .regulatorAckTimeout .. | .wakeStepReady .. => some (allBut [.pending,
    .flash], anyWindow)
  | .bistRetry => some ([.pwr], [0x4003])
  | .bistComplete .. => some (allBut [.pending, .tb, .flash], anyWindow)
  | .startupComplete .. | .reqSleep .. | .reqHibernate .. => some (allBut [.pending], anyWindow)
  | .deferredLampTest .. => some ([.dev, .jrn, .sout, .sle, .lmp, .asp, .adc, .pwr], [0x4003, 0x4007, 0x4008, 0x4009])
  | .bgSlice .. => some ([.dev, .jrn, .fio, .ports, .sout, .sle, .summit, .lmp, .asp, .otp, .adc, .pwr], [0x4002, 0x4003, 0x4005, 0x4007,
    0x4008, 0x4009])
  | .scanReq => some ([.dev, .jrn, .sout, .kill, .asp, .ports], [])
  | .wipeComplete => some ([.jrn, .sle, .otp, .slots, .mem, .ports], [])
  | .idcode | .bypass | .samplePreload | .extest | .mgmtDbg => some ([.ports], [])
  | .fuseProg => some ([.otp, .ports], [])
  | .lcRequest .. => some ([.od], [])
  | .lcConfirmTimeout => some ([.rope, .od], [0x400D, 0x400F])
  | .otpProgram | .wlock | .rlock | .odoInc | .mscan => some ([.otp, .bus], [0x4002])
  | .otpCommandDone .. => some ([.jrn, .otp], [0x4002])
  | .reqDoze .. | .reqRun .. => some ([.jrn, .summit, .pwr], [0x4001])
  | .clockGate .. | .wakeRetry => some ([.pwr], [])
  | .wakeEvent .. | .wakeStepTimeout => some ([.summit, .pwr], [0x4001])
  | .pmbusStatusPoll .. => some ([.jrn, .pwr], [0x4010])
  | .spiWrite .. | .spiQwrite .. => some (allBut [.pending, .tb, .fio, .trial, .bly, .flash, .slots, .bus], anyWindow)
  | .spiTimeout => some ([.ports, .bus], [0x4010])
  | .flashRead | .flashProg | .flashErase => some ([.pwr, .ports, .bus], [0x4010])
  | .flashDone .. => some ([.flash, .ports], [0x4010])
  | .supplyBelowRange .. => some ([.sout, .kill], [])
  | _ => none

/-! ## End of frames -/

/-- A command that resets the part: the only ways out of FAULTED (R9). -/
def resetsDevice : Instr → Bool
  | .coldStart .. => true
  | .resetAssert .. => true
  | .lcProgramDone .. => true
  | _ => false

end Sys2Proof.Machine
end

