-- ==== Sys2Proof/WellFormed.lean ====
section
/-!
DEFINITION. Commands whose operands could come from the part: what the operand types leave open and a rule fixes. The meanings
complete on every operand; a well-formed command is one that the surroundings can send.
-/
namespace Sys2Proof

/-- A node that takes part in the Rope, 1 to 65534 (R212). -/
def nodeOk (n : BitVec 16) : Bool := decide (1 ≤ n.toNat) && decide (n.toNat ≤ 65534)

/-- An OBJECT frame holds up to 228 bytes of message (R216, R273). -/
def messageOk (m : List Byte) : Bool := decide (m.length ≤ 228)

/-- An IMAGE frame names every source and every input (R241). -/
def imageOk (m : ImageMsg) : Bool := m.width.length = 16 && m.ts.length = 128

/-- A STREAM frame has a KIND of R241 and carries at most 1024 bytes. -/
def streamOk (d : StreamData) : Bool := decide (d.kind.toNat < 4) && decide (d.bytes.length ≤ 1024)

/-- Marks within their registers (R382). -/
def marksOk (m : Marks) : Bool :=
  decide (m.blocks < 2 ^ 20) && decide (m.ins < 2 ^ 8) && decide (m.outs < 2 ^ 24) && decide (m.strs < 2 ^ 32)

/-- What a rule fixes of a command's operands beyond their types. -/
def Instr.wellFormed : Instr → Bool
  | .registerWrite _ _ k w => decide (w.toNat < 2 ^ (8 * 2 ^ k.val))
  | .testPulseStart _ off => decide (off.length ≤ 128)
  | .tpWindowEnd _ resp lows late => decide (resp.length ≤ 128) && decide (lows.length ≤ 128) && decide (late.length ≤ 128)
  | .currentMeasurement _ _ ms => ms.length = 24
  | .matrixLineSlot _ cur leak => cur.length = 32 && leak.length = 32
  | .thermalDerateTick codes _ die => codes.length = 4 && die.length = 4
  | .powerDerateTick banks strs _ _ => banks.length = 2 && strs.length = 32
  | .objectFrame _ f _ => messageOk f.msg && nodeOk f.src
  | .safeFrame _ f _ => nodeOk f.node
  | .commitFrame _ f _ => nodeOk f.src
  | .image _ m _ => imageOk m
  | .stream _ d => streamOk d
  | .hello _ m => nodeOk m.node
  | .trialImage bs => decide (bs.length ≤ 132260)
  | .bgSlice (.otp _ ws) _ => ws.length = 4
  | .bistComplete _ _ _ _ _ _ _ g m => g.a.length = 4 && g.b.length = 4 && marksOk m
  | .limitsRestored vs => vs.length = 9
  | .wakeEvent code => decide (1 ≤ code.val)
  | .spiRead _ _ n => decide (1 ≤ n)
  | .spiQread _ _ n => decide (1 ≤ n)
  | .spiWrite _ _ ws => decide (1 ≤ ws.length)
  | .spiQwrite _ _ ws => decide (1 ≤ ws.length)
  | .lcRequest target => decide (2 ≤ target.val) && decide (target.val ≤ 5)
  | .writeDone _ left => decide (left.length ≤ 0x100000)
  | .startupComplete _ _ _ left _ => decide (left.length ≤ 0x40000)
  | _ => true

end Sys2Proof
end

