-- ==== Sys2Proof/Certificates/Slice0/Obligations.lean ====
section
/-!
DEFINITION. The statements for the provers, each with the rules of the spec it rests on.
-/
open Sys2Proof Sys2Proof.Machine

/-- A register write sets the writable bits, clears W1C bits written 1 and leaves the rest (derived; R2, R4, R25, R339). For every
aligned 32-bit write to a register of the SYS, BIST, SOUT, ROPE or BLY window (which have no write rule of their own), by a master
that may write it, the command completes without a bus error: the register's writable bits (its row's mask) take the written
value, its W1C bits that are written 1 become 0, every other bit and every other register is unchanged, and so is memory. (A write
of SOUT_CFG may give the supervision set's converter cores back, with their registers at reset; it leaves every register outside
the ADC window.) -/
def Obligations.RegisterWriteSetsByAccessCode : Prop :=
  ∀ (s : State) (m : Master) (a : Word) (w : BitVec 128), coreDown s = false → a.toNat % 4 = 0 → ∀ r, regRow a.toNat = some r →
    (a.toNat / 65536 = 0x4000 ∨ a.toNat / 65536 = 0x4003 ∨ a.toNat / 65536 = 0x4006 ∨ a.toNat / 65536 = 0x400D ∨
      a.toNat / 65536 = 0x400E) →
    (isConfigReg a.toNat = true → m = .mgmt) →
    ∃ t, exec (.registerWrite m a 2 w) s = .next t ∧ t.bus = ⟨false, 0⟩ ∧
      regGet t a.toNat =
        (((regGet s a.toNat &&& ~~~(BitVec.ofNat 32 r.wm)) ||| (BitVec.ofNat 32 w.toNat &&& BitVec.ofNat 32 r.wm)) &&&
          ~~~(BitVec.ofNat 32 w.toNat &&& BitVec.ofNat 32 r.w1c)) ∧
      (∀ b, b ≠ a.toNat → (a.toNat ≠ Reg.SOUT_CFG ∨ b / 65536 ≠ 0x4009) → regGet t b = regGet s b) ∧ t.mem = s.mem

/-- A memory write stores its bytes, lowest first, and no other byte; a write that ends with a bus error changes nothing (derived; R1,
R27, R30, R31, R355, R61, R129, R156, R180, R208, R233, R382, R415). A write of 1, 2, 4, 8 or 16 bytes, aligned to its own size,
to memory that the master may write completes without a bus error: the bytes stand at the address and the following ones, least
significant first, and every other byte and every register is unchanged. Which byte lies lower is the model's reading of R269 (log
entry 9). A write that is narrower, wider or not aligned in a block window, one outside the address map, to the boot ROM (where
the spec is silent and the model refuses it: log entry 144) or to an unassigned offset, one not aligned to its size or to a bank
that cannot be written, one by the host or Millrace to a configuration register, and one by Millrace to its own window answer a
bus error, and nothing but that answer changes. -/
def Obligations.MemoryWritesAndBusErrors : Prop :=
  (∀ (s : State) (m : Master) (a : Word) (k : Fin 5) (w : BitVec 128),
       coreDown s = false → (inSram a.toNat || inRet a.toNat) = true → a.toNat % 2 ^ k.val = 0 → memWritable s m a.toNat = true →
       ∃ t, exec (.registerWrite m a k w) s = .next t ∧ t.bus = ⟨false, 0⟩ ∧
         (∀ i, i < 2 ^ k.val → memByte t.mem (a.toNat + i) = BitVec.ofNat 8 (w.toNat / 256 ^ i)) ∧
         (∀ b, (b < a.toNat ∨ a.toNat + 2 ^ k.val ≤ b) → memByte t.mem b = memByte s.mem b) ∧
         ∀ b, regGet t b = regGet s b) ∧
  (∀ (s : State) (m : Master) (a : Word) (k : Fin 5) (w : BitVec 128), coreDown s = false → Settled s →
       ((inWindow a.toNat = true ∧ (k ≠ 2 ∨ a.toNat % 4 ≠ 0)) ∨
         (inWindow a.toNat = false ∧ inSram a.toNat = false ∧ inRet a.toNat = false) ∨
         (inWindow a.toNat = true ∧ regRow a.toNat = none) ∨
         ((inSram a.toNat || inRet a.toNat) = true ∧ (a.toNat % 2 ^ k.val ≠ 0 ∨ memWritable s m a.toNat = false)) ∨
         (inWindow a.toNat = true ∧ isConfigReg a.toNat = true ∧ m ≠ .mgmt) ∨ (m = .mrc ∧ a.toNat / 65536 = 0x400B)) →
       exec (.registerWrite m a k w) s = .next { s with bus := ⟨true, 0⟩ })

/-- A clock fault, a missed watchdog service and a low supply take the outputs off (derived; R12, R23, R24, R28, R452, R482). A
CLOCK_MONITOR_WINDOW whose count lies in its band, or of a clock whose fault is declared already, changes nothing. One outside its
band, of a clock whose fault is not declared yet, enters FAULTED with the kill line asserted and every output off, declares the
clock's fault, and is journaled as 0x3008, FATAL and STATE. A WATCHDOG enters FAULTED with the kill line asserted and every output
off, journaled as 0xE003, FATAL and STATE, and the summit log keeps 0xE003 as the cause. (The entries stand where the event queue
has room and no swap waits for a recovery, which would add its cancellation.) SUPPLY_BELOW_RANGE asserts the kill line with every
output off and stops the lamp stages, and its own term goes away when the supplies are back. That the later windows of a clock
whose fault is declared change nothing is the model's reading of R24 (log entry 127), and that the supply's own term ends with the
low supply is its reading of R452 (log entry 126). -/
def Obligations.ClockAndSupplyFaults : Prop :=
  (∀ s (k : Fin 4) n, Settled s → (countBad k.val n.toNat = false ∨ clockFaulted s k.val = true) → exec (.clockMonitorWindow k n) s = .next s) ∧
  (∀ s (k : Fin 4) n, coreDown s = false → s.dev ≠ .powerUp → countBad k.val n.toNat = true → clockFaulted s k.val = false →
    ∃ t, exec (.clockMonitorWindow k n) s = .next t ∧ t.dev = .faulted ∧ t.kill.clock = true ∧ killAsserted t = true ∧
      t.sout.applied = 0 ∧ clockFaulted t k.val = true ∧
      (s.dev ≠ .faulted → s.jrn.queue.length ≤ 61 → (s.sle.recov = none ∨ s.sle.swapPend = false) →
        t.jrn.queue.map Event.code = s.jrn.queue.map Event.code ++ [0x3008, 0xF001, 0x0001])) ∧
  (∀ s, coreDown s = false → s.dev ≠ .powerUp → s.dev ≠ .faulted →
    ∃ t, exec .watchdog s = .next t ∧ t.dev = .faulted ∧ killAsserted t = true ∧ t.sout.applied = 0 ∧ t.summit.fatal = 0xE003 ∧
      (s.jrn.queue.length ≤ 61 → (s.sle.recov = none ∨ s.sle.swapPend = false) →
        t.jrn.queue.map Event.code = s.jrn.queue.map Event.code ++ [0xE003, 0xF001, 0x0001])) ∧
  (∀ s, ∃ t, exec (.supplyBelowRange true) s = .next t ∧ t.kill.supply = true ∧ killAsserted t = true ∧ t.sout.applied = 0 ∧
    lampsRun t = false) ∧
  (∀ s, ∃ t, exec (.supplyBelowRange false) s = .next t ∧ t.kill = { s.kill with supply := false })

/-- A filtered change takes the raw level and the time stamp of its first sample, and none comes early (derived; R38, R39, R40, R49,
R54, R59, R386). A raw level first sampled at first, a whole microsecond, has been the same for FILTER samples, none of them
replaced by a background slice: FILTERED_CHANGE makes it the filtered value and stamps it with first div 100 (R39, R40). A low
that began in an open window of the input's own source is passed at the later of that time and the window's end (R49), and after
SAG only samples since the exit count (R59). Every other input is as before, and the last sample of this one shows the new level.
Before that time, with a first sample before the exit from SAG, for the level the filtered value already has, or with a first
sample that a background slice on the input's comparator replaces (the first 4 µs of its step, R386), the command changes nothing.
When the count ends is the model's reading (log entry 29). -/
def Obligations.FilteredChangeTakesValueAndStamp : Prop :=
  (∀ s (i : Fin 128) on first, coreDown s = false → started s.dev = true → (inGet s i).filt ≠ on → first % 100 = 0 →
      sampleReplaced s i first = false → rebuildFrom s i ≤ first → first + filterOf s i * 100 ≤ s.tb → (on = true ∨ ∀ e, ownWindowEnd s i first = some e → e ≤ s.tb) →
    ∃ t, exec (.filteredChange i on first) s = .next t ∧
      inGet t i = { inGet s i with filt := on, ts := first / 100 } ∧ bitN t.fio.raw i = on ∧ ∀ j, j ≠ i.val → inGet t j = inGet s j) ∧
  (∀ s (i : Fin 128) on first, Settled s →
      (s.tb < first + filterOf s i * 100 ∨ first < rebuildFrom s i ∨ (inGet s i).filt = on ∨ ∃ t0, s.fio.slice = some (i.val, t0) ∧ t0 ≤ first ∧ first < t0 + 400) →
    exec (.filteredChange i on first) s = .next s) ∧
  (∀ s (i : Fin 128) first e, Settled s → ownWindowEnd s i first = some e → s.tb < e → exec (.filteredChange i false first) s = .next s) ∧
  (∀ s (i : Fin 128) n t0 e first, srcOf s i = some n → (srcGet s n).win = some (t0, e) → t0 ≤ first → ownWindowEnd s i first = some e)

/-- A source pulses in its phase slot with the width of its history; a sag skips the pulse (derived; R45, R47, R48, R53, R60, R243,
R481). At its phase slot, n T_TP / 16 into a test period, an enabled source starts its off-pulse: its window opens and ends PW_MAX
+ RESP_MAX later, with the width its history gives (at the follower of a pair, the width its leader reports), and it notes which
of its inputs are ON (the filtered value is ON and the input does not read OFF before the pulse); no other source and no input's
filtered state changes. In SAG or BROWN-OUT of its bank the pulse is skipped instead: no window opens, the skip is counted in the
bank's half of FIO_TP_SKIP, and the history is emptied. A source that is disabled, at another instant, in POWER-UP or SELF-TEST,
or without its supply does not pulse. TEST_PULSE_END lets the source drive again when the width is over, not before. The next
width is PW_MAX while the history is empty, else clamp(2 r, max(20 µs, PW_MIN), PW_MAX) for the largest response r in it. -/
def Obligations.TestPulsesFollowTheirSchedule : Prop :=
  (∀ s (n : Fin 16) (off : List (Fin 128)), coreDown s = false → started s.dev = true → s.kill.supply = false → srcEn s n = true →
      s.tb % tTP s = tpPhase s n % tTP s → windowOver s n = true → sagging s (bankOfSource n) = false →
    ∃ t, exec (.testPulseStart n off) s = .next t ∧ t.fio.ins = s.fio.ins ∧ (∀ m, m ≠ n.val → srcGet t m = srcGet s m) ∧
      srcGet t n = { srcGet s n with
        win := some (s.tb, s.tb + (fldGet s (Reg.FIO_TP_CFG n) F.FIO_TP_CFG_PW_MAX + fldGet s (Reg.FIO_TP_CFG n) F.FIO_TP_CFG_RESP_MAX) * 100)
        off := true, width := tpPulseWidth s n, discard := false
        onAt := (fedAndOn s n).filter fun i => !(off.map Fin.val).contains i }) ∧
  (∀ s (n : Fin 16) (off : List (Fin 128)), coreDown s = false → started s.dev = true → s.kill.supply = false → srcEn s n = true →
      s.tb % tTP s = tpPhase s n % tTP s → windowOver s n = true → sagging s (bankOfSource n) = true →
    ∃ t, exec (.testPulseStart n off) s = .next t ∧ (srcGet t n).win = (srcGet s n).win ∧ (srcGet t n).hist = [] ∧ t.fio.ins = s.fio.ins ∧
      regGet t Reg.FIO_TP_SKIP =
        regGet (fldBump s Reg.FIO_TP_SKIP (if n.val < 8 then F.FIO_TP_SKIP_SKIP0 else F.FIO_TP_SKIP_SKIP1) 1) Reg.FIO_TP_SKIP) ∧
  (∀ s (n : Fin 16) off, Settled s →
      (srcEn s n = false ∨ s.tb % tTP s ≠ tpPhase s n % tTP s ∨ started s.dev = false ∨ s.kill.supply = true) →
    exec (.testPulseStart n off) s = .next s) ∧
  (∀ s (n : Fin 16) t0 e, coreDown s = false → (srcGet s n).win = some (t0, e) → (srcGet s n).off = true →
      t0 + (srcGet s n).width * 100 ≤ s.tb →
    ∃ t, exec (.testPulseEnd n) s = .next t ∧ srcGet t n = { srcGet s n with off := false }) ∧
  (∀ s (n : Fin 16) t0 e, Settled s → (srcGet s n).win = some (t0, e) → s.tb < t0 + (srcGet s n).width * 100 →
    exec (.testPulseEnd n) s = .next s) ∧
  (∀ s n, (srcGet s n).hist = [] → tpNextWidth s n = fldGet s (Reg.FIO_TP_CFG n) F.FIO_TP_CFG_PW_MAX) ∧
  (∀ s n r, r ∈ (srcGet s n).hist → (∀ x ∈ (srcGet s n).hist, x ≤ r) →
    tpNextWidth s n = clampN (2 * r) (max 20 (fldGet s (Reg.FIO_TP_CFG n) F.FIO_TP_CFG_PW_MIN)) (fldGet s (Reg.FIO_TP_CFG n) F.FIO_TP_CFG_PW_MAX)) ∧
  (∀ s n, (pstate s ≠ 2 ∨ isLeader s = true) → tpPulseWidth s n = tpNextWidth s n)

/-- The window end latches NO_PULSE and CROSS_SHORT, warns of late returns, and spares inputs that were OFF (derived; R47, R50, R51,
R52, R53, R60). At the end of its window the source drives again and the window is closed. Unless its responses were discarded,
every input that was ON at the pulse start and gave no low within the pulse latches NO_PULSE; every such input still OFF sets its
SLOW bit, and so does a response above RESP_MAX; the SLOW bit clears with the eighth consecutive response of at most RESP_MAX
without a late return, and before that it stays; an input of another source that went OFF and returned ON in this window and in
the window of the same source one period before latches CROSS_SHORT; and an input whose last pulse was passed clears both latches
when it gave a response within the pulse again and no low in another window. An input that was OFF when its own source's pulse
began gets no test-pulse fault. A discarded pulse changes no input. When an input was OFF at the pulse start, and what counts
towards the clearing, are the model's readings (log entries 138 and 139). -/
def Obligations.TestPulseFaultsAreJudged : Prop :=
  (∀ s (n : Fin 16) resp lows late t0 e, coreDown s = false → (srcGet s n).win = some (t0, e) → e ≤ s.tb →
    ∃ t, exec (.tpWindowEnd n resp lows late) s = .next t ∧ (srcGet t n).win = none ∧ (srcGet t n).off = false ∧
      ((srcGet s n).discard = true → t.fio.ins = s.fio.ins) ∧
      ((srcGet s n).discard = false →
        (∀ i : Fin 128, i.val ∈ (srcGet s n).onAt → (∀ p ∈ resp, p.1 = i → (srcGet s n).width ≤ p.2) → (inGet t i).noPulse = true) ∧
        (∀ i : Fin 128, i.val ∈ (srcGet s n).onAt → (∃ p ∈ late, p.1 = i) → (inGet t i).slow = true) ∧
        (∀ i : Fin 128, ∀ r, i.val ∈ (srcGet s n).onAt → (i, r) ∈ resp → (∀ p ∈ resp, p.1 = i → p.2 = r) → t0 + r * 100 ≤ e →
          (fldGet s (Reg.FIO_TP_CFG n) F.FIO_TP_CFG_RESP_MAX < r → (inGet t i).slow = true) ∧
          (r ≤ fldGet s (Reg.FIO_TP_CFG n) F.FIO_TP_CFG_RESP_MAX → (∀ p ∈ late, p.1 ≠ i) →
            (7 ≤ (inGet s i).goodResp → (inGet t i).slow = false) ∧
            ((inGet s i).goodResp < 7 → (srcGet s n).onAt.count i.val = 1 → (inGet t i).slow = (inGet s i).slow ∧ (inGet t i).goodResp = (inGet s i).goodResp + 1))) ∧
        (∀ i : Fin 128, (i, true) ∈ lows → srcOf s i ≠ none → srcOf s i ≠ some n.val →
          (∃ k, (n.val, k) ∈ (inGet s i).cross ∧ k + 1 = t0 / tTP s) → (inGet t i).xshort = true) ∧
        (∀ i : Fin 128, i.val ∈ (srcGet s n).onAt → 1 ≤ (inGet s i).good → (∃ p ∈ resp, p.1 = i) →
          (∀ p ∈ resp, p.1 = i → p.2 < (srcGet s n).width ∧ t0 + p.2 * 100 ≤ e) → (∀ b, (i, b) ∉ lows) →
          (inGet t i).noPulse = false ∧ (inGet t i).xshort = false) ∧
        (∀ i : Fin 128, i.val ∉ (srcGet s n).onAt → srcOf s i = some n.val →
          (inGet t i).noPulse = (inGet s i).noPulse ∧ (inGet t i).xshort = (inGet s i).xshort ∧ (inGet t i).slow = (inGet s i).slow)))

/-- A leakage measurement is stored and moves UNDEFINED and LEAK_WARN after COUNT consecutive measurements (derived; R37, R55, R56,
R57). At an input's measurement point, once in each 100 ms interval, with the watch on and the bank neither in SAG nor BROWN-OUT,
LEAK_MEASURE stores the voltage. UNDEFINED sets when this is the COUNT-th consecutive measurement in the undefined band and clears
when it is the COUNT-th outside it; LEAK_WARN does the same for off-state measurements at or above WARN_V that are not in the
undefined band. Each change of a flag is journaled as 0x4002 with the input, the flag (bit 7 set for a clearing) and the voltage.
The filtered value and every other input stay. An OFF input's point lies at its number times 781.25 µs of the interval, and the
measurement of an OFF input is an off-state one. At another time, a second time in the interval, in SAG or BROWN-OUT, or with the
watch off, nothing changes. -/
def Obligations.LeakageMeasurementSetsFlags : Prop :=
  (∀ s (i : Fin 128) (v : Fin 255), coreDown s = false → started s.dev = true → fldGet s Reg.FIO_LEAK_CFG F.FIO_LEAK_CFG_EN = 1 →
      sagging s (bankOfInput i) = false → leakPoint s i = true → (inGet s i).leakIv ≠ some (s.tb / 10000000) →
    ∃ t, exec (.leakMeasure i v) s = .next t ∧ (inGet t i).leakV = v.val ∧ (inGet t i).filt = (inGet s i).filt ∧
      (∀ j, j ≠ i.val → inGet t j = inGet s j) ∧
      ((inGet t i).undef = true ↔
        if (inGet s i).undef then ¬(undefBand s i v = false ∧ fldGet s Reg.FIO_LEAK_CFG F.FIO_LEAK_CFG_COUNT ≤ (inGet s i).undefRun + 1)
        else (undefBand s i v = true ∧ fldGet s Reg.FIO_LEAK_CFG F.FIO_LEAK_CFG_COUNT ≤ (inGet s i).undefRun + 1)) ∧
      (inGet t i).undefRun = (if undefBand s i v = (inGet s i).undef ∨ fldGet s Reg.FIO_LEAK_CFG F.FIO_LEAK_CFG_COUNT ≤ (inGet s i).undefRun + 1
        then 0 else (inGet s i).undefRun + 1) ∧
      ((inGet t i).warn = true ↔
        if (inGet s i).warn then
          ¬(¬(leakOffState s i = true ∧ undefBand s i v = false ∧ fldGet s Reg.FIO_LEAK_CFG F.FIO_LEAK_CFG_WARN_V ≤ v.val) ∧
            fldGet s Reg.FIO_LEAK_CFG F.FIO_LEAK_CFG_COUNT ≤ (inGet s i).warnRun + 1)
        else ((leakOffState s i = true ∧ undefBand s i v = false ∧ fldGet s Reg.FIO_LEAK_CFG F.FIO_LEAK_CFG_WARN_V ≤ v.val) ∧
            fldGet s Reg.FIO_LEAK_CFG F.FIO_LEAK_CFG_COUNT ≤ (inGet s i).warnRun + 1)) ∧
      (s.jrn.queue.length ≤ 62 → t.jrn.queue = s.jrn.queue ++
        (if (inGet t i).undef = (inGet s i).undef then []
          else [⟨s.tb, s.tb, 0x4002, i.val, if (inGet t i).undef then 1 else 0x81, v.val, false, false⟩]) ++
        (if (inGet t i).warn = (inGet s i).warn then []
          else [⟨s.tb, s.tb, 0x4002, i.val, if (inGet t i).warn then 2 else 0x82, v.val, false, false⟩]))) ∧
  (∀ s (i : Fin 128) v, Settled s → (sagging s (bankOfInput i) = true ∨ fldGet s Reg.FIO_LEAK_CFG F.FIO_LEAK_CFG_EN = 0 ∨
      leakPoint s i = false ∨ (inGet s i).leakIv = some (s.tb / 10000000)) →
    exec (.leakMeasure i v) s = .next s) ∧
  (∀ s (i : Fin 128), (inGet s i).filt = false →
    (leakPoint s i = true ↔ s.tb % 10000000 = i.val * 78125) ∧ leakOffState s i = true) ∧
  (∀ s (i : Fin 128) (v : Nat), undefBand s i v = true ↔
    40 < v ∧ v < (if bitN (fldGet s Reg.FIO_CTRL F.FIO_CTRL_ITYPE) (i.val / 16) then 120 else 88))

/-- The supply level of a field bank is entered and left as R58 says, and a brown-out takes its outputs off (derived; R58, R59, R60,
R90, R149, R150). VFIELD_UPDATE stores both means at a 1 ms TB multiple after POWER-UP, and at no other time. For a voltage that
has held for the time of R58: WARN is entered below 18.0 V and left at 18.5 V, SAG below 15.0 V and left at 16.0 V, BROWN-OUT
below 12.0 V and left at 16.0 V. Each change is journaled as 0x4003 with the bank, the level entered and the voltage. In SAG and
BROWN-OUT the snapshot shows the bank's inputs OFF, and a pulse that runs when they begin is discarded with its source's history.
On leaving SAG or BROWN-OUT the bank takes WARN below 18.5 V and its filtered values are rebuilt from this instant. On entering
BROWN-OUT the output latch of the bank is set and all its outputs are off; the latch stays when the bank leaves BROWN-OUT. The
level after SAG or BROWN-OUT and the rebuilding from OFF are the model's readings (log entries 31 and 32). -/
def Obligations.SupplyLevelsFollowTheField : Prop :=
  (∀ s v0 v1, coreDown s = false → s.dev ≠ .powerUp → s.tb % 100000 = 0 →
    ∃ t, exec (.vfieldUpdate v0 v1) s = .next t ∧ regGet t Reg.FIO_VFIELD = BitVec.ofNat 32 (v1.toNat * 65536 + v0.toNat) ∧
      ∀ a, a ≠ Reg.FIO_VFIELD → regGet t a = regGet s a) ∧
  (∀ s v0 v1, Settled s → (s.dev = .powerUp ∨ s.tb % 100000 ≠ 0) → exec (.vfieldUpdate v0 v1) s = .next s) ∧
  (∀ s (b : Fin 2) (mv : BitVec 16), coreDown s = false → levelOf s b = .ok → mv.toNat < 18000 →
    ∃ t, exec (.warnEnter b mv) s = .next t ∧ levelOf t b = .warn ∧
      (s.jrn.queue.length < 64 → t.jrn.queue = s.jrn.queue ++ [⟨s.tb, s.tb, 0x4003, b.val, 1, mv.toNat, false, false⟩])) ∧
  (∀ s (b : Fin 2) (mv : BitVec 16), coreDown s = false → levelOf s b = .warn → 18500 ≤ mv.toNat →
    ∃ t, exec (.warnLeave b mv) s = .next t ∧ levelOf t b = .ok ∧
      (s.jrn.queue.length < 64 → t.jrn.queue = s.jrn.queue ++ [⟨s.tb, s.tb, 0x4003, b.val, 0, mv.toNat, false, false⟩])) ∧
  (∀ s (b : Fin 2) (mv : BitVec 16) failing, coreDown s = false → (levelOf s b = .ok ∨ levelOf s b = .warn) → mv.toNat < 15000 →
    ∃ t, exec (.sagEnter b mv failing) s = .next t ∧ levelOf t b = .sag ∧
      (s.jrn.queue.length < 64 → ⟨s.tb, s.tb, 0x4003, b.val, 2, mv.toNat, false, false⟩ ∈ t.jrn.queue) ∧
      (∀ i, bankOfInput i = b.val → snapOn t i = false) ∧
      ∀ n, n < 16 → bankOfSource n = b.val → (srcGet s n).off = true → (srcGet s n).discard = false →
        (srcGet t n).discard = true ∧ (srcGet t n).hist = []) ∧
  (∀ s (b : Fin 2) (mv : BitVec 16), coreDown s = false → levelOf s b = .sag → 16000 ≤ mv.toNat →
    ∃ t, exec (.sagLeave b mv) s = .next t ∧ levelOf t b = (if mv.toNat < 18500 then .warn else .ok) ∧
      (s.jrn.queue.length < 64 →
        ⟨s.tb, s.tb, 0x4003, b.val, if mv.toNat < 18500 then 1 else 0, mv.toNat, false, false⟩ ∈ t.jrn.queue) ∧
      ∀ i, i < 128 → bankOfInput i = b.val → (inGet t i).filt = false ∧ rebuildFrom t i = s.tb) ∧
  (∀ s (b : Fin 2) (mv : BitVec 16), coreDown s = false → levelOf s b ≠ .brownOut → mv.toNat < 12000 →
    ∃ t, exec (.brownOutEnter b mv) s = .next t ∧ levelOf t b = .brownOut ∧ boLatch t b = true ∧
      (s.jrn.queue.length < 64 → ⟨s.tb, s.tb, 0x4003, b.val, 3, mv.toNat, false, false⟩ ∈ t.jrn.queue) ∧
      (∀ i, bankOfInput i = b.val → snapOn t i = false) ∧
      (∀ n, n < 16 → bankOfSource n = b.val → (srcGet s n).off = true → (srcGet s n).discard = false →
        (srcGet t n).discard = true ∧ (srcGet t n).hist = []) ∧
      ∀ c, c < 24 → bankOfChannel c = b.val → bitN t.sout.applied c = false) ∧
  (∀ s (b : Fin 2) (mv : BitVec 16), coreDown s = false → levelOf s b = .brownOut → 16000 ≤ mv.toNat →
    ∃ t, exec (.brownOutLeave b mv) s = .next t ∧ levelOf t b = (if mv.toNat < 18500 then .warn else .ok) ∧
      (s.jrn.queue.length < 64 →
        ⟨s.tb, s.tb, 0x4003, b.val, if mv.toNat < 18500 then 1 else 0, mv.toNat, false, false⟩ ∈ t.jrn.queue) ∧
      boLatch t b = boLatch s b ∧ ∀ i, i < 128 → bankOfInput i = b.val → (inGet t i).filt = false ∧ rebuildFrom t i = s.tb)

/-- A read of an RC register answers its value, then clears it (derived; R4, R61, R156, R233, R266, R340, R372). Reading FIO_TP_SKIP,
SOUT_OP_SKIP, ROPE_PORT_ERR, BLY_LINK_ERR, ADC_URGENT_DROP, ADC_CNT or MRC_CH_BADCNT answers the value it had without a bus error;
the register then holds 0 and every other register is unchanged. -/
def Obligations.CountersThatClearOnRead : Prop :=
  ∀ s, coreDown s = false →
    (∀ c a, ((c = .fioTpSkipRead ∧ a = Reg.FIO_TP_SKIP) ∨ (c = .soutOpSkipRead ∧ a = Reg.SOUT_OP_SKIP) ∨
        (∃ p : Fin 3, c = .ropePortErrRead p ∧ a = Reg.ROPE_PORT_ERR p) ∨ (c = .blyLinkErrRead ∧ a = Reg.BLY_LINK_ERR) ∨
        (c = .adcUrgentDropRead ∧ a = Reg.ADC_URGENT_DROP) ∨ (∃ n : Fin 4, c = .adcCntRead n ∧ a = Reg.ADC_CNT n) ∨
        (∃ n : Fin 16, c = .mrcBadcntRead n ∧ a = Reg.MRC_CH_BADCNT n)) →
      ∃ t, exec c s = .next t ∧ t.bus = ⟨false, (regGet s a).toNat⟩ ∧ regGet t a = 0 ∧ ∀ b, b ≠ a → regGet t b = regGet s b)

/-- A released image is applied as a whole; one that is not newer is discarded and counted (derived; R119, R134, R135).
SOUT_IMAGE_APPLY takes the oldest released image. If its scan number is newer than that of the last applied image, the image, its
scan number and whether it drives the outputs are taken and every channel follows R134 at once. If not, it is discarded: the last
image stays, SOUT_STALE_CNT counts one up, and the event is journaled as 0x7004. With no image waiting nothing changes. -/
def Obligations.ReleasedImagesApplyInOrder : Prop :=
  (∀ s n img drive rest, coreDown s = false → s.sout.fifo = (n, img, drive) :: rest →
      (s.sout.scan = none ∨ ∃ m, s.sout.scan = some m ∧ scanNewer n m = true) →
    ∃ t, exec .soutImageApply s = .next t ∧ t.sout.img = img ∧ t.sout.drive = drive ∧ t.sout.scan = some n ∧ t.sout.fifo = rest ∧
      ∀ c, c < 24 → bitN t.sout.applied c = chApplied { s with sout := { s.sout with img := img, drive := drive } } c) ∧
  (∀ s n img drive rest m, coreDown s = false → s.sout.fifo = (n, img, drive) :: rest → s.sout.scan = some m → scanNewer n m = false →
    ∃ t, exec .soutImageApply s = .next t ∧ t.sout.img = s.sout.img ∧ t.sout.drive = s.sout.drive ∧ t.sout.scan = some m ∧
      t.sout.fifo = rest ∧
      fldGet t Reg.SOUT_STALE_CNT F.SOUT_STALE_CNT_CNT = satAdd 16 (fldGet s Reg.SOUT_STALE_CNT F.SOUT_STALE_CNT_CNT) 1 ∧
      (s.jrn.queue.length < 64 → t.jrn.queue.map Event.code = s.jrn.queue.map Event.code ++ [0x7004])) ∧
  (∀ s, Settled s → s.sout.fifo = [] → exec .soutImageApply s = .next s)

/-- A detected channel fault is latched under its code, the first code stays, and the channel is off; one that cannot be removed takes
its group off (derived; R134, R138, R144, R145, R146, R147). SHORT_VF (a node of a channel that is off shows ON) and ON_LOST (a
channel that is on does not show its on pattern), each after 100 µs in which the comparison runs, OVERLOAD on a channel that is
on, THERMAL on any, BANK_OVL on every channel of the bank and CROSS on both channels latch their codes (1, 4, 5, 8, 7, 6) unless a
code is latched that is earlier, or lower and of the same FIO cycle, and every channel with a latched code is off. CROSS names
each channel in the other's PARTNER where the other has no code yet. A fault on one channel leaves the codes of all others as they
were. SHORT_VF or HS_STUCK on a high-side-only channel sets its UNREM bit and its group's GSTOP bit, is journaled as 0x7002, takes
every channel of the output group off and does not change the device state. The order of two faults of one FIO cycle is the
model's reading (log entry 62). -/
def Obligations.ChannelFaultsLatchAndSwitchOff : Prop :=
  ((∀ s (c : Fin 24) since h l, coreDown s = false → chOn s c = false → comparing s c = true → nodeOn (pattern s c) h l = true →
         lasted s c since = true →
       ∃ t, exec (.shortVf c since h l) s = .next t ∧ (chGet t c).fault = (if faultTaken s c 1 then 1 else (chGet s c).fault) ∧
         chOn t c = false ∧ ∀ d, d ≠ c.val → (chGet t d).fault = (chGet s d).fault) ∧
     (∀ s (c : Fin 24) since h l, coreDown s = false → chOn s c = true → comparing s c = true → matchesPattern (pattern s c) h l = false →
         lasted s c since = true →
       ∃ t, exec (.onLost c since h l) s = .next t ∧ (chGet t c).fault = (if faultTaken s c 4 then 4 else (chGet s c).fault) ∧
         chOn t c = false ∧ ∀ d, d ≠ c.val → (chGet t d).fault = (chGet s d).fault) ∧
     (∀ s (c : Fin 24), coreDown s = false → chOn s c = true →
       ∃ t, exec (.overload c) s = .next t ∧ (chGet t c).fault = (if faultTaken s c 5 then 5 else (chGet s c).fault) ∧
         chOn t c = false ∧ ∀ d, d ≠ c.val → (chGet t d).fault = (chGet s d).fault) ∧
     (∀ s (c : Fin 24), coreDown s = false →
       ∃ t, exec (.thermal c) s = .next t ∧ (chGet t c).fault = (if faultTaken s c 8 then 8 else (chGet s c).fault) ∧
         chOn t c = false ∧ ∀ d, d ≠ c.val → (chGet t d).fault = (chGet s d).fault) ∧
     (∀ s (b : Fin 2), coreDown s = false →
       ∃ t, exec (.bankOvl b) s = .next t ∧ (if b.val = 0 then t.sout.bovl0 else t.sout.bovl1) = true ∧
         ∀ c, c < 24 → bankOfChannel c = b.val →
           (chGet t c).fault = (if faultTaken s c 7 then 7 else (chGet s c).fault) ∧ chOn t c = false) ∧
     (∀ s (c d : Fin 24) h l, coreDown s = false → opWindowOpen s c = true → isObserver s c d = true → sagging s (bankOfChannel c) = false →
       ∃ t, exec (.cross c d h l) s = .next t ∧ (chGet t c).fault = (if faultTaken s c 6 then 6 else (chGet s c).fault) ∧
         (chGet t d).fault = (if faultTaken s d 6 then 6 else (chGet s d).fault) ∧
         ((chGet s c).fault = 0 → (chGet t c).partner = d.val) ∧
         ((chGet s d).fault = 0 → (chGet t d).partner = c.val) ∧ chOn t c = false ∧ chOn t d = false)) ∧
  (∀ s (c : Fin 24) code, faultTaken s c code = true ↔ (chGet s c).fault = 0 ∨ ((chGet s c).faultAt = s.tb ∧ code ≤ (chGet s c).fault)) ∧
  (∀ s (c : Fin 24) x, coreDown s = false → chMode s c = 2 →
       ((∃ since h l, x = .shortVf c since h l ∧ chOn s c = false ∧ comparing s c = true ∧ nodeOn (pattern s c) h l = true ∧
           lasted s c since = true) ∨
         (∃ t0, x = .offPulseTimeout c none ∧ (chGet s c).pulse = some t0 ∧ (chGet s c).discard = false ∧ (chGet s c).hi = true ∧
           s.tb = t0 + owMax s c * 100)) →
       ∃ t, exec x s = .next t ∧ (chGet t c).unrem = true ∧ bitN t.sout.gstop (chGroup s c) = true ∧ t.dev = s.dev ∧
         (∀ d, d < 24 → chGroup s d = chGroup s c → chOn t d = false) ∧
         ((chGet s c).unrem = false → s.jrn.queue.length < 63 → (t.jrn.queue.any fun e => e.code = 0x7002) = true))

/-- Off-pulses start in their slots, enter the history, and fail as stuck switches (derived; R139, R140, R142, R143, R144). At its
slot, with tests on, a channel that is on and neither masked nor sagging starts the pulse of the switch whose turn it is, with its
history's width. Masked, sagging, or commanded on under the kill line, it is skipped and counted in its bank's half of
SOUT_OP_SKIP. A response of at most OW_MAX ends the pulse at the later of width and response, and enters the history of the tested
switch, the newest of at most 8; no response by OW_MAX latches HS_STUCK or LS_STUCK, or, where current diagnostics saw the current
of an observing channel rise, CROSS on both, and switches the channel off. What is counted as skipped under the kill line is the
model's reading (log entry 58). -/
def Obligations.OffPulsesTestTheSwitches : Prop :=
  (∀ s (c : Fin 24), coreDown s = false → 0 < tOP s → s.tb % tOP s = opPhase s c → fldGet s (Reg.SOUT_CH_OW c) F.SOUT_CH_OW_EN = 1 →
      belaySuspended s c = false → killAsserted s = false → bitN s.sout.applied c = true → chEnabled s c = true → masked s c = false →
      sagging s (bankOfChannel c) = false → (chGet s c).pulse = none →
    ∃ t, exec (.offPulseStart c) s = .next t ∧ (chGet t c).pulse = some s.tb ∧
      (chGet t c).hi = ((chGet s c).redo.getD (opHigh s c)) ∧ (chGet t c).pw = opWidth s c (chGet t c).hi ∧ chOn t c = true) ∧
  (∀ s (c : Fin 24), coreDown s = false → 0 < tOP s → s.tb % tOP s = opPhase s c → fldGet s (Reg.SOUT_CH_OW c) F.SOUT_CH_OW_EN = 1 →
      belaySuspended s c = false →
      ((killAsserted s = false ∧ bitN s.sout.applied c = true ∧ (masked s c = true ∨ sagging s (bankOfChannel c) = true)) ∨
        (killAsserted s = true ∧ chCmd s c = true ∧ chMode s c ≠ 0)) →
    ∃ t, exec (.offPulseStart c) s = .next t ∧
      regGet t Reg.SOUT_OP_SKIP =
        regGet (fldBump s Reg.SOUT_OP_SKIP (if c.val < 12 then F.SOUT_OP_SKIP_SKIP0 else F.SOUT_OP_SKIP_SKIP1) 1) Reg.SOUT_OP_SKIP) ∧
  (∀ s (c : Fin 24) r h l t0, coreDown s = false → (chGet s c).pulse = some t0 → (chGet s c).discard = false → r ≤ owMax s c →
      s.tb = t0 + max (chGet s c).pw r * 100 → chEnabled s c = true → bitN s.sout.applied c = true →
    ∃ t, exec (.offPulseEnd c r h l) s = .next t ∧ (chGet t c).pulse = none ∧
      chHist (chGet t c) (chGet s c).hi = (r :: chHist (chGet s c) (chGet s c).hi).take 8 ∧ chOn t c = true) ∧
  (∀ s (c : Fin 24) t0, coreDown s = false → (chGet s c).pulse = some t0 → (chGet s c).discard = false →
      s.tb = t0 + owMax s c * 100 →
    ∃ t, exec (.offPulseTimeout c none) s = .next t ∧
      (chGet t c).fault = (if faultTaken s c (if (chGet s c).hi then 2 else 3) then (if (chGet s c).hi then 2 else 3) else (chGet s c).fault) ∧ chOn t c = false) ∧
  (∀ s (c d : Fin 24) t0, coreDown s = false → (chGet s c).pulse = some t0 → (chGet s c).discard = false →
      s.tb = t0 + owMax s c * 100 → fldGet s Reg.SOUT_CFG F.SOUT_CFG_IDIAG = 1 → isObserver s c d = true →
    ∃ t, exec (.offPulseTimeout c (some d)) s = .next t ∧ (chGet t c).fault = (if faultTaken s c 6 then 6 else (chGet s c).fault) ∧
      (chGet t d).fault = (if faultTaken s d 6 then 6 else (chGet s d).fault) ∧ chOn t c = false ∧ chOn t d = false)

/-- Masks end, measurements are stored, OPEN_LOAD warns, a held off pattern prepares the clearing, and a cut lamp feed is off
(derived; R137, R139, R144, R148, R151). READBACK_MASK_END ends a mask that is over. CURRENT_MEASUREMENT stores both feed
currents, and the current and node voltages of each channel it measures, while IDIAG = 1 and the self-test is over, and nothing
else. OPEN_LOAD sets the warning of a channel that is on, whose current is evaluated and whose IOPEN is not 0, and leaves its
switch state. OFF_PATTERN_HELD marks a channel that has been off for 100 ms and shows its off pattern and an off current. After
LAMP_FEED_CUT with ASP's cut request standing, no channel that is a lamp feed of that LED bank is on. That an off current is not
judged with IDIAG = 0 is the model's reading (log entry 166). -/
def Obligations.ChannelMeasurementsAndClearing : Prop :=
  (∀ s (c : Fin 24) h l e, coreDown s = false → (chGet s c).mask = some e → e ≤ s.tb → appliedOf s = s.sout.applied →
    ∃ t, exec (.readbackMaskEnd c h l) s = .next t ∧ (chGet t c).mask = none) ∧
  (∀ s b0 b1 ms, coreDown s = false → fldGet s Reg.SOUT_CFG F.SOUT_CFG_IDIAG = 1 → started s.dev = true → ms.length ≤ 24 →
    ∃ t, exec (.currentMeasurement b0 b1 ms) s = .next t ∧ regGet t Reg.SOUT_BANK_I = BitVec.ofNat 32 (b1.toNat * 65536 + b0.toNat) ∧
      ∀ k, k < 24 → ∀ m, ms[k]? = some m →
        regGet t (Reg.SOUT_CH_MEAS k) = BitVec.ofNat 32 (m.2.1.toNat * 2 ^ 24 + m.2.2.toNat * 2 ^ 16 + m.1.toNat)) ∧
  (∀ s b0 b1 ms, Settled s → (fldGet s Reg.SOUT_CFG F.SOUT_CFG_IDIAG = 0 ∨ started s.dev = false) →
    exec (.currentMeasurement b0 b1 ms) s = .next s) ∧
  (∀ s (c : Fin 24), coreDown s = false → chOn s c = true → appliedOf s = s.sout.applied →
      fldGet s Reg.SOUT_CFG F.SOUT_CFG_IDIAG = 1 → currentJudged s c = true → 0 < fldGet s (Reg.SOUT_CH_CFG c) F.SOUT_CH_CFG_IOPEN →
    ∃ t, exec (.openLoad c) s = .next t ∧ (chGet t c).opn = true ∧ chOn t c = true) ∧
  (∀ s (c : Fin 24) h l, coreDown s = false → chOn s c = false → appliedOf s = s.sout.applied →
      matchesPattern (pattern s c) h l = true → offCurrent s c = true →
      (chGet s c).changed + 10000000 ≤ s.tb → sagging s (bankOfChannel c) = false →
    ∃ t, exec (.offPatternHeld c h l) s = .next t ∧ (chGet t c).offHeld = true) ∧
  (∀ s (b : Fin 2), coreDown s = false →
      fldGet s Reg.ASP_STATUS (if b.val = 0 then F.ASP_STATUS_CUT0 else F.ASP_STATUS_CUT1) = 1 →
    ∃ t, exec (.lampFeedCut b) s = .next t ∧ ∀ c, c < 24 → chRole s c = b.val + 1 → chOn t c = false)

/-- A direct stop asserts the kill line and stops a running part; the line is released when both pins are high and no discrepancy is
latched (derived; R10, R12, R154, R155). A fall of either direct stop pin asserts the kill line, turns every output off, enters
SAFE-STOPPED from RUN, RECOVERING and DEGRADED, and is journaled as 0x7005 with the levels of both pins. When the pins are high
again, this is journaled as 0x7005 with both levels, the device state does not change, and the line is released if nothing else
asserts it; one pin high alone does not release it. Pins that have differed for longer than EXTD latch EXT_DISC, which keeps the
kill line asserted. -/
def Obligations.DirectStopsActOnTheKillLine : Prop :=
  (∀ s (pinB : Bool), coreDown s = false → (if pinB then s.kill.extB else s.kill.extA) = true → s.jrn.queue.length < 63 →
    ∃ t, exec (.extStop pinB) s = .next t ∧ killAsserted t = true ∧ t.sout.applied = 0 ∧ active t.dev = false ∧
      (active s.dev = true → t.dev = .safeStopped) ∧ (active s.dev = false → t.dev = s.dev) ∧
      (t.jrn.queue.any fun e => e.code = 0x7005 && e.p0 = (if pinB then b2n s.kill.extA else 2 * b2n s.kill.extB)) = true) ∧
  (∀ s, coreDown s = false → (s.kill.extA = false ∨ s.kill.extB = false) →
    ∃ t, exec (.extStopRelease true true) s = .next t ∧ t.kill.extA = true ∧ t.kill.extB = true ∧ t.dev = s.dev ∧
      (s.jrn.queue.length < 64 → t.jrn.queue = s.jrn.queue ++ [⟨s.tb, s.tb, 0x7005, 3, 0, 0, false, false⟩]) ∧
      (s.kill.extDisc = true → killAsserted t = true) ∧
      (killAsserted { s with kill := { s.kill with extA := true, extB := true } } = false → killAsserted t = false)) ∧
  (∀ s (pinB : Bool), coreDown s = false → s.kill.extA = false → s.kill.extB = false →
    ∃ t, exec (.extStopRelease (!pinB) pinB) s = .next t ∧ t.kill.extA = !pinB ∧ t.kill.extB = pinB ∧ killAsserted t = true ∧ t.dev = s.dev) ∧
  (∀ s, coreDown s = false → s.kill.extA ≠ s.kill.extB → s.kill.extDisc = false →
      s.kill.extAt + fldGet s Reg.SOUT_CFG F.SOUT_CFG_EXTD * 100000 < s.tb →
    ∃ t, exec .extDisc s = .next t ∧ t.kill.extDisc = true ∧ killAsserted t = true ∧ t.sout.applied = 0 ∧ t.dev = s.dev)

/-- A scan start releases the previous scan, takes the next number and evaluates; an overrun ends in FAULTED, and a recovery skips it
(derived; R64, R65, R68, R89, R110, R112, R114, R115, R119). At a scan start with a finished scan, its output image goes to SOUT
with its number, its block states become the cairn the next scan reads, its SAFE bits are released, and the scan number advances
by one modulo 2^32. With neither a wait for the partner's image nor a breakpoint in the image the next scan is evaluated under the
new number, over a snapshot of the inputs taken now and journaled under that number. A released scan that meets the conditions of
R89 takes SAFE-STOPPED to RUN or DEGRADED. A lane that has not finished puts the device in FAULTED with every output off and no
image released. During a recovery that has not completed SCAN_START releases and evaluates nothing, journals the snapshot under
the next number, and counts the skipped scan. A pair's wait for IMAGE is log entry 91; that the image released at the boundary at
which the device leaves SAFE-STOPPED does not drive the outputs yet is log entry 49. -/
def Obligations.ScanStartReleasesAndEvaluates : Prop :=
  ((∀ s raw, coreDown s = false → scanOpen s = true → s.sle.swapPend = false → s.bly.waiting = none → s.bly.decide = false →
         s.bly.freeze = false → s.sle.recov = none → s.sout.fifo.length < 4 → ∀ r, s.sle.res = some r →
       ∃ t, exec (.scanStart raw none none none) s = .next t ∧ t.sout.fifo = s.sout.fifo ++ [(r.scan, r.image, active s.dev)] ∧
         t.sle.cairn = r.blk ∧ t.sle.safe = r.safe ∧ t.sle.scan = (s.sle.scan + 1) % 2 ^ 32 ∧ t.sle.lastStart = some s.tb) ∧
     (∀ s raw, coreDown s = false → scanOpen s = true → s.sle.swapPend = false → s.bly.waiting = none → s.bly.decide = false →
         s.bly.freeze = false → s.sle.recov = none → s.sle.res = none → waitsForPartner s = false →
         breakAt s = none →
       ∃ t, exec (.scanStart raw none none none) s = .next t ∧ t.sle.scan = (s.sle.scan + 1) % 2 ^ 32 ∧ t.sle.lastStart = some s.tb ∧
         ∃ sn, snapOf t t.sle.scan = some sn ∧ sn.start = s.tb ∧ (∀ i, i < 128 → inBit sn i = snapOn s i) ∧
           t.sle.res = some (evaluate t t.sle.scan sn (noBrownOut t) t.trial) ∧ (evaluate t t.sle.scan sn (noBrownOut t) t.trial).scan = t.sle.scan) ∧
     (∀ s raw, coreDown s = false → scanOpen s = true → s.sle.swapPend = false → s.bly.waiting = none → s.bly.decide = false →
         s.bly.freeze = false → s.sle.recov = none → s.sout.fifo.length < 4 → s.dev = .safeStopped →
         ∀ r, s.sle.res = some r → r.leave = true → leaveOk s = true → mayLeave s = true → s.kill.hold = false → s.pwr.vendorBad = false →
         breakAt s = none →
       ∃ t, exec (.scanStart raw none none none) s = .next t ∧ (t.dev = .run ∨ t.dev = .degraded)) ∧
     (∀ s (lane : Fin 2) raw, coreDown s = false → scanOpen s = true → s.sle.swapPend = false → s.bly.waiting = none →
         s.sle.recov = none → s.sle.res ≠ none → evaluating s lane.val = true →
       ∃ t, exec (.scanStart raw (some lane) none none) s = .next t ∧ t.dev = .faulted ∧ t.sout.fifo = s.sout.fifo ∧ t.sout.applied = 0 ∧
         t.summit.fatal = 0x6004)) ∧
  (∀ s raw, coreDown s = false → scanOpen s = true → s.sle.swapPend = false → s.bly.waiting = none → ∀ v, s.sle.recov = some v → v.phase < 2 →
       ∃ t, exec (.scanStart raw none none none) s = .next t ∧ t.sout.fifo = s.sout.fifo ∧ t.sle.safe = s.sle.safe ∧
         t.sle.cairn = s.sle.cairn ∧ t.sle.res = s.sle.res ∧ t.sle.scan = (s.sle.scan + 1) % 2 ^ 32 ∧
         t.sle.recov = some { v with skipped := v.skipped + 1 } ∧
         (regGet t Reg.SLE_SKIP_CNT).toNat = satAdd 32 (regGet s Reg.SLE_SKIP_CNT).toNat 1 ∧ t.dev = s.dev)

/-- A block's time expires in the evaluation a scan start begins (derived; R71, R83, R84, R87, R91, R93). The seven expiry commands of
the function blocks are scan starts: where the evaluation begun now, with the raw inputs as last sampled, makes the change the
command stands for (DISC or EDM_FAULT latches, the two-hand faults clear, RESET_STUCK sets, the second output of STOP1 falls,
TON's output rises, TOFF's falls), the command does what SCAN_START does, and the block shows that change. Where it does not, or
no scan starts, the command changes nothing. That these commands are scan starts is the model's reading (log entry 42). -/
def Obligations.BlockTimesExpireAtTheScanStart : Prop :=
  ∀ s (b : Fin 8192), coreDown s = false →
    ∀ p, p ∈ [(Instr.discTimeout b, BlkTime.disc), (.twohandFaultClear b, .twoHand), (.edmFault b, .edm), (.resetStuck b, .stuck),
      (.stop1Delay b, .stop1), (.tonExpiry b, .ton), (.toffExpiry b, .toff)] →
    (ExpiresNow s b.val p.2 →
      ∃ t, exec p.1 s = .next t ∧ (∀ raw : BitVec 128, raw.toNat = s.fio.raw → exec (.scanStart raw none none none) s = .next t) ∧
        ∃ r, t.sle.res = some r ∧
        (p.2 = .disc → (tabGet blkSt0 t.sle.cairn b.val).disc = false ∧ (tabGet blkSt0 r.blk b.val).disc = true) ∧
        (p.2 = .twoHand → (tabGet blkSt0 r.blk b.val).disc = false ∧ (tabGet blkSt0 r.blk b.val).tpf = false) ∧
        (p.2 = .edm → (tabGet blkSt0 t.sle.cairn b.val).edm = false ∧ (tabGet blkSt0 r.blk b.val).edm = true) ∧
        (p.2 = .stuck → (tabGet blkSt0 t.sle.cairn b.val).stuck = false ∧ (tabGet blkSt0 r.blk b.val).stuck = true) ∧
        (p.2 = .stop1 → (tabGet blkSt0 t.sle.cairn b.val).q2 = true ∧ (tabGet blkSt0 r.blk b.val).q2 = false) ∧
        (p.2 = .ton → (tabGet blkSt0 t.sle.cairn b.val).q = false ∧ (tabGet blkSt0 r.blk b.val).q = true) ∧
        (p.2 = .toff → (tabGet blkSt0 t.sle.cairn b.val).q = true ∧ (tabGet blkSt0 r.blk b.val).q = false)) ∧
    (¬ ExpiresNow s b.val p.2 → Settled s → exec p.1 s = .next s)

/-- A protective block is on only with both channels in the run position, no fault and no pending reset (derived; R70, R71, R75, R76,
R77, R78). For every snapshot, signals, settings and previous state of an ESTOP, GUARD or LCURTAIN block: its output after an
evaluation is 1 only if both channels are in the run position. It is 1 while the block waited for a reset or a fault was latched
only if the reset signal is given in this evaluation, both channels have not changed since the last one, and a latched fault had
seen both channels safe and back since. A test-pulse fault on either input, and a DISC condition that arises in this evaluation,
put it to 0. A latched discrepancy and a latched test-pulse fault are cleared only by an evaluation that turns the output on. -/
def Obligations.ProtectiveBlocksNeedBothChannels : Prop :=
  ∀ (i : BlkIn) (p tdisc reset : Nat) (anti manual startup : Bool) (x : BlkSt),
    ((evalProtective i p tdisc reset anti manual startup x).st.q = true →
      inBit i.snap (2 * p) = true ∧ inBit i.snap (2 * p + 1) = !anti ∧ tpfBit i.snap (2 * p) = false ∧
        tpfBit i.snap (2 * p + 1) = false ∧
        ((x.wait = true ∨ x.disc = true ∨ x.tpf = true ∨ (startup = true ∧ x.init = false)) → i.sig reset = true) ∧
        ((x.wait = true ∨ x.disc = true ∨ x.tpf = true) → x.init = true →
          inBit i.snap (2 * p) = x.pa ∧ inBit i.snap (2 * p + 1) = x.pb) ∧
        ((x.disc = true ∨ x.tpf = true) → x.back = true ∨ x.safeSeen = true)) ∧
    ((evalProtective i p tdisc reset anti manual startup x).st.q = false → x.disc = true →
      (evalProtective i p tdisc reset anti manual startup x).st.disc = true) ∧
    ((evalProtective i p tdisc reset anti manual startup x).st.q = false → x.tpf = true →
      (evalProtective i p tdisc reset anti manual startup x).st.tpf = true) ∧
    ((discNow i p tdisc (inBit i.snap (2 * p)) (if anti then !inBit i.snap (2 * p + 1) else inBit i.snap (2 * p + 1))
        (x.init && inBit i.snap (2 * p) ≠ x.pa) (x.init && inBit i.snap (2 * p + 1) ≠ x.pb) x.dis).isSome = true →
      (evalProtective i p tdisc reset anti manual startup x).st.q = false) ∧
    ((evalProtective i p tdisc reset anti manual startup x).st.q = false → x.q = true → manual = true →
      (evalProtective i p tdisc reset anti manual startup x).st.wait = true)

/-- A mismatch discards the scan and starts a recovery; a repeated one fails the lane; the re-run takes the disturbed scan's snapshot
(derived; R114, R115, R118, R120, R121, R122). MISMATCH of an evaluating lane counts by its source, shows the signature, discards
the scan's results and starts a recovery, RUN and DEGRADED becoming RECOVERING; the released image stays. In a Compact halt no
scan is re-run (the model's choice, log entry 195). The third mismatch with one signature within 10 s, two recovered ones being in
the history, fails the lane. In a re-run a mismatch fails the lane: FAULTED with every output off in Wide mode and where no lane
stands by, else the takeover from lane 0; before the re-run it is counted and the recovery goes on (the model's choice, log entry
187). RERUN_START evaluates the disturbed scan again under its number from its journaled snapshot and the cairn; RECOVERY_COMPLETE
counts the recovery, keeps its results for the next boundary and makes the block states it has written the cairn. SPARE_MISMATCH
of a lane 1 that stands by counts and shows the mismatch and changes neither the device state nor the scan's results nor, once
they have settled, the outputs; it starts no recovery. -/
def Obligations.MismatchesStartRecoveries : Prop :=
  (∀ s (lane : Fin 2) sig, coreDown s = false → evaluating s lane.val = true → s.dev ≠ .faulted → s.sle.res ≠ none → s.sle.recov = none →
      compared s = true →
    ∃ t, exec (.mismatch lane sig) s = .next t ∧ t.sout.fifo = s.sout.fifo ∧ t.sle.cairn = s.sle.cairn ∧
      regGet t Reg.SLE_MIS_SIG = sig ∧
      (regGet t (if getF sig F.SLE_MIS_SIG_SRC = 2 then Reg.SLE_LATENT_CNT else Reg.SLE_MIS_CNT)).toNat =
        satAdd 32 (regGet s (if getF sig F.SLE_MIS_SIG_SRC = 2 then Reg.SLE_LATENT_CNT else Reg.SLE_MIS_CNT)).toNat 1 ∧
      (repeated s lane.val sig.toNat = false → t.sle.recov = some ⟨s.tb, lane.val, sig.toNat, 0, 0, false, s.sle.halted⟩ ∧ t.sle.res = none ∧
        t.dev = (if s.dev = .run ∨ s.dev = .degraded then .recovering else s.dev)) ∧
      (repeated s lane.val sig.toNat = true → laneSt t lane.val = 2)) ∧
  (∀ s (lane : Fin 2) sig, coreDown s = false → evaluating s lane.val = true → s.dev ≠ .faulted → compared s = true →
      ∀ v, s.sle.recov = some v → v.phase < 2 →
    ∃ t, exec (.mismatch lane sig) s = .next t ∧ t.sout.fifo = s.sout.fifo ∧ regGet t Reg.SLE_MIS_SIG = sig ∧
      (v.phase = 0 → t.dev = s.dev ∧ t.sle = s.sle) ∧
      (v.phase = 1 → laneSt t lane.val = 2 ∧
        ((wide s = true ∨ lane = 1 ∨ standsBy s = false) → t.dev = .faulted ∧ t.sout.applied = 0 ∧ t.summit.fatal = 0x6002) ∧
        (wide s = false → lane = 0 → standsBy s = true →
          (t.sle.recov.map fun r => (r.lane, r.phase, r.takeover)) = some (0, 0, true) ∧ t.sle.res = none ∧
            t.dev = (if s.dev = .run ∨ s.dev = .degraded then .recovering else s.dev)))) ∧
  (∀ s, coreDown s = false → ∀ v, s.sle.recov = some v → v.phase = 0 → s.dev ≠ .faulted →
      rerunWaits s v = false → v.idle = false → breakAt s = none → ∀ sn, snapOf s (pinnedScan s v) = some sn →
    ∃ t, exec .rerunStart s = .next t ∧ t.sle.recov = some { v with phase := 1 } ∧ t.sle.cairn = s.sle.cairn ∧
      ∃ r, t.sle.res = some r ∧ r.scan = pinnedScan s v ∧
        r.image = (evaluate s (pinnedScan s v) sn (noBrownOut s) s.trial).image ∧
        r.blk = (evaluate s (pinnedScan s v) sn (noBrownOut s) s.trial).blk) ∧
  (∀ s, coreDown s = false → ∀ v, s.sle.recov = some v → v.phase = 1 → s.dev ≠ .faulted →
    ∃ t, exec .recoveryComplete s = .next t ∧ t.sle.recov = some { v with phase := 2 } ∧ t.sle.res = s.sle.res ∧
      (regGet t Reg.SLE_RECOV_CNT).toNat = satAdd 32 (regGet s Reg.SLE_RECOV_CNT).toNat 1 ∧
      (∀ r, s.sle.res = some r → t.sle.cairn = r.blk) ∧
      (s.jrn.queue.length < 64 → t.jrn.queue.map Event.code = s.jrn.queue.map Event.code ++ [0x6001])) ∧
  (∀ s sig, coreDown s = false → wide s = false → standsBy s = true → getF sig F.SLE_MIS_SIG_SRC ≠ 2 →
      s.dev ≠ .faulted → repeated s 1 sig.toNat = false →
    ∃ t, exec (.spareMismatch sig) s = .next t ∧ t.dev = s.dev ∧ t.sle.res = s.sle.res ∧ t.sle.recov = s.sle.recov ∧ (Settled s → t.sout = s.sout) ∧
      t.sle.lane1 = 0 ∧ regGet t Reg.SLE_MIS_SIG = sig ∧ (regGet t Reg.SLE_MIS_CNT).toNat = satAdd 32 (regGet s Reg.SLE_MIS_CNT).toNat 1 ∧
      (regGet t Reg.SLE_RECOV_CNT) = (regGet s Reg.SLE_RECOV_CNT))

/-- Failed heartbeats, comparator faults and image memory errors fail the lane; state memory errors and missed limits end in FAULTED
(derived; R107, R108, R113, R116, R120, R122, R123). HEARTBEAT_INJECTION into a lane's comparator at its offset counts a pass
where the full comparison reports a difference and the masked one equality, and fails the lane where the full one does not; a pass
of the management pair's comparator changes no state of the device. COMPARATOR_FAULT and an uncorrectable IMAGE_ECC fail the lane:
in Wide mode the device enters FAULTED with every output off, in Compact mode a lane 1 that stands by takes over from lane 0 in a
recovery. An uncorrectable STATE_ECC of an evaluating lane and RECOVERY_LIMIT, L t_scan + 20 µs after the detection of a recovery
that is not complete, put the device in FAULTED with every output off. Corrected errors are only counted, saturating. Which codes
an injection passes with is the model's reading (log entry 47). -/
def Obligations.LaneFailuresAndHeartbeats : Prop :=
  (∀ s (lane : Fin 2) (g : Fin 16) (full msk : Fin 4) sig, coreDown s = false → laneSt s lane.val < 2 →
      s.tb % 100000 = g.val * 6250 → s.dev ≠ .faulted →
    ∃ t, exec (.heartbeatInjection ⟨lane.val, Nat.lt_succ_of_lt lane.isLt⟩ g full msk sig) s = .next t ∧
      (full = 1 → msk = 2 → t.dev = s.dev ∧ laneSt t lane.val = laneSt s lane.val ∧
        fldGet t Reg.SLE_HB_PASS (if lane = 0 then F.SLE_HB_PASS_LANE0 else F.SLE_HB_PASS_LANE1) =
          (fldGet s Reg.SLE_HB_PASS (if lane = 0 then F.SLE_HB_PASS_LANE0 else F.SLE_HB_PASS_LANE1) + 1) % 65536) ∧
      (full ≠ 1 → laneSt t lane.val = 2)) ∧
  (∀ s (g : Fin 16) sig, coreDown s = false → pairRuns s = true → s.tb % 100000 = g.val * 6250 →
    ∃ t, exec (.heartbeatInjection 2 g 1 2 sig) s = .next t ∧ t.dev = s.dev ∧ t.od = s.od ∧ t.jrn = s.jrn) ∧
  (∀ s (lane : Fin 2), coreDown s = false → laneSt s lane.val < 2 → s.dev ≠ .faulted →
    ∃ t, exec (.comparatorFault lane) s = .next t ∧ laneSt t lane.val = 2 ∧
      (s.sle.hasImage = true → wide s = true → t.dev = .faulted ∧ t.sout.applied = 0) ∧
      (s.sle.hasImage = true → wide s = false → lane = 0 → standsBy s = true →
        (t.sle.recov.map fun v => (v.lane, v.phase, v.takeover)) = some (0, 0, true) ∧ t.dev ≠ .faulted ∧ t.sout.fifo = s.sout.fifo)) ∧
  (∀ s (lane : Fin 2), coreDown s = false → laneSt s lane.val < 2 → s.dev ≠ .faulted → s.sle.hasImage = true →
    ∃ t, exec (.imageEcc lane false) s = .next t ∧ laneSt t lane.val = 2 ∧ (wide s = true → t.dev = .faulted ∧ t.sout.applied = 0)) ∧
  (∀ s (lane bank : Fin 2) word, coreDown s = false → evaluating s lane.val = true → s.dev ≠ .faulted →
    ∃ t, exec (.stateEcc lane bank word false) s = .next t ∧ t.dev = .faulted ∧ t.sout.applied = 0 ∧ t.summit.fatal = 0x6005) ∧
  (∀ s (lane bank : Fin 2) word, coreDown s = false →
    (∃ t, exec (.stateEcc lane bank word true) s = .next t ∧ t.sle = s.sle ∧ t.dev = s.dev ∧
      fldGet t Reg.SLE_ECC_CNT F.SLE_ECC_CNT_STATE = satAdd 16 (fldGet s Reg.SLE_ECC_CNT F.SLE_ECC_CNT_STATE) 1) ∧
    ∃ u, exec (.imageEcc lane true) s = .next u ∧ u.sle = s.sle ∧ u.dev = s.dev ∧
      fldGet u Reg.SLE_ECC_CNT F.SLE_ECC_CNT_IMAGE = satAdd 16 (fldGet s Reg.SLE_ECC_CNT F.SLE_ECC_CNT_IMAGE) 1) ∧
  (∀ s, coreDown s = false → ∀ v, s.sle.recov = some v → v.phase < 2 → s.dev ≠ .faulted →
      v.at_ + fldGet s Reg.SLE_CFG F.SLE_CFG_RLIM * tScan s + 2000 ≤ s.tb →
    ∃ t, exec .recoveryLimit s = .next t ∧ t.dev = .faulted ∧ t.sout.applied = 0 ∧ t.summit.fatal = 0x6007)

/-- An image loads into the inactive bank, and a swap exchanges the banks at a scan start, in SAFE-STOPPED and from the zero cairn
(derived; R124, R125, R294). LOAD starts the copy of SLE_IMG_LEN bytes, up to the longest image's 132,260, from SLE_IMG_SRC;
during a load it only sets REFUSED. LOAD_COMPLETE of such a load puts the stream into the inactive bank, leaves the active bank as
it was, and ends MATCHED only if the read-backs are equal and the stream's CRC is the image's (that a source which cannot be read
ends mismatched too is the model's choice, log entry 157, and so is that the bytes copied are those at the instant of LOAD, log
entry 102). SWAP sets SWAP_PEND only for a MATCHED image that passes the checks and with the handshake complete, and else changes
nothing. IMAGE_SWAP at a scan start without a recovery, with a lane to run the image, makes the other bank active, clears
SWAP_PEND and leaves the device in SAFE-STOPPED with no output on and the zero cairn. In the FINAL state of a slot commit a
matched load that passes the checks requests the swap, one that does not ends the commit in FAIL, and the swap takes it to DONE,
with TRIAL 0 and the new slot as the booted slot. -/
def Obligations.ImagesLoadAndSwap : Prop :=
  (∀ s, coreDown s = false → s.sle.loading = false → (regGet s Reg.SLE_IMG_LEN).toNat ≤ 132260 →
    ∃ t, exec .load s = .next t ∧ t.sle.loading = true ∧ fldGet t Reg.SLE_IMG_STAT F.SLE_IMG_STAT_RESULT = 1 ∧
      t.sle.stream = memBytes s.mem ((regGet s Reg.SLE_IMG_SRC).toNat / 16 * 16) (regGet s Reg.SLE_IMG_LEN).toNat) ∧
  (∀ s, coreDown s = false → s.sle.loading = true →
    ∃ t, exec .load s = .next t ∧ fldGet t Reg.SLE_IMG_STAT F.SLE_IMG_STAT_REFUSED = 1 ∧ t.sle = s.sle) ∧
  (∀ s equal, coreDown s = false → s.sle.loading = true → s.slots.commit ≠ 4 → s.sle.restore = false →
      (s.slots.trialLoad = false ∨ s.trial = false) → s.sle.stream.length ≤ 132260 →
    ∃ t, exec (.loadComplete equal) s = .next t ∧ t.sle.loading = false ∧
      (s.sle.hasImage = true → activeBank t = activeBank s) ∧ inactiveBank t = s.sle.stream ∧
      fldGet t Reg.SLE_IMG_STAT F.SLE_IMG_STAT_RESULT =
        (if equal = true ∧ s.sle.streamOk = true ∧ 4 < s.sle.stream.length ∧
            crc32 (s.sle.stream.take (s.sle.stream.length - 4)) = leAt s.sle.stream (s.sle.stream.length - 4) 4 then 2 else 3)) ∧
  (∀ s, coreDown s = false → fldGet s Reg.SLE_IMG_STAT F.SLE_IMG_STAT_RESULT = 2 → (s.slots.commit = 4 ∨ s.od.revert = true) →
      verifyImage s (inactiveBank s) = none →
    ∃ t, exec .swap s = .next t ∧ t.sle.swapPend = true ∧ fldGet t Reg.SLE_IMG_STAT F.SLE_IMG_STAT_SWAP_PEND = 1) ∧
  (∀ s, Settled s → (fldGet s Reg.SLE_IMG_STAT F.SLE_IMG_STAT_RESULT ≠ 2 ∨ verifyImage s (inactiveBank s) ≠ none ∨
      (s.slots.commit ≠ 4 ∧ s.od.revert = false)) → exec .swap s = .next s) ∧
  (∀ s, coreDown s = false → s.sle.swapPend = true → atBoundary s = true → pstate s ≠ 2 → s.sle.recov = none → s.sle.halted = false →
      s.sle.lastStart ≠ some s.tb → s.sle.lane0 < 2 → s.sle.lane1 < 2 → (s.dev = .safeStopped ∨ s.dev = .run ∨ s.dev = .degraded) →
    ∃ t, exec .imageSwap s = .next t ∧ t.dev = .safeStopped ∧ t.sout.applied = 0 ∧ t.sle.active = (s.sle.hasImage && !s.sle.active) ∧
      t.sle.hasImage = true ∧ t.sle.cairn = zeroCairn (parseImage (inactiveBank s)) ∧ t.sle.swapPend = false ∧
      (s.slots.commit ≠ 4 → fldGet t Reg.SLE_IMG_STAT F.SLE_IMG_STAT_SWAP_PEND = 0 ∧ t.slots.commit = s.slots.commit) ∧
      (s.slots.commit = 4 → s.slots.trialImage = false → t.slots.commit = 5 ∧ t.slots.booted = targetSlot s ∧ t.trial = false)) ∧
  (∀ s equal, coreDown s = false → s.sle.loading = true → s.slots.commit = 4 → s.slots.trialImage = false → s.sle.restore = false →
      (s.slots.trialLoad = false ∨ s.trial = false) → 4 < s.sle.stream.length → s.sle.stream.length ≤ 132260 →
    ∃ t, exec (.loadComplete equal) s = .next t ∧ t.sle.loading = false ∧
      (equal = true → s.sle.streamOk = true →
        crc32 (s.sle.stream.take (s.sle.stream.length - 4)) = leAt s.sle.stream (s.sle.stream.length - 4) 4 →
        verifyImage s s.sle.stream = none →
        t.sle.swapPend = true ∧ fldGet t Reg.SLE_IMG_STAT F.SLE_IMG_STAT_SWAP_PEND = 1 ∧ t.slots.commit = 4) ∧
      ((equal = false ∨ verifyImage s s.sle.stream ≠ none) → t.slots.commit = 6 ∧ t.slots.result = 0x0205 ∧ t.sle.swapPend = s.sle.swapPend))

/-- A debug halt stops the part, a step runs one block, and without the permission every debug action is a bus error (derived; R126,
R127, R128, R129). With the debug registers open and room in the replay FIFO: HALT stops the lane and takes the part to SAFE-
STOPPED with every output off, and in Wide mode splits lockstep and asserts the kill line; STEP executes the next block of a
halted lane over the last snapshot and no other; RESUME ends the halt, in Wide mode from the zero cairn; with lane 1 chosen in
Compact mode each of the five only sets ERR; DEBUG_RD puts a word of the lane's image bank A, as the image's bytes spell it, into
SLE_DBG_DATA; DEBUG_WR of a halted lane stores a word that DEBUG_RD then gives. Outside PROVISIONED or without the permission, and
with a full replay FIFO, each of the five ends with a bus error and has no effect. The replay FIFO's limit is log entry 53; the
place of a written word is the model's choice (log entry 156). -/
def Obligations.DebugActionsNeedThePermission : Prop :=
  (∀ s, coreDown s = false → debugOpen s = true → (s.sle.replayAt = s.tb → s.sle.replay < 16) → s.sle.hasImage = true → s.sle.halted = false → dbgLaneOk s = true →
      started s.dev = true → s.dev ≠ .faulted → (wide s = false) →
    ∃ t, exec .halt s = .next t ∧ t.bus = ⟨false, 0⟩ ∧ t.sle.halted = true ∧ active t.dev = false ∧ t.sout.applied = 0) ∧
  (∀ s, coreDown s = false → debugOpen s = true → (s.sle.replayAt = s.tb → s.sle.replay < 16) → s.sle.hasImage = true → s.sle.halted = false → dbgLaneOk s = true →
      started s.dev = true → s.dev ≠ .faulted → (wide s = true) →
    ∃ t, exec .halt s = .next t ∧ t.bus = ⟨false, 0⟩ ∧ t.sle.halted = true ∧ t.kill.debugSplit = true ∧ killAsserted t = true ∧
      t.sout.applied = 0) ∧
  (∀ s, coreDown s = false → debugOpen s = true → (s.sle.replayAt = s.tb → s.sle.replay < 16) → s.sle.halted = true →
      ∀ b, dbgBlock s = some b → ∀ sn, s.sle.snaps.getLast? = some sn →
    ∃ t, exec .step s = .next t ∧ t.bus = ⟨false, 0⟩ ∧ t.sle.halted = true ∧
      (∃ i : BlkIn, i.snap = sn.2 ∧ i.num = b.2.1 ∧
        tabGet blkSt0 t.sle.dbgCur b.2.1 = (evalBlk i b.2.2 (tabGet blkSt0 s.sle.dbgCur b.2.1)).st) ∧
      ∀ j, j ≠ b.2.1 → tabGet blkSt0 t.sle.dbgCur j = tabGet blkSt0 s.sle.dbgCur j) ∧
  (∀ s, coreDown s = false → debugOpen s = true → (s.sle.replayAt = s.tb → s.sle.replay < 16) → s.sle.halted = true → dbgLaneOk s = true →
    ∃ t, exec .resume s = .next t ∧ t.bus = ⟨false, 0⟩ ∧ t.sle.halted = false ∧
      t.sle.cairn = (if s.kill.debugSplit then zeroCairn (runImage s) else s.sle.dbgCur) ∧ t.dev = s.dev) ∧
  (∀ s, coreDown s = false → debugOpen s = true → (s.sle.replayAt = s.tb → s.sle.replay < 16) → dbgLaneOk s = true → (wide s = true → s.sle.halted = true) →
      fldGet s Reg.SLE_DBG_CTRL F.SLE_DBG_CTRL_SEL = 2 → (regGet s Reg.SLE_DBG_ADDR).toNat < 0x20000 →
      (regGet s Reg.SLE_DBG_ADDR).toNat + 4 ≤ (laneBank s.sle.bankA (dbgLane s)).length →
    ∃ t, exec .debugRd s = .next t ∧ t.bus = ⟨false, 0⟩ ∧
      regGet t Reg.SLE_DBG_DATA = BitVec.ofNat 32 (leAt (laneBank s.sle.bankA (dbgLane s)) (regGet s Reg.SLE_DBG_ADDR).toNat 4)) ∧
  (∀ s, coreDown s = false → debugOpen s = true → (s.sle.replayAt = s.tb → s.sle.replay < 15) → dbgLaneOk s = true →
      s.sle.halted = true → fldGet s Reg.SLE_DBG_CTRL F.SLE_DBG_CTRL_SEL < 2 →
    ∃ t, exec .debugWr s = .next t ∧ t.bus = ⟨false, 0⟩ ∧ ∃ u, exec .debugRd t = .next u ∧
      regGet u Reg.SLE_DBG_DATA = regGet s Reg.SLE_DBG_DATA) ∧
  (∀ s, coreDown s = false → debugOpen s = true → (s.sle.replayAt = s.tb → s.sle.replay < 15) → dbgLaneOk s = false →
      ∀ c, c ∈ [Instr.halt, .step, .resume, .debugRd, .debugWr] →
    ∃ t, exec c s = .next t ∧ t.bus = ⟨false, 0⟩ ∧ fldGet t Reg.SLE_DBG_CTRL F.SLE_DBG_CTRL_ERR = 1 ∧ t.sle.halted = s.sle.halted ∧
      t.sle.dbgCur = s.sle.dbgCur ∧ t.sle.cairn = s.sle.cairn ∧ t.dev = s.dev) ∧
  (∀ s, coreDown s = false → Settled s → (debugOpen s = false ∨ (s.sle.replayAt = s.tb ∧ 16 ≤ s.sle.replay)) →
      ∀ c, c ∈ [Instr.halt, .step, .resume, .debugRd, .debugWr] → exec c s = .next { s with bus := ⟨true, 0⟩ })

/-- A bank boundary shows the computed duty and current of each of its strings, and latches commits and marked values (derived; R162,
R164, R165, R166, R175, R193, R195). After BANK_BOUNDARY every string of the bank shows the duty and current that R164 computes
from its latched values, or 0 in both while its stage does not run; a string that no head owns has latched the values marked for
this boundary. COMMIT_APPLY puts the content of a due commit in force at the boundary or frame start, writes its number once all
its strings have latched, and ends it when nothing of it is left. MATRIX_FRAME_START starts the frame and latches the marked
values of a matrix that no head owns. LMP_APPLY marks the staged values of host-owned strings for the next boundary and ignores
the bits of the others; MATRIX_APPLY does so for the matrix. -/
def Obligations.LampsFollowTheirBoundaries : Prop :=
  (∀ s (b : Fin 2), coreDown s = false → atBankBoundary s b.val = true → lampsClocked s = true →
    ∃ t, exec (.bankBoundary b) s = .next t ∧ ∀ n, n < 32 → bankOfString n = b.val →
      actDuty t n = (if stageRuns t n = true then (dutyOf t n).1 % 65536 else 0) ∧
      actI t n = (if stageRuns t n = true then currentOf t n % 512 else 0) ∧
      (s.asp.commits = [] → (∀ h, h < 32 → headEn s h = true → headHas s h n = false) →
        ∀ v, (takeNext s.tb (strGet s n).next).1 = some v → (strGet t n).run = v.1 ∧ (strGet t n).sail = v.2)) ∧
  (∀ s (b : Fin 2), coreDown s = false → lampsClocked s = true → atBankBoundary s b.val = true → ∀ c, s.asp.commits.head? = some c →
      s.asp.commits.length = 1 → c.start ≤ s.tb → commitDone c b.val = false → ∀ v, c.strs.head? = some v → c.strs.length = 1 →
      bankOfString v.1 = b.val → (∀ h, h < 32 → headEn s h = true → headHas s h v.1 = false) →
    ∃ t, exec (.commitApply (if b = 0 then 0 else 1)) s = .next t ∧ (strGet t v.1).run = v.2.1 ∧ (strGet t v.1).sail = v.2.2 ∧
      (commitLatched c = false → commitLatched (setDone c b.val) = true → regGet t Reg.ASP_COMMIT_LAST = BitVec.ofNat 32 c.num) ∧
      (commitFinished (setDone c b.val) = true → t.asp.commits = [])) ∧
  (∀ s, coreDown s = false → lampsClocked s = true → atFrameStart s = true → mtxHead s = none → ∀ c, s.asp.commits.head? = some c →
      s.asp.commits.length = 1 → c.start ≤ s.tb → c.doneM = false → ∀ v, c.mtx = some v →
    ∃ t, exec (.commitApply 2) s = .next t ∧ t.lmp.mtx = v) ∧
  (∀ s, coreDown s = false → lampsClocked s = true → atFrameStart s = true → s.asp.commits = [] → mtxHead s = none →
    ∃ t, exec .matrixFrameStart s = .next t ∧ t.lmp.mtxFrame = some s.tb ∧
      (∀ v, (takeNext s.tb s.lmp.mtxNext).1 = some v → t.lmp.mtx = v) ∧ (s.lmp.mtxNext = [] → t.lmp.mtx = s.lmp.mtx)) ∧
  (∀ s m, coreDown s = false →
    ∃ t, exec (.lmpApply m) s = .next t ∧ t.bus = ⟨false, 0⟩ ∧ ∀ n, n < 32 →
      (bitN m.toNat n = true → strHostOwned s n = true →
        (strGet t n).next = pushNext s.tb (strGet s n).next (s.tb + 1, stagedRun s n, stagedSail s n) ∧ (strGet t n).dirty = none) ∧
      ((bitN m.toNat n = false ∨ strHostOwned s n = false) → strGet t n = strGet s n)) ∧
  (∀ s, coreDown s = false →
    ∃ t, exec .matrixApply s = .next t ∧ t.bus = ⟨false, 0⟩ ∧
      t.lmp.mtxNext = (if mtxHostOwned s then pushNext s.tb s.lmp.mtxNext (s.tb + 1, mtxStaged s) else s.lmp.mtxNext))

/-- The three derating factors move as R171 says (derived; R171, R172, R173). At its 10 ms tick the thermal factor is 0 while an
enabled NTC has failed; with no NTC enabled it is 1 − SLOPE × (T − 115 °C), between 0 and 1, for the hottest die sensor; with one
NTC enabled and every die sensor at or below 115 °C it is 1 − SLOPE × (T − KNEE) for that NTC. At its 1 ms tick the power factor
is scaled by (P_allow − 0.05 W) / P_lamp, truncated, when the lamp loss (VLED times supply current of the two LED banks less the
strings' output power, plus the losses of column sinks and scan switches) exceeds the allowance, rises by 0x0080 up to 1 when it
is more than 0.15 W below, and stays in between. At its 1 ms tick a bank's factor is scaled by 2.95 A / I above 3.0 A, rises by
0x0080 up to 1 below 2.85 A, and stays in between. The rounding of the bank factor is open; that the thermal factor is truncated
is the model's reading (log entry 14). -/
def Obligations.DeratingFactorsFollowTheirTicks : Prop :=
  (∀ s codes vdd die k, coreDown s = false → s.tb % 1000000 = 0 → started s.dev = true → k < 4 →
      bitN (fldGet s Reg.LMP_DERATE_CFG F.LMP_DERATE_CFG_NTC_EN) k = true → (tabGet (false, 0) s.lmp.ntc k).1 = true →
      (tabGet (false, 0) s.lmp.ntc k).2 < 9 →
    ∃ t, exec (.thermalDerateTick codes vdd die) s = .next t ∧ fldGet t Reg.LMP_DERATE_STAT F.LMP_DERATE_STAT_FT = 0 ∧
      fldGet t Reg.LMP_STATUS F.LMP_STATUS_NTC_FAULT = 1) ∧
  (∀ s codes vdd die, coreDown s = false → s.tb % 1000000 = 0 → started s.dev = true →
      fldGet s Reg.LMP_DERATE_CFG F.LMP_DERATE_CFG_NTC_EN = 0 → ∀ d ∈ die, (∀ e ∈ die, e.toInt ≤ d.toInt) →
    ∃ t, exec (.thermalDerateTick codes vdd die) s = .next t ∧
      fldGet t Reg.LMP_DERATE_STAT F.LMP_DERATE_STAT_FT =
        0x8000 * (1000 - fldGet s Reg.LMP_DERATE_CFG F.LMP_DERATE_CFG_SLOPE * (d.toInt - 115).toNat) / 1000 ∧
      fldGet t Reg.LMP_DERATE_STAT F.LMP_DERATE_STAT_FP = fldGet s Reg.LMP_DERATE_STAT F.LMP_DERATE_STAT_FP) ∧
  (∀ s codes vdd (die : List (BitVec 8)) k, coreDown s = false → s.tb % 1000000 = 0 → started s.dev = true → k < 4 →
      fldGet s Reg.LMP_DERATE_CFG F.LMP_DERATE_CFG_NTC_EN = 2 ^ k → (tabGet (false, 0) s.lmp.ntc k).1 = false →
      (∀ e ∈ die, e.toInt ≤ 115) → ∀ T : Int, -50 ≤ T → T ≤ 150 →
      ntcCelsius ((codes.map BitVec.toNat).getD k 0) vdd.toNat (regGet s Reg.LMP_NTC_CFG) = some T →
    ∃ t, exec (.thermalDerateTick codes vdd die) s = .next t ∧
      fldGet t Reg.LMP_DERATE_STAT F.LMP_DERATE_STAT_FT =
        0x8000 * (1000 - fldGet s Reg.LMP_DERATE_CFG F.LMP_DERATE_CFG_SLOPE *
          (T - (fldGet s Reg.LMP_DERATE_CFG F.LMP_DERATE_CFG_KNEE : Nat)).toNat) / 1000) ∧
  (∀ s (v0 i0 v1 i1 : BitVec 16) (strs : List (BitVec 16 × BitVec 16)) (sinks scans : BitVec 32), coreDown s = false →
      s.tb % 100000 = 0 → started s.dev = true →
    let p := v0.toNat * i0.toNat + v1.toNat * i1.toNat - (strs.map fun x => x.1.toNat * x.2.toNat).sum + sinks.toNat + scans.toNat
    ∃ t, exec (.powerDerateTick [(v0, i0), (v1, i1)] strs sinks scans) s = .next t ∧
      fldGet t Reg.LMP_DERATE_STAT F.LMP_DERATE_STAT_FP =
        (if pAllow s < (p : Nat) then fldGet s Reg.LMP_DERATE_STAT F.LMP_DERATE_STAT_FP * (pAllow s - 50000).toNat / p
         else if (p : Int) < pAllow s - 150000 then min 0x8000 (fldGet s Reg.LMP_DERATE_STAT F.LMP_DERATE_STAT_FP + 0x80)
         else fldGet s Reg.LMP_DERATE_STAT F.LMP_DERATE_STAT_FP)) ∧
  (∀ s (i0 i1 : BitVec 16), coreDown s = false → s.tb % 100000 = 0 → started s.dev = true →
    ∃ t, exec (.bankDerateTick i0 i1) s = .next t ∧
      (3000 < i0.toNat →
        fldGet s Reg.LMP_FBANK F.LMP_FBANK_B0 * 2950 / i0.toNat ≤ fldGet t Reg.LMP_FBANK F.LMP_FBANK_B0 ∧
        fldGet t Reg.LMP_FBANK F.LMP_FBANK_B0 ≤ fldGet s Reg.LMP_FBANK F.LMP_FBANK_B0 * 2950 / i0.toNat + 1) ∧
      (i0.toNat < 2850 → fldGet t Reg.LMP_FBANK F.LMP_FBANK_B0 = min 0x8000 (fldGet s Reg.LMP_FBANK F.LMP_FBANK_B0 + 0x80)) ∧
      (2850 ≤ i0.toNat → i0.toNat ≤ 3000 → fldGet t Reg.LMP_FBANK F.LMP_FBANK_B0 = fldGet s Reg.LMP_FBANK F.LMP_FBANK_B0) ∧
      (3000 < i1.toNat →
        fldGet s Reg.LMP_FBANK F.LMP_FBANK_B1 * 2950 / i1.toNat ≤ fldGet t Reg.LMP_FBANK F.LMP_FBANK_B1 ∧
        fldGet t Reg.LMP_FBANK F.LMP_FBANK_B1 ≤ fldGet s Reg.LMP_FBANK F.LMP_FBANK_B1 * 2950 / i1.toNat + 1) ∧
      (i1.toNat < 2850 → fldGet t Reg.LMP_FBANK F.LMP_FBANK_B1 = min 0x8000 (fldGet s Reg.LMP_FBANK F.LMP_FBANK_B1 + 0x80)) ∧
      (2850 ≤ i1.toNat → i1.toNat ≤ 3000 → fldGet t Reg.LMP_FBANK F.LMP_FBANK_B1 = fldGet s Reg.LMP_FBANK F.LMP_FBANK_B1))

/-- A stage fault is shown under its code, reported in LMP_FAULT, and stops the stage until it clears (derived; R177, R178, R204).
STAGE_OPEN, STAGE_SHORT and STAGE_OCP of a stage that drives, STAGE_THERMAL of one that runs, and STAGE_UVLO of every enabled
stage of the bank set the code (1, 2, 3, 4, 5) and the string's bit of LMP_FAULT, and the stage no longer runs; OPEN is judged
only in an on-window of at least 4 µs, a probe included, and a stage that does not drive has none of the first three.
STAGE_THERMAL_CLEAR and STAGE_UVLO_CLEAR clear codes 4 and 5. A write of 1 to LMP_FAULT clears codes 1 to 3 of the strings it
names and no other, unless the bank's supply is still out of range, which then stops the stage as UVLO (the model's choice, log
entry 71). -/
def Obligations.StageFaultsStopTheStage : Prop :=
  (∀ s (n : Fin 32), coreDown s = false → stageDrives s n = true →
    (1024 ≤ onCycles s n ∨ 2 ≤ (strGet s n).kind → ∃ t, exec (.stageOpen n) s = .next t ∧ stageFault t n = 1 ∧ bitN (regGet t Reg.LMP_FAULT).toNat n = true ∧
      stageRuns t n = false ∧ actDuty t n = 0) ∧
    (∃ t, exec (.stageShort n) s = .next t ∧ stageFault t n = 2 ∧ bitN (regGet t Reg.LMP_FAULT).toNat n = true ∧ stageRuns t n = false) ∧
    (∃ t, exec (.stageOcp n) s = .next t ∧ stageFault t n = 3 ∧ bitN (regGet t Reg.LMP_FAULT).toNat n = true ∧ stageRuns t n = false)) ∧
  (∀ s (n : Fin 32), Settled s → stageDrives s n = false →
    exec (.stageOpen n) s = .next s ∧ exec (.stageShort n) s = .next s ∧ exec (.stageOcp n) s = .next s) ∧
  (∀ s (n : Fin 32), Settled s → onCycles s n < 1024 → (strGet s n).kind < 2 → (strGet s n).confirm = none →
    exec (.stageOpen n) s = .next s) ∧
  (∀ s (n : Fin 32), coreDown s = false → stageRuns s n = true →
    ∃ t, exec (.stageThermal n) s = .next t ∧ stageFault t n = 4 ∧ bitN (regGet t Reg.LMP_FAULT).toNat n = true ∧ stageRuns t n = false) ∧
  (∀ s (n : Fin 32), coreDown s = false → stageFault s n = 4 → vledBad s (bankOfString n) = false →
    ∃ t, exec (.stageThermalClear n) s = .next t ∧ stageFault t n = 0 ∧ bitN (regGet t Reg.LMP_FAULT).toNat n = false) ∧
  (∀ s (b : Fin 2) ov, coreDown s = false → lampsRun s = true →
    ∃ t, exec (.stageUvlo b ov) s = .next t ∧ vledBad t b.val = true ∧ ∀ n, n < 32 → bankOfString n = b.val →
      fldGet s (Reg.LMP_STR_CFG n) F.LMP_STR_CFG_EN = 1 → stageFault s n = 0 → stageFault t n = 5 ∧ stageRuns t n = false) ∧
  (∀ s (b : Fin 2), coreDown s = false → vledBad s b.val = true →
    ∃ t, exec (.stageUvloClear b) s = .next t ∧ vledBad t b.val = false ∧ ∀ n, n < 32 → bankOfString n = b.val →
      stageFault s n = 5 → stageFault t n = 0) ∧
  (∀ s m, coreDown s = false →
    ∃ t, exec (.faultClear m) s = .next t ∧ t.bus = ⟨false, 0⟩ ∧ ∀ n, n < 32 →
      stageFault t n = (if bitN m.toNat n = true ∧ (stageFault s n = 1 ∨ stageFault s n = 2 ∨ stageFault s n = 3) then
        (if vledBad s (bankOfString n) then 5 else 0) else stageFault s n))

/-- Lit strings are measured, dark strings checked, and each proving failure sets PFAIL of its head (derived; R196, R197, R198, R199,
R200, R201, R202, R203, R204, R207). An on-edge of a lit string starts its window, or a probe where the on-time is short and no
window was measured for PROBE_N − 1 periods; the probe's extra on-time becomes debt. A window is judged against the current
latched at the boundary that opened it: a passing one resets the count of failures, a failing one counts, and the N_DARK-th in a
row declares DARK; one that met a burst is only counted as unmeasured (UNMEAS wraps at 32), unless the one before was. A failing
confirmation declares DARK, a passing one drops the failure. Light on a dark string declares LIT and stops its stage, and light at
the second check makes it LIT_STUCK with a cut request, or UNCUT without a lamp feed; without light nothing is declared, and a
cycle has one check. Two failures of a dot in a row or a column that sinks in its off time blank the matrix. DARK, LIT, LIT_STUCK
and the matrix failures set PFAIL of the head. The one check in a cycle and the burst owed to SOUT at any phase are the model's
readings (log entries 68 and 207). -/
def Obligations.LampsAreProved : Prop :=
  (∀ s (n : Fin 32), coreDown s = false → commandedDark s n = false → (s.tb + tPwm s (bankOfString n) * 100 - edgeOffset s n) % (tPwm s (bankOfString n) * 100) = 0 → (strGet s n).confirm = none →
    (1536 ≤ onCycles s n → fldGet s (Reg.ASP_STR_PSTAT n) F.ASP_STR_PSTAT_DEBT = 0 →
      ∃ t, exec (.stringOnEdge n) s = .next t ∧ (strGet t n).kind = 1 ∧ (strGet t n).edge = some s.tb ∧
        (strGet t n).onEnd = some (s.tb + cyclesToTicks (onCycles s n))) ∧
    (proved s n = true → 0 < onCycles s n → onCycles s n < 1536 → fldGet s Reg.ASP_CFG F.ASP_CFG_PROBEN ≤ (strGet s n).idle →
      ∃ t, exec (.stringOnEdge n) s = .next t ∧ (strGet t n).kind = 2 ∧ (strGet t n).onEnd = some (s.tb + 600) ∧
        fldGet t (Reg.ASP_STR_PSTAT n) F.ASP_STR_PSTAT_DEBT = 1536 - onCycles s n) ∧
    ((1536 ≤ onCycles s n ∨ (strGet s n).idle < fldGet s Reg.ASP_CFG F.ASP_CFG_PROBEN) →
      ∃ t, exec (.stringOnEdge n) s = .next t ∧ fldGet t (Reg.ASP_STR_PSTAT n) F.ASP_STR_PSTAT_DEBT =
        fldGet s (Reg.ASP_STR_PSTAT n) F.ASP_STR_PSTAT_DEBT - min (fldGet s (Reg.ASP_STR_PSTAT n) F.ASP_STR_PSTAT_DEBT) (onCycles s n))) ∧
  (∀ s (n : Fin 32) i v, coreDown s = false → ∀ e, (strGet s n).edge = some e → s.tb = e + 800 → (strGet s n).kind = 1 →
      stageRuns s n = true → isCut s (bankOfString n) = false → ∀ h, headOf s n = some h →
    ∃ t, exec (.provingWindow n i v true) s = .next t ∧
      fldGet t (Reg.LMP_STR_MEAS n) F.LMP_STR_MEAS_I = i.toNat ∧ fldGet t (Reg.LMP_STR_MEAS n) F.LMP_STR_MEAS_V = v.toNat ∧
      (measurePasses s n (strGet s n).winI i.toNat v.toNat = true → (strGet t n).dcnt = 0 ∧ pfail t h = pfail s h) ∧
      (measurePasses s n (strGet s n).winI i.toNat v.toNat = false → (strGet s n).dcnt + 1 < fldGet s Reg.ASP_CFG F.ASP_CFG_NDARK →
        (strGet t n).dcnt = min 8 ((strGet s n).dcnt + 1) ∧ pfail t h = pfail s h) ∧
      (measurePasses s n (strGet s n).winI i.toNat v.toNat = false → fldGet s Reg.ASP_CFG F.ASP_CFG_NDARK ≤ (strGet s n).dcnt + 1 →
        fldGet t (Reg.ASP_STR_PSTAT n) F.ASP_STR_PSTAT_RESULT = 1 ∧ pfail t h = true)) ∧
  (∀ s (n : Fin 32) i v, coreDown s = false → ∀ e, (strGet s n).edge = some e → s.tb = e + 800 → (strGet s n).kind = 1 →
      stageRuns s n = true → burstOwed s n e = true → (strGet s n).missed = false →
    ∃ t, exec (.provingWindow n i v false) s = .next t ∧ (strGet t n).missed = true ∧ (strGet t n).dcnt = (strGet s n).dcnt ∧
      fldGet t (Reg.ASP_STR_PSTAT n) F.ASP_STR_PSTAT_UNMEAS = (fldGet s (Reg.ASP_STR_PSTAT n) F.ASP_STR_PSTAT_UNMEAS + 1) % 32) ∧
  (∀ s (n : Fin 32) i v, coreDown s = false → ∀ c, (strGet s n).confirm = some c → s.tb = c + 800 → stageRuns s n = true →
      isCut s (bankOfString n) = false → ∀ h, headOf s n = some h →
    ∃ t, exec (.confirmationProbe n i v) s = .next t ∧ (strGet t n).confirm = none ∧
      (measurePasses s n (if (strGet s n).edge = some c then (strGet s n).winI else actI s n) i.toNat v.toNat = true →
        pfail t h = pfail s h) ∧
      (measurePasses s n (if (strGet s n).edge = some c then (strGet s n).winI else actI s n) i.toNat v.toNat = false →
        fldGet t (Reg.ASP_STR_PSTAT n) F.ASP_STR_PSTAT_RESULT = 1 ∧ pfail t h = true)) ∧
  (∀ s (n : Fin 32) i v, coreDown s = false → isCut s (bankOfString n) = false → lampsRun s = true → litDeclared s n = false →
      darkChecked s n = false → darkDue s n = true → showsLight s n i.toNat v.toNat = true → ∀ h, headOf s n = some h →
    ∃ t, exec (.darkCheck n i v) s = .next t ∧ fldGet t (Reg.ASP_STR_PSTAT n) F.ASP_STR_PSTAT_RESULT = 2 ∧ pfail t h = true ∧
      (strGet t n).stopped = true ∧ stageRuns t n = false ∧ (strGet t n).recheck = some (s.tb + 20000)) ∧
  (∀ s (n : Fin 32) i v, coreDown s = false → showsLight s n i.toNat v.toNat = false →
    ∃ t, exec (.darkCheck n i v) s = .next t ∧ t.regs = s.regs ∧ t.jrn = s.jrn ∧ (strGet t n).stopped = (strGet s n).stopped) ∧
  (∀ s (n : Fin 32) i v, Settled s → darkChecked s n = true → exec (.darkCheck n i v) s = .next s) ∧
  (∀ s (n : Fin 32) i v, coreDown s = false → isCut s (bankOfString n) = false → showsLight s n i.toNat v.toNat = true →
      ∀ t0, (strGet s n).recheck = some t0 → t0 ≤ s.tb → ∀ h, headOf s n = some h →
    ∃ t, exec (.litRecheck n i v) s = .next t ∧ fldGet t (Reg.ASP_STR_PSTAT n) F.ASP_STR_PSTAT_RESULT = 3 ∧ pfail t h = true ∧
      (hasFeed s (bankOfString n) = true → isCut t (bankOfString n) = true) ∧
      (hasFeed s (bankOfString n) = false → isCut t (bankOfString n) = false ∧
        fldGet t Reg.ASP_STATUS (if bankOfString n = 0 then F.ASP_STATUS_UNCUT0 else F.ASP_STATUS_UNCUT1) = 1)) ∧
  (∀ s (l : Fin 16) cur leak, coreDown s = false → ∀ h, mtxHead s = some h → mtxRuns s = true → ∀ f, s.lmp.mtxFrame = some f →
      s.tb = f + l.val * mtxLineTicks s → l.val < mtxLines s → l.val = s.lmp.mtxLine → mtxHostOwned s = false →
    ∃ t, exec (.matrixLineSlot l cur leak) s = .next t ∧
      (∀ c, c < 32 → tabGet 0 t.lmp.dotFail (32 * l.val + c) = dotCount s l.val c ((cur.map BitVec.toNat).getD c 0)) ∧
      (∀ c, c < 32 → ((dotMeasured s l.val c = true ∧ dotCount s l.val c ((cur.map BitVec.toNat).getD c 0) = 2) ∨
          1 ≤ (leak.map BitVec.toNat).getD c 0) →
        t.lmp.mtxBlank = true ∧ pfail t h = true))

/-- Requests and selections are taken as R188 to R190 say, and a failed head shows its fallback aspect (derived; R188, R189, R190,
R204, R206, R317). In FAULTED, after the safe state was entered without a released scan since, with PFAIL, and with a string on a
cut bank, the choice for a head is its fallback aspect; a safety-relevant request is not honoured outside RUN, DEGRADED and
RECOVERING. A newer SLE request comes into force at least 1 µs after its release, an older one is discarded. HEAD_SELECT stages an
operational aspect of the head, and ends with a bus error for any other; HEAD_APPLY puts the staged selections in force for the
next boundary; HEAD_CLR clears PFAIL of heads whose strings are usable. -/
def Obligations.HeadsShowTheChosenAspect : Prop :=
  (∀ s sle h k, (s.dev = .faulted ∨ s.asp.safeHold = true ∨ pfail s h = true ∨ headCut s h = true) → choose s sle h k = (fallbackOf s h, 3)) ∧
  (∀ s h k a rest, safetyRelevant s a = true → active s.dev = false → (choose s ((h, a) :: rest) h k).1 = fallbackOf s h) ∧
  (∀ s, coreDown s = false → ∀ r, s.asp.fifo.head? = some r → (∀ m, s.asp.sleScan = some m → serialNewer r.scan m = true) →
    ∃ t, exec .aspectRequest s = .next t ∧ t.asp.fifo = s.asp.fifo.tail ∧ t.asp.sleScan = some r.scan ∧
      t.asp.sleNext = some (max (r.at_ + 100) (s.tb + 1), r.reqs)) ∧
  (∀ s, coreDown s = false → ∀ r, s.asp.fifo.head? = some r → ∀ m, s.asp.sleScan = some m → serialNewer r.scan m = false →
    ∃ t, exec .aspectRequest s = .next t ∧ t.asp.fifo = s.asp.fifo.tail ∧ t.asp.sleScan = some m ∧ t.regs = s.regs) ∧
  (∀ s (h : Fin 32) (a : BitVec 8), coreDown s = false → descHead s a.toNat = h.val → safetyRelevant s a.toNat = false →
    ∃ t, exec (.headSelect h a) s = .next t ∧ t.bus = ⟨false, 0⟩ ∧ selOf t h = a.toNat ∧ headStaged t h = true ∧
      (headGet t h).op0 = (headGet s h).op0 ∧ (headGet t h).op1 = (headGet s h).op1 ∧ (headGet t h).opM = (headGet s h).opM) ∧
  (∀ s (h : Fin 32) (a : BitVec 8), coreDown s = false → Settled s → (descHead s a.toNat ≠ h.val ∨ safetyRelevant s a.toNat = true) →
    exec (.headSelect h a) s = .next { s with bus := ⟨true, 0⟩ }) ∧
  (∀ s m, coreDown s = false →
    ∃ t, exec (.headApply m) s = .next t ∧ t.bus = ⟨false, 0⟩ ∧ ∀ h, h < 32 → bitN m.toNat h = true → headStaged s h = true →
      headStaged t h = false ∧ (headGet t h).op0 = some (selOf s h) ∧ (headGet t h).op1 = some (selOf s h) ∧
      (headGet t h).opM = some (selOf s h)) ∧
  (∀ s m, coreDown s = false → regGet s Reg.BIST_STR_UNUSABLE = 0 →
    ∃ t, exec (.headClr m) s = .next t ∧ t.bus = ⟨false, 0⟩ ∧ ∀ h, h < 32 → bitN m.toNat h = true → pfail t h = false)

/-- SAFE frames are sent, forwarded and accepted as R213 to R225 say (derived; R19, R213, R214, R215, R216, R217, R218, R219, R223,
R224, R225, R237). 7.2 µs after a scan boundary a node sends its SAFE frame on every port that is up, at once where the egress is
free, and counts its SEQ; in the safe state the frame says STOP and carries no bits. A member of a pair sends the frame that the
leader has built at that boundary, with STOP and without bits where its own conditions for STOP hold, the SAFE-STOPPED of a
newcomer that has not entered RUN yet not being one; a follower without it sends none. SAFE_WINDOW reserves the egress for W. A
received SAFE frame is forwarded with HOPS − 1 on every open port; a newer, timely one of a subscribed node replaces the
subscription's bits, with 0 under STOP; a stale one and one with a bad CHK are counted and change no subscription; a foreign frame
is counted; one with the own number ends in FAULTED. A frame for which the port's 2 KiB FIFO has no room is dropped. A
subscription whose watchdog time has run out expires. The rate at which that FIFO drains, the follower without a frame and STOP in
the shared frame are the model's choices (log entries 79, 84 and 171). -/
def Obligations.SafeFramesCarryTheSignals : Prop :=
  (∀ s tbs, stopSent s = true → (ownSafe s tbs).bits = 0 ∧ bitN (ownSafe s tbs).state.toNat 7 = true) ∧
  (∀ s, coreDown s = false → s.dev ≠ .powerUp → 720 ≤ s.tb → 0 < safeGrid s → (s.tb - 720) % safeGrid s = 0 → sharesSafe s = false →
      upPorts s ≠ [] →
    ∃ t, exec .safeFrameTx s = .next t ∧ t.rope.seq = (s.rope.seq + 1) % 2 ^ 32 ∧ ∀ p, p < 3 → portUp s p = true →
      (portGet s p).busy ≤ s.tb → (portGet s p).safeQ = [] → (⟨p, .safe (ownSafe s (s.tb - 720)), false⟩ : Sent) ∈ t.rope.out) ∧
  (∀ s, coreDown s = false → s.dev ≠ .powerUp → 720 ≤ s.tb → 0 < safeGrid s → (s.tb - 720) % safeGrid s = 0 → sharesSafe s = true →
      ∀ f, s.bly.copy = some f → f.tbs.toNat = s.tb - 720 →
    ∃ t, exec .safeFrameTx s = .next t ∧ t.rope.seq = (f.seq.toNat + 1) % 2 ^ 32 ∧ ∀ p, p < 3 → portUp s p = true →
      (portGet s p).busy ≤ s.tb → (portGet s p).safeQ = [] →
      (stopSent s = false ∨ (pstate s = 5 ∧ s.bly.ran = false ∧ s.sout.gstop = 0) → (⟨p, .safe f, false⟩ : Sent) ∈ t.rope.out) ∧
      (stopSent s = true → (pstate s ≠ 5 ∨ s.bly.ran = true ∨ s.sout.gstop ≠ 0) → ∃ x, x ∈ t.rope.out ∧ ∃ g, x.frame = .safe g ∧ x.port = p ∧ g.bits = 0 ∧ bitN g.state.toNat 7 = true ∧ g.seq = f.seq)) ∧
  (∀ s, Settled s → sharesSafe s = true → isLeader s = false → s.bly.copy = none → exec .safeFrameTx s = .next s) ∧
  (∀ s, coreDown s = false → s.tb % 6250 = 0 →
    ∃ t, exec .safeWindow s = .next t ∧ t.rope.winEnd = s.tb + (safeWindowNs s + 9) / 10) ∧
  (∀ s (p : Fin 3) f, coreDown s = false → portUp s p = true → rxFill s p + 64 ≤ 2048 → f.hops ≠ 0 → f.hops.toNat ≤ 19 →
      portBlocked s p = false → f.chk.toNat = safeChk f → f.node.toNat ≠ nodeNum s →
      ∀ v, (subscriptions s).find? (fun v => v.1 = f.node.toNat) = some v →
      (∀ q, (subGet s v.1).seq = some q → serialNewer f.seq.toNat q = true) → s.tb ≤ f.tbs.toNat + tWd s (subGet s v.1) v.2 →
    ∃ t, exec (.safeFrame p f true) s = .next t ∧ (subGet t v.1).bits = (if bitN f.state.toNat 7 then 0 else f.bits.toNat) ∧
      (subGet t v.1).seq = some f.seq.toNat ∧ (subGet t v.1).last = s.tb ∧
      (1 < f.hops.toNat → ∀ q, q ∈ forwardPorts s p → (portGet s q).busy ≤ s.tb → (portGet s q).safeQ = [] →
        (⟨q, .safe { f with hops := f.hops - 1 }, false⟩ : Sent) ∈ t.rope.out)) ∧
  (∀ s (p : Fin 3) f, coreDown s = false → portUp s p = true → rxFill s p + 64 ≤ 2048 → f.hops ≠ 0 → f.hops.toNat ≤ 19 →
      portBlocked s p = false → f.chk.toNat = safeChk f → f.node.toNat ≠ nodeNum s →
      ∀ v, (subscriptions s).find? (fun v => v.1 = f.node.toNat) = some v →
      ∀ q, (subGet s v.1).seq = some q → serialNewer f.seq.toNat q = false →
    ∃ t, exec (.safeFrame p f true) s = .next t ∧ t.rope.subs = s.rope.subs ∧
      fldGet t Reg.ROPE_DISCARD_CNT F.ROPE_DISCARD_CNT_STALE = satAdd 16 (fldGet s Reg.ROPE_DISCARD_CNT F.ROPE_DISCARD_CNT_STALE) 1) ∧
  (∀ s (p : Fin 3) f, coreDown s = false → portUp s p = true → rxFill s p + 64 ≤ 2048 → f.hops ≠ 0 → f.hops.toNat ≤ 19 →
      portBlocked s p = false → f.chk.toNat ≠ safeChk f →
    ∃ t, exec (.safeFrame p f true) s = .next t ∧ t.rope.subs = s.rope.subs ∧
      fldGet t Reg.ROPE_SAFE_CNT F.ROPE_SAFE_CNT_CHK = satAdd 16 (fldGet s Reg.ROPE_SAFE_CNT F.ROPE_SAFE_CNT_CHK) 1) ∧
  (∀ s (p : Fin 3) f, coreDown s = false → portUp s p = true → rxFill s p + 64 ≤ 2048 → f.hops ≠ 0 → f.hops.toNat ≤ 19 →
      portBlocked s p = false → f.chk.toNat = safeChk f → f.node.toNat = nodeNum s → (bitN f.state.toNat 6 = false ∨ pairMember s = false) →
      fldGet s Reg.ROPE_STATUS F.ROPE_STATUS_DUP_NODE = 0 → s.dev ≠ .faulted →
    ∃ t, exec (.safeFrame p f true) s = .next t ∧ t.dev = .faulted ∧ t.summit.fatal = 0x9004 ∧
      fldGet t Reg.ROPE_STATUS F.ROPE_STATUS_DUP_NODE = 1) ∧
  (∀ s (p : Fin 3) f fcs, coreDown s = false → portUp s p = true → 2048 < rxFill s p + 64 →
    ∃ t, exec (.safeFrame p f fcs) s = .next t ∧ t.rope = s.rope ∧
      bitN (fldGet t Reg.SYS_XING_STATUS F.SYS_XING_STATUS_RX_OVF) p = true) ∧
  (∀ s (p : Fin 3), coreDown s = false → portUp s p = true →
    ∃ t, exec (.foreignFrame p) s = .next t ∧ t.rope = s.rope ∧
      fldGet t Reg.ROPE_DISCARD_CNT F.ROPE_DISCARD_CNT_FOREIGN = satAdd 16 (fldGet s Reg.ROPE_DISCARD_CNT F.ROPE_DISCARD_CNT_FOREIGN) 1) ∧
  (∀ s (k : Fin 256), coreDown s = false → atBoundary s = true → ∀ v, (subscriptions s)[k.val]? = some v → (subGet s v.1).live = true →
      (subGet s v.1).last + tWd s (subGet s v.1) v.2 < s.tb →
    ∃ t, exec (.subExpired k) s = .next t ∧ (subGet t v.1).live = false ∧
      fldGet t Reg.ROPE_SAFE_CNT F.ROPE_SAFE_CNT_WD = satAdd 16 (fldGet s Reg.ROPE_SAFE_CNT F.ROPE_SAFE_CNT_WD) 1 ∧
      (s.jrn.queue.length < 64 → t.jrn.queue.map Event.code = s.jrn.queue.map Event.code ++ [0x9001]))

/-- OBJECT and COMMIT frames addressed to the node reach the object service and ASP (derived; R19, R192, R193, R194, R216, R220, R275,
R281). A well-formed request in an OBJECT frame with a good FCS, addressed to the node or to all and not sent by itself, waits for
the object service behind those that wait already. A COMMIT frame with a good FCS and CHK, and COMMIT_GO, offer their commit to
ASP: a newer number is accepted while fewer than 4 commits are pending; one that is not newer is counted as stale, one that meets
4 pending commits is counted as refused, and neither changes anything else of ASP. A commit accepted at or after its T_A is
counted in LATE and journaled as 0x8005 with its number, 1 and the delay in µs, rounded up; one accepted before is not. -/
def Obligations.ObjectAndCommitFramesAreDelivered : Prop :=
  (∀ s (p : Fin 3) f, coreDown s = false → portUp s p = true → rxFill s p + frameLen (.object f) ≤ 2048 → f.hops ≠ 0 →
      portBlocked s p = false → f.src.toNat ≠ nodeNum s → (f.dst.toNat = nodeNum s ∨ f.dst = 0xFFFF) → odFormatBad f.msg = false →
      bitN (odFlags f.msg) 2 = false → (∀ q, q ∈ s.od.inbox → odFormatBad q.msg = false) →
    ∃ t, exec (.objectFrame p f true) s = .next t ∧
      t.od.inbox = s.od.inbox ++ [⟨f.src.toNat, s.tb, false, decide (f.dst = 0xFFFF), f.msg⟩]) ∧
  (∀ s (p : Fin 3) f, coreDown s = false → portUp s p = true → rxFill s p + 64 ≤ 2048 → f.hops ≠ 0 → portBlocked s p = false →
      f.src.toNat ≠ nodeNum s → f.chk.toNat = commitChk f → s.asp.commits.length < 4 →
      (∀ m, s.asp.lastNum = some m → serialNewer f.num.toNat m = true) →
    ∃ t, exec (.commitFrame p f true) s = .next t ∧ t.asp.lastNum = some f.num.toNat ∧
      t.asp.commits.length = s.asp.commits.length + 1 ∧
      (∃ c, c ∈ t.asp.commits ∧ c.num = f.num.toNat ∧ c.start = max (f.ta.toNat + 1) (s.tb + 200)) ∧
      fldGet t Reg.ASP_COMMIT_CNT F.ASP_COMMIT_CNT_LATE =
        (if f.ta.toNat ≤ s.tb then satAdd 16 (fldGet s Reg.ASP_COMMIT_CNT F.ASP_COMMIT_CNT_LATE) 1
         else fldGet s Reg.ASP_COMMIT_CNT F.ASP_COMMIT_CNT_LATE) ∧
      (f.ta.toNat ≤ s.tb → s.jrn.queue.length < 63 →
        ⟨s.tb, s.tb, 0x8005, f.num.toNat, 1, (s.tb - f.ta.toNat + 99) / 100, false, false⟩ ∈ t.jrn.queue)) ∧
  (∀ s (p : Fin 3) f, coreDown s = false → portUp s p = true → rxFill s p + 64 ≤ 2048 → f.hops ≠ 0 → portBlocked s p = false →
      f.src.toNat ≠ nodeNum s → f.chk.toNat = commitChk f → ∀ m, s.asp.lastNum = some m → serialNewer f.num.toNat m = false →
    ∃ t, exec (.commitFrame p f true) s = .next t ∧ t.asp = s.asp ∧
      fldGet t Reg.ASP_COMMIT_CNT F.ASP_COMMIT_CNT_STALE = satAdd 8 (fldGet s Reg.ASP_COMMIT_CNT F.ASP_COMMIT_CNT_STALE) 1) ∧
  (∀ s (p : Fin 3) f, coreDown s = false → portUp s p = true → rxFill s p + 64 ≤ 2048 → f.hops ≠ 0 → portBlocked s p = false →
      f.src.toNat ≠ nodeNum s → f.chk.toNat = commitChk f → 4 ≤ s.asp.commits.length →
      (∀ m, s.asp.lastNum = some m → serialNewer f.num.toNat m = true) →
    ∃ t, exec (.commitFrame p f true) s = .next t ∧ t.asp = s.asp ∧
      fldGet t Reg.ASP_COMMIT_CNT F.ASP_COMMIT_CNT_FULL = satAdd 8 (fldGet s Reg.ASP_COMMIT_CNT F.ASP_COMMIT_CNT_FULL) 1) ∧
  (∀ s send, coreDown s = false → s.asp.commits.length < 4 →
      (∀ m, s.asp.lastNum = some m → serialNewer (commitNum s) m = true) →
    ∃ t, exec (.commitGo send) s = .next t ∧ t.bus = ⟨false, 0⟩ ∧ t.asp.lastNum = some (commitNum s) ∧
      t.asp.commits.length = s.asp.commits.length + 1 ∧
      fldGet t Reg.ASP_COMMIT_CNT F.ASP_COMMIT_CNT_LATE =
        (if commitTa s ≤ s.tb then satAdd 16 (fldGet s Reg.ASP_COMMIT_CNT F.ASP_COMMIT_CNT_LATE) 1
         else fldGet s Reg.ASP_COMMIT_CNT F.ASP_COMMIT_CNT_LATE) ∧
      (commitTa s ≤ s.tb → s.jrn.queue.length < 63 →
        ⟨s.tb, s.tb, 0x8005, commitNum s, 1, (s.tb - commitTa s + 99) / 100, false, false⟩ ∈ t.jrn.queue)) ∧
  (∀ s send, coreDown s = false → ∀ m, s.asp.lastNum = some m → serialNewer (commitNum s) m = false →
    ∃ t, exec (.commitGo send) s = .next t ∧ t.asp = s.asp ∧
      fldGet t Reg.ASP_COMMIT_CNT F.ASP_COMMIT_CNT_STALE = satAdd 8 (fldGet s Reg.ASP_COMMIT_CNT F.ASP_COMMIT_CNT_STALE) 1) ∧
  (∀ s send, coreDown s = false → 4 ≤ s.asp.commits.length →
      (∀ m, s.asp.lastNum = some m → serialNewer (commitNum s) m = true) →
    ∃ t, exec (.commitGo send) s = .next t ∧ t.asp = s.asp ∧
      fldGet t Reg.ASP_COMMIT_CNT F.ASP_COMMIT_CNT_FULL = satAdd 8 (fldGet s Reg.ASP_COMMIT_CNT F.ASP_COMMIT_CNT_FULL) 1)

/-- A lost link is blocked and opens the standby link of the ring; a repaired one becomes the standby link (derived; R19, R24, R210,
R226, R227, R228). PORT_UP brings a port up while PLL_C is locked. PCS_SYNC_LOST, LINK_SILENCE and ROPE_RX_LOCK_LOST declare the
link broken, count and journal it and block the port; in a ring a node whose other ring port holds the standby link opens it.
RING_BREAK opens a held standby port, unless the break is that of the standby link itself. LINK_REPAIRED makes a broken link that
has its synchronisation back, and has received valid frames for 3 scan periods of the neighbour, the standby link and journals it;
otherwise it changes nothing. RING_RESTORED is forwarded cut-through on every open port whose egress is free. -/
def Obligations.LinksBreakAndHeal : Prop :=
  (∀ s (p : Fin 3), coreDown s = false → nodeNum s ≠ 0 → s.dev ≠ .powerUp → (p ≠ 2 ∨ fldGet s Reg.ROPE_CFG F.ROPE_CFG_P2EN ≠ 0) →
      pllLocked s 2 = true →
    ∃ t, exec (.portUp p) s = .next t ∧ portUp t p = true ∧ bitN (fldGet t Reg.SYS_CLK_STATUS F.SYS_CLK_STATUS_RX_LOCK) p = true) ∧
  (∀ s (p : Fin 3) c, coreDown s = false → nodeNum s ≠ 0 → portStat s p F.ROPE_PORT_STAT_BROKEN = 0 →
      ((c = .pcsSyncLost p ∧ portStat s p F.ROPE_PORT_STAT_LINK = 1) ∨
        (c = .linkSilence p ∧ portUp s p = true ∧ 0 < (portGet s p).nscan ∧
          ∀ a, (portGet s p).lastValid = some a → a + 3 * (portGet s p).nscan * 6250 ≤ s.tb) ∨
        (c = .ropeRxLockLost p ∧ bitN (fldGet s Reg.SYS_CLK_STATUS F.SYS_CLK_STATUS_RX_LOCK) p = true)) →
    ∃ t, exec c s = .next t ∧ portStat t p F.ROPE_PORT_STAT_BROKEN = 1 ∧ portBlocked t p = true ∧
      fldGet t Reg.ROPE_HEAL_CNT F.ROPE_HEAL_CNT_BREAKS = satAdd 16 (fldGet s Reg.ROPE_HEAL_CNT F.ROPE_HEAL_CNT_BREAKS) 1 ∧
      (s.jrn.queue.length < 64 → (t.jrn.queue.any fun e => e.code = 0x9002) = true) ∧
      (inRing s = true → p.val < 2 → portStat s (1 - p.val) F.ROPE_PORT_STAT_STBY = 1 →
        portStat s (1 - p.val) F.ROPE_PORT_STAT_BROKEN = 0 →
        portStat t (1 - p.val) F.ROPE_PORT_STAT_STBY = 0 ∧ fldGet t Reg.ROPE_STATUS F.ROPE_STATUS_STBY_OPEN = 1)) ∧
  (∀ s (p q : Fin 3) f, coreDown s = false → portUp s p = true → rxFill s p + 64 ≤ 2048 → f.hops ≠ 0 → f.src.toNat ≠ nodeNum s → f.sub = 0 →
      portStat s q F.ROPE_PORT_STAT_STBY = 1 → portStat s q F.ROPE_PORT_STAT_BROKEN = 0 →
      (f.peer.toNat ≠ nodeNum s ∨ ∀ r, r < 2 → portStat s r F.ROPE_PORT_STAT_STBY = 1 →
        (f.src.toNat ≠ portStat s r F.ROPE_PORT_STAT_NEIGH ∨ f.port.toNat ≠ 1 - r)) →
    ∃ t, exec (.ringBreak p f true) s = .next t ∧ portStat t q F.ROPE_PORT_STAT_STBY = 0 ∧
      fldGet t Reg.ROPE_STATUS F.ROPE_STATUS_STBY_OPEN = 1) ∧
  (∀ s (p : Fin 3) (q : Fin 2) f, coreDown s = false → portUp s p = true → rxFill s p + 64 ≤ 2048 → f.hops ≠ 0 →
      portStat s q F.ROPE_PORT_STAT_STBY = 1 → f.peer.toNat = nodeNum s → f.src.toNat = portStat s q F.ROPE_PORT_STAT_NEIGH →
      f.port.toNat = 1 - q.val →
    ∃ t, exec (.ringBreak p f true) s = .next t ∧ portStat t q F.ROPE_PORT_STAT_STBY = 1) ∧
  (∀ s (p : Fin 3), Settled s → repaired s p = false → exec (.linkRepaired p) s = .next s) ∧
  (∀ s (p : Fin 3), coreDown s = false → repaired s p = true → portStat s p F.ROPE_PORT_STAT_BROKEN = 1 →
    ∃ t, exec (.linkRepaired p) s = .next t ∧ portStat t p F.ROPE_PORT_STAT_BROKEN = 0 ∧ portStat t p F.ROPE_PORT_STAT_STBY = 1 ∧
      portBlocked t p = true ∧ (s.jrn.queue.length < 64 → (t.jrn.queue.any fun e => e.code = 0x9005) = true)) ∧
  (∀ s (p : Fin 3) f, coreDown s = false → portUp s p = true → rxFill s p + 64 ≤ 2048 → 1 < f.hops.toNat → f.src.toNat ≠ nodeNum s →
      ∀ q, q ∈ forwardPorts s p → (portGet s q).queue = [] → mayStart s q 221 = true →
    ∃ t, exec (.ringRestored p f true) s = .next t ∧ (⟨q, .ring { f with hops := f.hops - 1 }, false⟩ : Sent) ∈ t.rope.out)

/-- SYNC corrects TB and is sent on, link delays are measured, and the backup root takes over (derived; R19, R216, R229, R230, R238,
R343). TIME_SYNC stores the offset, own minus root, and corrects TB: outside RUN, RECOVERING and DEGRADED an offset above 1 µs by
one step, else, once the time is locked, by a slew; the sixteenth correction in a row within 20 ns per step locks the time.
SYNC_SEND makes the configured root, of a pair only the leader, active and puts a SYNC into the queue of every port that carries
SYNC, DELAY_MEASURE a DREQ into that of its port; both carry the TB at which they leave. TIME_DREQ is answered with a DRESP on its
link; TIME_DRESP stores half the round trip less the asymmetry. ROOT_TAKEOVER makes the backup the active root 5 ms after the last
SYNC. TIME_UNLOCKED marks the node's frames after 10 ms without lock. The sign of the offset, the leader's part and the missing
slew of an unlocked node are the model's readings (log entries 76, 172 and 198). -/
def Obligations.RingTimeIsDistributed : Prop :=
  (∀ s (p : Fin 3) f (sub : Fin 10), coreDown s = false → portUp s p = true → rxFill s p + 64 ≤ 2048 → f.hops ≠ 0 → portBlocked s p = false →
      rootActive s = false → f.sub = 0 →
    ∃ t, exec (.timeSync p f true sub) s = .next t ∧ t.rope.lastSync = some t.tb ∧ t.rope.steps = f.steps.toNat ∧
      (let ofs : Int := ((s.tb * 10 + sub.val : Nat) : Int) -
          ((f.t1.toNat + f.corr.toNat + fldGet s (Reg.ROPE_PORT_DELAY p) F.ROPE_PORT_DELAY_D : Nat) : Int)
       regGet t Reg.ROPE_TIME_OFS = BitVec.ofInt 32 ofs ∧
       (active s.dev = false → (1000 < ofs ∨ ofs < -1000) → t.tb = ((s.tb : Int) - Int.tdiv ofs 10).toNat) ∧
       ((active s.dev = true ∨ (-1000 ≤ ofs ∧ ofs ≤ 1000)) → t.tb = s.tb ∧ (timeLocked t = true → t.rope.slew = -(Int.tdiv (2 * ofs) 5)) ∧
          (timeLocked t = false → t.rope.slew = 0)) ∧
       (s.rope.lockRun = 15 → -((20 * f.steps.toNat : Nat) : Int) ≤ ofs → ofs ≤ ((20 * f.steps.toNat : Nat) : Int) → timeLocked t = true))) ∧
  (∀ s, coreDown s = false → nodeNum s ≠ 0 → mayRoot s = true → (rootActive s = true ∨ nodeNum s = rootNode s) → s.tb % 100000 = 0 → started s.dev = true →
      syncPorts s ≠ [] →
    ∃ t, exec .syncSend s = .next t ∧ rootActive t = true ∧ t.rope.timeSeq = (s.rope.timeSeq + 1) % 65536 ∧
      ∀ q, q ∈ syncPorts s → (portGet s q).queue = [] →
        ∃ x, x ∈ (portGet t q).queue ∧ x.stamp = 0 ∧ ∃ g, x.frame = .time g ∧ g.sub = 0) ∧
  (∀ s (p : Fin 3), coreDown s = false → portUp s p = true → s.tb % 10000000 = 0 → (portGet s p).queue = [] →
    ∃ t, exec (.delayMeasure p) s = .next t ∧
      ∃ x, x ∈ (portGet t p.val).queue ∧ x.stamp = 0 ∧ ∃ g, x.frame = .time g ∧ g.sub = 1) ∧
  (∀ s (g : TimeFrame), (g.sub = 0 ∨ g.sub = 1) → stampTime s ⟨.time g, 0⟩ = .time { g with t1 := BitVec.ofNat 64 (s.tb * 10) }) ∧
  (∀ s (p : Fin 3) f (sub : Fin 10), coreDown s = false → portUp s p = true → rxFill s p + 64 ≤ 2048 → f.hops ≠ 0 →
      (portGet s p).queue = [] → mayStart s p 68 = true →
    ∃ t, exec (.timeDreq p f true sub) s = .next t ∧
      ∃ x, x ∈ t.rope.out ∧ x.port = p.val ∧ x.bad = false ∧ ∃ g, x.frame = .time g ∧ g.sub = 2 ∧ g.seq = f.seq ∧
        g.t1 = f.t1 ∧ g.t2 = BitVec.ofNat 64 (s.tb * 10 + sub.val)) ∧
  (∀ s (p : Fin 3) f (sub : Fin 10), coreDown s = false → portUp s p = true → rxFill s p + 64 ≤ 2048 → f.hops ≠ 0 →
    ∃ t, exec (.timeDresp p f true sub) s = .next t ∧ fldGet t (Reg.ROPE_PORT_DELAY p) F.ROPE_PORT_DELAY_D =
      ((((s.tb * 10 + sub.val : Nat) : Int) - (f.t1.toNat : Int) - ((f.t3.toNat : Int) - (f.t2.toNat : Int)) -
        ofTwos 16 (fldGet s (Reg.ROPE_PORT_ASYM p) F.ROPE_PORT_ASYM_A)) / 2).toNat % 65536) ∧
  (∀ s, coreDown s = false → nodeNum s ≠ 0 → mayRoot s = true → nodeNum s = backupNode s → rootActive s = false →
      ∀ a, (s.rope.lastSync.or s.rope.firstUp) = some a → a + 500000 ≤ s.tb →
    ∃ t, exec .rootTakeover s = .next t ∧ rootActive t = true ∧ timeLocked t = true) ∧
  (∀ s, coreDown s = false → timeLocked s = false → s.rope.unlocked = false → nodeNum s ≠ 0 → s.rope.lostLock + 1000000 ≤ s.tb →
    ∃ t, exec .timeUnlocked s = .next t ∧ t.rope.unlocked = true ∧
      (s.jrn.queue.length < 64 → t.jrn.queue.map Event.code = s.jrn.queue.map Event.code ++ [0x9003]))

/-- A Belay link trains, the pair forms at a scan start, and a lost partner leaves a survivor under the hold time (derived; R24, R236,
R239, R241, R256, R257, R258, R259, R260, R261, R264). LINK_TRAINED, while PLL_C is locked, sends HELLO. HELLO stores the
partner's serial number and answers a partner's first one; a survivor that sees its own slot CRC and node at the other position
sends STREAM_START and enters RESYNC_SRC, a member in SEARCH whose slot differs from that of a partner alone waits for adoption.
PAIR_FORM pairs the members at a scan start, the lower serial number leading. SOLO_START, a lost lock, 300 µs of silence or a
partner reported FAULTED, in reset or SPLIT make a leader the survivor, ALONE; a follower waits for the arbitration, in which
further reports change nothing, and is survivor and leader at its end. The survivor's bypass is requested under the hold timer,
not at all with HOLD = 0; at HOLD_EXP it stops. Losses are counted. HELLO's answer, the start alone, POS_CLASH and SLOT_DIFF
following the latest HELLO and any SEQ taken after the link has come up are the model's readings (log entries 92, 170, 85 and 80). -/
def Obligations.PairsFormAndLosePartners : Prop :=
  (∀ s, coreDown s = false → pairMember s = true → started s.dev = true → linkUp s = false → pllLocked s 2 = true →
    ∃ t, exec .linkTrained s = .next t ∧ linkUp t = true ∧ t.bly.rxSeq = none ∧
      BlyFrame.hello ⟨BitVec.ofNat 64 (ownSerial s), BitVec.ofNat 16 (nodeNum s), ownPos s, BitVec.ofNat 8 (devCode s.dev),
        BitVec.ofNat 32 s.slots.crc, BitVec.ofNat 32 s.slots.seq⟩ ∈ blyOffered t) ∧
  (∀ s m, coreDown s = false → ∀ h, (blyRx s h (.hello m)).2 = true →
    ∃ t, exec (.hello h m) s = .next t ∧ peerSerial t = m.serial.toNat ∧ t.bly.hello = some m ∧
      (s.bly.hello = none → (blyOffered t).any (fun f => blyType f = 1) = true) ∧
      (pstate s = 3 → m.pos ≠ ownPos s → m.crc.toNat = s.slots.crc → m.node.toNat = nodeNum s →
        pstate t = 4 ∧ BlyFrame.control ⟨2, 0, 0, BitVec.ofNat 64 s.tb⟩ ∈ blyOffered t) ∧
      (pstate s = 1 → m.pos ≠ ownPos s → m.crc.toNat ≠ s.slots.crc →
        partnerAlone (fldSet s Reg.BLY_STATUS F.BLY_STATUS_PDSTATE m.dstate.toNat) = true → pstate t = 6) ∧
      (blyBit t F.BLY_STATUS_POS_CLASH = decide (m.pos = ownPos s)) ∧
      (blyBit t F.BLY_STATUS_SLOT_DIFF = decide (m.crc.toNat ≠ s.slots.crc))) ∧
  (∀ s peer, coreDown s = false → pstate s = 1 → pairReady s peer = true → atBoundary s = true → s.dev = .safeStopped →
    ∃ t, exec (.pairForm peer) s = .next t ∧ pstate t = 2 ∧ isLeader t = decide (ownSerial s < peerSerial s)) ∧
  (∀ s c, coreDown s = false → breakAt s = none →
      ((c = .soloStart ∧ pstate s = 1 ∧ fldGet s Reg.BLY_CFG F.BLY_CFG_SOLO = 1 ∧ linkUp s = false ∧ s.bly.quiet + 1000000000 ≤ s.tb) ∨
        (c = .blyLockLost ∧ pstate s = 2 ∧ linkUp s = true ∧ isLeader s = true ∧ s.bly.arb = none) ∨
        (c = .partnerLost ∧ pstate s = 2 ∧ pairMember s = true ∧ isLeader s = true ∧ s.bly.lastValid + 30000 ≤ s.tb ∧ s.bly.arb = none)) →
    ∃ t, exec c s = .next t ∧ BecomesSurvivor s t) ∧
  (∀ s, coreDown s = false → breakAt s = none → ∀ a, s.bly.arb = some a → a + tScan s + 1000 ≤ s.tb →
    ∃ t, exec .arbitrationEnd s = .next t ∧ BecomesSurvivor s t) ∧
  (∀ s m, coreDown s = false → breakAt s = none → pstate s = 2 → isLeader s = true → s.bly.arb = none →
      (m.dstate = 0 ∨ m.dstate = 1 ∨ m.dstate = 6 ∨ m.pstate = 7) → ∀ h, (blyRx s h (.heartbeat m)).2 = true →
    ∃ t, exec (.heartbeat h m) s = .next t ∧ BecomesSurvivor s t) ∧
  (∀ s c, coreDown s = false → pstate s = 2 → isLeader s = false → s.bly.arb = none →
      ((c = .blyLockLost ∧ linkUp s = true) ∨ (c = .partnerLost ∧ pairMember s = true ∧ s.bly.lastValid + 30000 ≤ s.tb)) →
    ∃ t, exec c s = .next t ∧ pstate t = 2 ∧ t.bly.arb = some s.tb ∧ t.dev = s.dev ∧
      fldGet t Reg.BLY_CNT F.BLY_CNT_LOSS = satAdd 8 (fldGet s Reg.BLY_CNT F.BLY_CNT_LOSS) 1 ∧
      (s.jrn.queue.length < 64 → t.jrn.queue.map Event.code = s.jrn.queue.map Event.code ++ [0xA001])) ∧
  (∀ s m, coreDown s = false → s.bly.arb ≠ none → (m.dstate = 6 ∨ m.pstate = 7) → ∀ h, (blyRx s h (.heartbeat m)).2 = true →
    ∃ t, exec (.heartbeat h m) s = .next t ∧ t.bly.arb = s.bly.arb ∧ t.dev = s.dev ∧ t.jrn = s.jrn) ∧
  (∀ s, coreDown s = false → ∀ e, s.bly.holdEnd = some e → e ≤ s.tb →
    ∃ t, exec .holdExp s = .next t ∧ blyBit t F.BLY_STATUS_HOLD_EXP = true ∧ t.bly.holdEnd = none ∧
      (active s.dev = true → t.dev = .safeStopped ∧ t.sout.applied = 0))

/-- A pair merges its snapshots, compares its output images and stops on a difference or a relay that does not follow (derived; R20,
R237, R240, R242, R249, R251, R252, R253, R254, R259, R297). An IMAGE of the awaited TBS is merged (filtered values ANDed, fault
bits and sag ORed, stamps by R249), journaled and evaluated; one that the SLE does not read yet waits in its FIFO of 8, and for
one without room there the device enters FAULTED; one that is missed is counted and the own snapshot is evaluated. An OUTIMG that
differs from the own image of its TBS stops the member with all outputs off; an equal one changes nothing, and one whose own image
is not released yet waits for it. Heartbeats are sent, with the next SEQ, and received. A follower keeps the SAFE copy and the
named swap instant; a leader whose partner reports the new slot names a scan start at least two scans ahead, or cancels after
T_CONFIRM. Input differences set and clear their bits after IDIFF. BP_FAIL and BP_WELD stop the member. The named instant, the
bypass bits, the measure of an input difference, the FIFO's operand and the early OUTIMG are the model's readings (log entries 85,
86, 88, 163 and 196). -/
def Obligations.PairedMembersExchangeEveryScan : Prop :=
  (∀ s m, coreDown s = false → pstate s = 2 → s.bly.waiting = some m.tbs.toNat → s.sle.recov = none → breakAt s = none → s.bly.rxQ = [] →
      ∀ own, snapOf s s.sle.scan = some own → ∀ h, (blyRx s h (.image m)).2 = true →
    ∃ t, exec (.image h m false) s = .next t ∧ t.bly.waiting = none ∧ (∃ r, t.sle.res = some r ∧ r.scan = s.sle.scan) ∧
      ∃ sn, snapOf t s.sle.scan = some sn ∧ sn.filt = Nat.land own.filt m.filt.toNat ∧ sn.tpf = Nat.lor own.tpf m.tpf.toNat ∧
        sn.sag = Nat.lor own.sag (b2n m.sag0 + 2 * b2n m.sag1) ∧ sn.ext = (own.ext && m.ext) ∧ sn.raw = own.raw ∧
        ∀ i, i < 128 → tsOf sn i =
          (let a := tsOf own i
           let b := peerTs s m i
           if bitN own.filt i = bitN m.filt.toNat i then (if bitN own.filt i then max a b else min a b)
           else if bitN own.filt i then b else a)) ∧
  (∀ s m, coreDown s = false → s.bly.rxQ.length < 8 → ∀ h, (blyRx s h (.image m)).2 = true →
    ∃ t, exec (.image h m true) s = .next t ∧ t.bly.rxQ = s.bly.rxQ ++ [m] ∧ t.sle = s.sle ∧ t.bly.waiting = s.bly.waiting ∧ t.dev = s.dev) ∧
  (∀ s m stall, coreDown s = false → 8 ≤ s.bly.rxQ.length → ∀ h, (blyRx s h (.image m)).2 = true →
    ∃ t, exec (.image h m stall) s = .next t ∧ t.dev = .faulted ∧ t.sout.applied = 0 ∧
      fldGet t Reg.SYS_XING_STATUS F.SYS_XING_STATUS_BLY_RX_OVF = 1) ∧
  (∀ s, coreDown s = false → s.sle.recov = none → breakAt s = none → ∀ a, s.bly.waiting = some a → a + 600 ≤ s.tb →
      ∀ own, snapOf s s.sle.scan = some own →
    ∃ t, exec .imageMiss s = .next t ∧ t.bly.waiting = none ∧ (∃ r, t.sle.res = some r ∧ r.scan = s.sle.scan) ∧
      snapOf t s.sle.scan = some own ∧
      fldGet t Reg.BLY_LINK_ERR F.BLY_LINK_ERR_MISS = satAdd 16 (fldGet s Reg.BLY_LINK_ERR F.BLY_LINK_ERR_MISS) 1) ∧
  (∀ s m, coreDown s = false → pstate s = 2 → ∀ v, s.bly.images.find? (fun v => v.1 = m.tbs.toNat) = some v →
      ∀ h, (blyRx s h (.outimg m)).2 = true →
    ∃ t, exec (.outimg h m) s = .next t ∧ t.bly.peerOut = some m.image.toNat ∧
      ((v.2.1 = m.image.toNat ∧ v.2.2 = m.safe.toNat) →
        t.dev = s.dev ∧ blyBit t F.BLY_STATUS_IMG_MIS = blyBit s F.BLY_STATUS_IMG_MIS) ∧
      ((v.2.1 ≠ m.image.toNat ∨ v.2.2 ≠ m.safe.toNat) → blyBit t F.BLY_STATUS_IMG_MIS = true ∧
        fldGet t Reg.BLY_CNT F.BLY_CNT_MIS = satAdd 8 (fldGet s Reg.BLY_CNT F.BLY_CNT_MIS) 1 ∧
        (active s.dev = true → t.dev = .safeStopped ∧ t.sout.applied = 0))) ∧
  (∀ s m, coreDown s = false → pstate s = 2 → s.bly.images.find? (fun v => v.1 = m.tbs.toNat) = none →
      ∀ h, (blyRx s h (.outimg m)).2 = true →
    ∃ t, exec (.outimg h m) s = .next t ∧ t.bly.early = (m :: s.bly.early).take 8 ∧ t.dev = s.dev) ∧
  (∀ s, coreDown s = false → pairMember s = true → linkUp s = true → s.bly.hbAt + 2000 ≤ s.tb → s.bly.busy ≤ s.tb → 0 < tScan s →
      720 ≤ s.tb % tScan s → s.tb % tScan s + 28 ≤ tScan s →
    ∃ t, exec .heartbeatTx s = .next t ∧ t.bly.hbAt = s.tb ∧ t.bly.txSeq = (s.bly.txSeq + 1) % 2 ^ 32 ∧
      (⟨s.bly.txSeq, isLeader s, .heartbeat ⟨BitVec.ofNat 64 s.tb, BitVec.ofNat 8 (devCode s.dev), BitVec.ofNat 8 (pstate s), bypassOn s,
        (List.range 32).any (stageRuns s), BitVec.ofNat 32 (ownSlotCrc s)⟩⟩ : BlySent) ∈ t.bly.out) ∧
  (∀ s m, coreDown s = false → m.dstate.toNat ∉ [0, 1, 6] → m.pstate.toNat ≠ 7 → ∀ h, (blyRx s h (.heartbeat m)).2 = true →
    ∃ t, exec (.heartbeat h m) s = .next t ∧ t.bly.lastValid = s.tb ∧ t.bly.peerBypass = m.bypass ∧ t.bly.peerPstate = m.pstate.toNat ∧
      t.dev = s.dev ∧ (m.bypass = true → bridged t = true) ∧
      (s.bly.swapWait ≠ none → m.crc.toNat = hdrCrc s.slots.buf → 0 < tScan s →
        ∃ v, t.bly.swapAt = some v ∧ v % tScan s = 0 ∧ s.tb + 2 * tScan s ≤ v ∧
          BlyFrame.control ⟨7, 0, 0, BitVec.ofNat 64 v⟩ ∈ blyOffered t)) ∧
  (∀ s f, coreDown s = false → isLeader s = false → ∀ h, (blyRx s h (.safeCopy f)).2 = true →
    ∃ t, exec (.safeCopy h f) s = .next t ∧ t.bly.copy = some { f with chk := BitVec.ofNat 32 (safeChk f) }) ∧
  (∀ s c, coreDown s = false → isLeader s = false → pstate s = 2 → ∀ h, (blyRx s h (.control ⟨7, c.arg, c.val, c.tbs⟩)).2 = true →
    ∃ t, exec (.controlSwap h c) s = .next t ∧ t.bly.swapAt = some c.tbs.toNat) ∧
  (∀ s (i : Fin 128), coreDown s = false → idiffBit s i = false → ∀ a, tabFind s.bly.diffAt i.val = some a → a + idiffTicks s ≤ s.tb →
    ∃ t, exec (.idiff i) s = .next t ∧ idiffBit t i = true ∧
      (s.jrn.queue.length < 64 → t.jrn.queue.length = s.jrn.queue.length + 1)) ∧
  (∀ s (i : Fin 128), coreDown s = false → idiffBit s i = true → ∀ a, tabFind s.bly.sameAt i.val = some a → a + idiffTicks s ≤ s.tb →
    ∃ t, exec (.idiffClear i) s = .next t ∧ idiffBit t i = false) ∧
  (∀ s, coreDown s = false → pairMember s = true → bypassOn s = true → bypassDue s = true → relayReleased s (ownPos s) = true →
      (blyBit s F.BLY_STATUS_BP_FAIL = false ∨ active s.dev = true) →
    ∃ t, exec .bpFail s = .next t ∧ blyBit t F.BLY_STATUS_BP_FAIL = true ∧ (active s.dev = true → t.dev = .safeStopped)) ∧
  (∀ s own, coreDown s = false → pairMember s = true → started s.dev = true → blyBit s F.BLY_STATUS_BP_WELD = false →
      (if own then bypassOn s = false ∧ bypassDue s = true else s.bly.peerBypass = false) →
      relayReleased s (if own then ownPos s else !ownPos s) = false →
    ∃ t, exec (.bypassReleaseTimeout own) s = .next t ∧ blyBit t F.BLY_STATUS_BP_WELD = true ∧
      (active s.dev = true → t.dev = .safeStopped)) ∧
  (∀ s, coreDown s = false → ∀ a, s.bly.swapWait = some a → a + s.slots.tConfirm * 100000000 ≤ s.tb →
    ∃ t, exec .pairSwapCancel s = .next t ∧ t.bly.swapWait = none ∧ t.sle.swapPend = false ∧ t.slots.result = 0x0206 ∧
      fldGet t Reg.SLE_IMG_STAT F.SLE_IMG_STAT_SWAP_PEND = 0)

/-- A hot replacement runs through the steps of R261 on both members (derived; R236, R241, R261, R262, R263, R264, R265). Survivor:
ADOPT_REQ streams the whole slot in frames of at most 1024 bytes; CAUGHT_UP starts the comparison with the next scan; at the
second equal image in a row it withdraws its bypass request and sends RELEASE; the feedback of its released relay pairs it and
counts the replacement; after 200 ms it sends ABORT and stays ALONE. Newcomer: STREAM_START enters RESYNC_DST; STREAM joins its
bytes where they follow; STREAM_END whose CRC is the stream's loads the cairn, its scan number and the registers and answers
CAUGHT_UP, another changes nothing; the first equal image of a partner that runs takes it from SAFE-STOPPED to RUN or DEGRADED;
with RELEASE and that feedback it is PAIRED; ABORT returns it to SEARCH with a retry after 1 s, at most three times. That a stream
with another CRC is not used, the layout of its records (log entry 162) and the bytes that its CRC covers (log entry 19) are the
model's choice. When the newcomer enters RUN is its reading (log entry 81). -/
def Obligations.ReplacementsRunThroughTheirSteps : Prop :=
  (∀ s c, coreDown s = false → pstate s = 3 → s.slots.booted < 2 → ∀ h, (blyRx s h (.control ⟨1, c.arg, c.val, c.tbs⟩)).2 = true →
    ∃ t, exec (.adoptReq h c) s = .next t ∧ ∀ k, k < (64 + hdrLen (slotBytes s s.slots.booted) + 1023) / 1024 →
      1024 * k < (slotBytes s s.slots.booted).length →
      BlyFrame.stream ⟨0, BitVec.ofNat 32 (1024 * k),
        (((slotBytes s s.slots.booted).take (64 + hdrLen (slotBytes s s.slots.booted))).drop (1024 * k)).take 1024⟩ ∈ blyOffered t) ∧
  (∀ s c, coreDown s = false → pstate s = 1 → s.dev = .safeStopped → ∀ h, (blyRx s h (.control ⟨2, c.arg, c.val, c.tbs⟩)).2 = true →
    ∃ t, exec (.streamStart h c) s = .next t ∧ pstate t = 5 ∧ t.bly.resyncAt = some s.tb ∧ t.bly.caughtUp = false ∧ t.bly.backlog = [] ∧
      t.bly.inRecord = [] ∧ t.bly.inCairn = [] ∧ t.bly.inLedger = []) ∧
  (∀ s d, coreDown s = false → pstate s = 5 → s.bly.caughtUp = false → ∀ h, (blyRx s h (.stream d)).2 = true →
    ∃ t, exec (.stream h d) s = .next t ∧
      (d.kind = 1 → t.bly.inRecord = if d.off.toNat = s.bly.inRecord.length then s.bly.inRecord ++ d.bytes else s.bly.inRecord) ∧
      (d.kind = 2 → t.bly.inCairn = if d.off.toNat = s.bly.inCairn.length then s.bly.inCairn ++ d.bytes else s.bly.inCairn) ∧
      (d.kind = 3 → t.bly.inLedger = if d.off.toNat = s.bly.inLedger.length then s.bly.inLedger ++ d.bytes else s.bly.inLedger)) ∧
  (∀ s c, coreDown s = false → pstate s = 5 → s.bly.caughtUp = false → s.sle.hasImage = true → s.bly.backlog = [] →
      c.val.toNat = crc32c (s.bly.inRecord ++ s.bly.inCairn ++ s.bly.inLedger) →
      ∀ x, readRecord (valuesOf s.bly.inRecord) = some x → ∀ y, readCairn (valuesOf s.bly.inCairn) = some y →
      (readLedger (valuesOf s.bly.inLedger)).isSome = true → ∀ h, (blyRx s h (.control ⟨3, c.arg, c.val, c.tbs⟩)).2 = true →
    ∃ t, exec (.streamEnd h c) s = .next t ∧ t.sle.scan = y.1 ∧ t.sle.cairn = y.2 ∧ t.bly.caughtUp = true ∧ t.bly.mayRun = x.2.1 ∧
      t.bly.compareFrom = some ((s.tb / tScan s + 1) * tScan s) ∧ BlyFrame.control ⟨4, 0, 0, BitVec.ofNat 64 s.tb⟩ ∈ blyOffered t ∧
      (x.2.2.length = 1 → ∀ v, v ∈ x.2.2 → inRecord v.1 = true → regGet t v.1 = BitVec.ofNat 32 v.2)) ∧
  (∀ s c, coreDown s = false → pstate s = 5 → c.val.toNat ≠ crc32c (s.bly.inRecord ++ s.bly.inCairn ++ s.bly.inLedger) →
      ∀ h, (blyRx s h (.control ⟨3, c.arg, c.val, c.tbs⟩)).2 = true →
    ∃ t, exec (.streamEnd h c) s = .next t ∧ t.sle = s.sle ∧ t.bly.caughtUp = s.bly.caughtUp ∧ t.regs = s.regs) ∧
  (∀ s c, coreDown s = false → pstate s = 4 → ∀ h, (blyRx s h (.control ⟨4, c.arg, c.val, c.tbs⟩)).2 = true →
    ∃ t, exec (.caughtUp h c) s = .next t ∧ t.bly.compareFrom = some ((s.tb / tScan s + 1) * tScan s) ∧ t.bly.equal = 0) ∧
  (∀ s m, coreDown s = false → (pstate s = 4 ∨ pstate s = 5) → s.bly.released = false →
      s.bly.images.find? (fun v => v.1 = m.tbs.toNat) = some (m.tbs.toNat, m.image.toNat, m.safe.toNat) →
      ∀ f, s.bly.compareFrom = some f → f ≤ m.tbs.toNat → ∀ h, (blyRx s h (.outimg m)).2 = true →
    ∃ t, exec (.outimg h m) s = .next t ∧
      (pstate s = 4 → s.bly.equal = 0 → t.bly.equal = 1 ∧ pstate t = 4) ∧
      (pstate s = 4 → s.bly.equal = 1 → t.sout.bypassReq = false ∧ BlyFrame.control ⟨5, 0, 0, BitVec.ofNat 64 s.tb⟩ ∈ blyOffered t ∧
        (relayReleased s (ownPos s) = false → t.bly.released = true ∧ pstate t = 4) ∧
        (relayReleased s (ownPos s) = true → pstate t = 2)) ∧
      (pstate s = 5 → s.dev = .safeStopped → s.bly.mayRun = true → m.dstate ∈ [3#8, 4#8, 5#8] → leaveOk s = true → s.kill.hold = false →
        s.pwr.vendorBad = false → t.dev = .run ∨ t.dev = .degraded)) ∧
  (∀ s c, coreDown s = false → pstate s = 5 → ∀ h, (blyRx s h (.control ⟨5, c.arg, c.val, c.tbs⟩)).2 = true →
    ∃ t, exec (.release h c) s = .next t ∧ (relayReleased s (!ownPos s) = false → t.bly.released = true ∧ pstate t = 5) ∧
      (relayReleased s (!ownPos s) = true → pstate t = 2)) ∧
  (∀ s (i : Fin 128) first, coreDown s = false → pairMember s = true → started s.dev = true → s.bly.released = true →
      ((pstate s = 4 ∧ i.val = fbInput s (ownPos s)) ∨ (pstate s = 5 ∧ i.val = fbInput s (!ownPos s) ∧ i.val ≠ fbInput s (ownPos s))) →
      filterReady s i true first = true →
    ∃ t, exec (.filteredChange i true first) s = .next t ∧ pstate t = 2 ∧ t.bly.holdEnd = none ∧ t.bly.decide = true ∧
      fldGet t Reg.BLY_RESYNC F.BLY_RESYNC_DONE = satAdd 16 (fldGet s Reg.BLY_RESYNC F.BLY_RESYNC_DONE) 1) ∧
  (∀ s c, coreDown s = false → pstate s = 5 → ∀ h, (blyRx s h (.control ⟨6, c.arg, c.val, c.tbs⟩)).2 = true →
    ∃ t, exec (.abort h c) s = .next t ∧ pstate t = 1 ∧ (active s.dev = true → t.dev = .safeStopped) ∧
      t.bly.retryAt = if s.bly.retries < 3 then some (s.tb + 100000000) else none) ∧
  (∀ s, coreDown s = false → pstate s = 4 → ∀ a, s.bly.resyncAt = some a → a + 20000000 ≤ s.tb →
    ∃ t, exec .resyncTimeout s = .next t ∧ pstate t = 3 ∧ t.bly.resyncAt = none ∧
      (linkUp s = true → BlyFrame.control ⟨6, 0, 0, BitVec.ofNat 64 s.tb⟩ ∈ blyOffered t)) ∧
  (∀ s, coreDown s = false → pstate s = 1 → ∀ a, s.bly.retryAt = some a → a ≤ s.tb →
    ∃ t, exec .resyncRetry s = .next t ∧ t.bly.retries = s.bly.retries + 1 ∧ t.bly.retryAt = none ∧
      (linkUp s = true → (blyOffered t).any (fun f => blyType f = 1) = true))

/-- The object service serves each transaction once, answers as R274 says, and applies accepted writes at a scan boundary (derived;
R270, R272, R273, R274, R275, R276, R280, R282, R283, R284, R285, R314). A request taken up is answered in its source's record,
one from the mailbox also there. READ answers up to 212 bytes of the value with LAST on the last segment, DESCRIBE the properties;
an accepted class S WRITE or SET_APPLY changes no register, waits in the ledger, and takes effect at a scan boundary at least 20
µs later, which sets TRIAL; a write of an entry that cannot be written is refused. SET_OPEN, SET_ADD, SET_DROP and SET_TIMEOUT
open, fill and drop the source's set; with the ledger full SET_APPLY leaves it open. A message that no operation fits is answered
ERR_FORMAT in its turn and its TXN recorded. A repeated TXN is not processed again. ODX_GO hands a request over, ends with a bus
error while busy, and answers ERR_FORMAT to a length that is no message's. The clauses on one request suppose that no waiting
message is malformed. The offsets of an answer, the record of a malformed message and what a full ledger refuses are the model's
readings (log entries 93, 94 and 95). -/
def Obligations.RequestsAreServedOnce : Prop :=
  (∀ s q u, Serves s 1 q u → ∀ r, odFind (odIndex q.msg) (odSub q.msg) = some r → ∀ v, readValue u r = (0, v) →
      (odOffset q.msg = 0 ∨ odOffset q.msg < v.length) →
    ∃ t, exec .read s = .next t ∧ Answered t q ⟨0, if v.length ≤ odOffset q.msg + 212 then 2 else 0, odOffset q.msg,
      (v.drop (odOffset q.msg)).take 212⟩) ∧
  (∀ s q u, Serves s 3 q u → ∀ r, odFind (odIndex q.msg) (odSub q.msg) = some r →
    ∃ t, exec .describe s = .next t ∧ Answered t q ⟨0, 0, 0, odDescribe r⟩) ∧
  (∀ s q u, Serves s 2 q u → ∀ r, odFind (odIndex q.msg) (odSub q.msg) = some r → r.row.acc < 2 →
    ∃ t, exec .write s = .next t ∧ t.od.waits = s.od.waits ∧ Answered t q ⟨0x0102, 0, odIndex q.msg * 65536 + odSub q.msg, []⟩) ∧
  (∀ s q u, Serves s 2 q u → ∀ r, odFind (odIndex q.msg) (odSub q.msg) = some r → 2 ≤ r.row.acc → r.row.cls ≠ 2 → quotaFull u = false →
      odFlags q.msg % 4 = 3 → odOffset q.msg = 0 → r.row.size ≤ 212 → valueStatus u r (odData q.msg) = 0 →
      atomicOk u [(r.index, r.sub, odData q.msg)] = true → liveBad (candidate u [(r.index, r.sub, odData q.msg)]) = none →
    ∃ t, exec .write s = .next t ∧ t.regs = s.regs ∧ t.trial = s.trial ∧
      t.od.waits = s.od.waits ++ [⟨q.src, odTxn q.msg, 2, r.index, r.sub, 0, [(r.index, r.sub, odData q.msg)], q.at_, false, none⟩]) ∧
  (∀ s q u, Serves s 0x10 q u → (dropSet u q.src).od.sets.length < 4 →
    ∃ t, exec .setOpen s = .next t ∧ setOf t q.src = some ⟨q.src, odSub q.msg, s.tb, []⟩ ∧ Answered t q resOk) ∧
  (∀ s q u, Serves s 0x11 q u → ∀ g, setOf u q.src = some g → ∀ r, odFind (odIndex q.msg) (odSub q.msg) = some r → 2 ≤ r.row.acc →
      r.row.cls ≠ 2 → r.row.size ≤ 212 → valueStatus u r (odData q.msg) = 0 → setBytes g.items + 4 + (odData q.msg).length ≤ 4096 →
    ∃ t, exec .setAdd s = .next t ∧ Answered t q resOk ∧
      setOf t q.src = some { g with items := g.items ++ [(odIndex q.msg, odSub q.msg, odData q.msg)] }) ∧
  (∀ s q u, Serves s 0x12 q u → ∀ g, setOf u q.src = some g →
    (quotaFull u = false → (g.mode ≠ 0 ∨ atomicOk u g.items = true) → liveBad (candidate (dropSet u q.src) g.items) = none →
      ∃ t, exec .setApply s = .next t ∧ t.regs = s.regs ∧ setOf t q.src = none ∧ t.od.waits = s.od.waits ++
        [⟨q.src, odTxn q.msg, 0x12, odIndex q.msg, odSub q.msg, g.mode, g.items, q.at_, false, none⟩]) ∧
    (quotaFull u = true →
      ∃ t, exec .setApply s = .next t ∧ setOf t q.src = some g ∧ t.od.waits = s.od.waits ∧
        t.od.quotaFull = satAdd 16 s.od.quotaFull 1 ∧ Answered t q (resErr 0x010B (odIndex q.msg) (odSub q.msg)))) ∧
  (∀ s q u, Serves s 0x13 q u → ∀ g, setOf u q.src = some g →
    ∃ t, exec .setDrop s = .next t ∧ setOf t q.src = none ∧ Answered t q resOk) ∧
  (∀ s c, coreDown s = false → s.od.mgmt = none → pairDead s = false → ∀ q, nextReq s = some q → s.od.inbox.length = 1 →
      odFormatBad q.msg = true → txnOf s q.src = none → s.od.table.length < 32 → q.cast = false → c ∈ [Instr.read, .write, .describe] →
    ∃ t, exec c s = .next t ∧ t.od.inbox = [] ∧ t.od.waits = s.od.waits ∧ t.od.sets = s.od.sets ∧
      Answered t q (resErr 0x010C (odIndex q.msg) (odSub q.msg))) ∧
  (∀ s c, coreDown s = false → s.od.mgmt = none → pairDead s = false → ∀ q, nextReq s = some q →
      s.od.inbox.all (fun x => !odFormatBad x.msg) = true → ∀ x, txnOf s q.src = some x → x.txn = odTxn q.msg →
      (c, odOp q.msg) ∈ [(Instr.read, 1), (.write, 2), (.describe, 3), (.setOpen, 0x10), (.setAdd, 0x11), (.setApply, 0x12), (.setDrop, 0x13)] →
    ∃ t, exec c s = .next t ∧ t.od.inbox = s.od.inbox.erase q ∧ t.od.waits = s.od.waits ∧ t.od.sets = s.od.sets ∧ t.sle = s.sle ∧
      t.slots = s.slots) ∧
  (∀ s (p : Fin 64), coreDown s = false → s.od.mgmt = none → latchedWait s = none → s.dev = .safeStopped → atBoundary s = true →
      s.sle.recov = none → ∀ w, dueWait s = some w → w.mode = 0 → ∀ it, w.items.head? = some it → w.items.length = 1 →
      it.1 = 0x3100 + p.val → it.2.1 = 4 → waitStatus s w = (0, 0, 0) →
    ∃ t, exec .setApplication s = .next t ∧ fldGet t (Reg.FIO_PAIR_CFG p.val) F.FIO_PAIR_CFG_FILTER = ofLe it.2.2 ∧ t.trial = true ∧
      t.od.waits.length + 1 = s.od.waits.length ∧ t.dev = s.dev) ∧
  (∀ s (src : BitVec 16), coreDown s = false → ∀ g, setOf s src.toNat = some g → g.opened + 1000000000 ≤ s.tb → s.od.mgmt = none →
    ∃ t, exec (.setTimeout src) s = .next t ∧ setOf t src.toNat = none ∧
      (s.jrn.queue.length < 64 → t.jrn.queue.map Event.code = s.jrn.queue.map Event.code ++ [0xB001])) ∧
  (∀ s, coreDown s = false →
    let n := (regGet s Reg.ODX_REQ_LEN).toNat % 256
    (mailBusy s = true → ∃ t, exec .odxGo s = .next t ∧ t.bus = ⟨true, 0⟩ ∧ t.od = s.od ∧ t.regs = s.regs) ∧
    (mailBusy s = false → 16 ≤ n → n ≤ 228 → odFormatBad (mailRequest s n) = false → s.od.inbox.all (fun x => !odFormatBad x.msg) = true →
      ∃ t, exec .odxGo s = .next t ∧ t.bus = ⟨false, 0⟩ ∧ t.od.inbox = s.od.inbox ++ [⟨0, s.tb, true, false, mailRequest s n⟩]) ∧
    (mailBusy s = false →
        ((n < 16) ∨ (228 < n ∧ s.od.inbox = [] ∧ s.od.mgmt = none ∧ pairDead s = false ∧ txnOf s 0 = none ∧ s.od.table.length < 32)) →
      ∃ t, exec .odxGo s = .next t ∧ t.od.inbox = s.od.inbox ∧ t.od.waits = s.od.waits ∧ fldGet t Reg.ODX_STATUS F.ODX_STATUS_LAST = 0x010C ∧
        fldGet t Reg.ODX_STATUS F.ODX_STATUS_DONE = 1))

/-- A slot commit runs through CHECK, WRITE, CONFIRM and FINAL, and only an operator's hold of 1 s to 5 s confirms it (derived; R124,
R264, R287, R288, R289, R294, R295, R296, R297). SLOT_COMMIT starts CHECK outside a running commit and SLOT_CANCEL ends CHECK or
CONFIRM; while it may not, each changes nothing. CHECK_DONE moves to WRITE, where the slot that is not booted is erased, or fails
with the check's status. WRITE_DONE writes that slot, its VALID erased, and opens the window of CONFIRM; a failed read-back fails
with ERR_FLASH. A press of 1 s to 5 s that began and ended in the window moves to FINAL, another such press is counted and the
window runs on, and one that began before it counts as a press outside it; CONFIRM_TIMEOUT fails with ERR_CONFIRM. FINAL_DONE
programs VALID and loads the image. TRIAL_REVERT and TRIAL_RESTORE end the trial values; TRIAL_IMAGE sets TRIAL, and loads its
image or fails with ERR_CHECK. How presses count, how the trial values end and when the slot is erased are the model's readings
(log entries 99, 165 and 169). -/
def Obligations.SlotsAreCommittedInSteps : Prop :=
  (∀ s, coreDown s = false →
    (commitStates s = true → committing s = false →
      ∃ t, exec .slotCommit s = .next t ∧ t.slots.commit = 1 ∧ t.slots.buf = s.slots.buf ∧ t.flash = s.flash ∧
        (s.jrn.queue.length < 64 → t.jrn.queue.map Event.code = s.jrn.queue.map Event.code ++ [0x2004])) ∧
    ((commitStates s = false ∨ committing s = true) → Settled s → exec .slotCommit s = .next s) ∧
    (servesWrites s = true → (s.slots.commit = 1 ∨ s.slots.commit = 3) →
      ∃ t, exec .slotCancel s = .next t ∧ t.slots.commit = 0 ∧ t.slots.window = none ∧ t.flash = s.flash) ∧
    ((s.slots.commit = 2 ∨ s.slots.commit = 4) → Settled s → exec .slotCancel s = .next s)) ∧
  (∀ s, coreDown s = false → s.slots.commit = 1 →
    ∃ t, exec .checkDone s = .next t ∧ (checkStatus s = 0 → t.slots.commit = 2 ∧ targetSlot t = freeSlot s ∧ slotBytes t (freeSlot s) = []) ∧
      (s.slots.booted < 2 → freeSlot s = 1 - s.slots.booted) ∧
      (checkStatus s ≠ 0 → t.slots.commit = 6 ∧ t.slots.result = checkStatus s ∧ t.flash = s.flash ∧ t.slots.buf = s.slots.buf)) ∧
  (∀ s left, coreDown s = false → s.slots.commit = 2 → s.slots.adopt = false →
    (∃ t, exec (.writeDone true left) s = .next t ∧ t.slots.commit = 3 ∧ t.slots.window = some s.tb ∧ t.slots.shown = commitCrc s ∧
      slotBytes t (targetSlot s) = withoutValid s.slots.buf ∧ slotBytes t (1 - targetSlot s) = slotBytes s (1 - targetSlot s)) ∧
    (∃ t, exec (.writeDone false left) s = .next t ∧ t.slots.commit = 6 ∧ t.slots.result = 0x0205 ∧ slotBytes t (targetSlot s) = left ∧
      slotBytes t (1 - targetSlot s) = slotBytes s (1 - targetSlot s))) ∧
  (∀ b : List Byte, 64 ≤ b.length → hdrValid (withoutValid b) = 0xFFFFFFFF ∧ hdrValid (withValid b) = 0x5AC33CA5) ∧
  (∀ s, coreDown s = false → s.slots.commit = 3 → ∀ a, s.slots.window = some a →
    (confirmEnd s a < s.tb → ∃ t, exec .confirmTimeout s = .next t ∧ t.slots.commit = 6 ∧ t.slots.result = 0x0206 ∧ t.flash = s.flash) ∧
    (∀ hold, s.tb ≤ confirmEnd s a → s.slots.needHigh = false → started s.dev = true → s.tb < a + hold → pstate s ≠ 6 → s.od.lcReq = none →
      ∃ t, exec (.commissionPress hold) s = .next t ∧ t.slots = { s.slots with outside := satAdd 16 s.slots.outside 1 }) ∧
    (∀ hold, s.tb ≤ confirmEnd s a → s.slots.needHigh = false → started s.dev = true → a + hold ≤ s.tb →
      ∃ t, exec (.commissionPress hold) s = .next t ∧
        (100000000 ≤ hold → hold ≤ 500000000 → t.slots.commit = 4 ∧ t.slots.window = none) ∧
        ((hold < 100000000 ∨ 500000000 < hold) →
          t.slots.commit = 3 ∧ t.slots.window = some a ∧ t.slots.rejected = satAdd 16 s.slots.rejected 1))) ∧
  (∀ s hold, coreDown s = false → s.slots.needHigh = false → started s.dev = true → s.slots.commit ≠ 3 → pstate s ≠ 6 → s.od.lcReq = none →
    ∃ t, exec (.commissionPress hold) s = .next t ∧ t.slots = { s.slots with outside := satAdd 16 s.slots.outside 1 }) ∧
  (∀ s, coreDown s = false → s.slots.commit = 4 → s.slots.trialImage = false → s.sle.loading = false →
    (∃ t, exec (.finalDone true) s = .next t ∧ slotBytes t (targetSlot s) = withValid (slotBytes s (targetSlot s)) ∧
      t.sle.loading = true ∧ t.sle.stream = bufImage s ∧ t.slots.commit = 4) ∧
    (∃ t, exec (.finalDone false) s = .next t ∧ t.slots.commit = 6 ∧ t.slots.result = 0x0205 ∧ t.flash = s.flash)) ∧
  (∀ s, coreDown s = false → servesWrites s = true →
    (∃ t, exec .trialRevert s = .next t ∧ t.od.revert = true ∧ t.trial = s.trial) ∧
    (s.od.revert = true → atBoundary s = true → s.sle.recov = none → s.dev ≠ .faulted → s.sle.loading = false →
      ∃ t, exec .trialRestore s = .next t ∧ t.trial = false ∧ t.od.revert = false ∧
        (s.slots.booted = 255 → t.sle.hasImage = false ∧ t.slots.tConfirm = 120))) ∧
  (∀ s bs, coreDown s = false → trialImageOpen s = true → atBoundary s = true → s.sle.recov = none → bs.length ≤ imageMax →
    ∃ t, exec (.trialImage bs) s = .next t ∧ t.trial = true ∧ t.sle.bankA = s.sle.bankA ∧ t.sle.bankB = s.sle.bankB ∧ t.flash = s.flash ∧
      (imageBad { s with trial := true, slots := { s.slots with buf := bs, trialImage := true, adopt := false, result := 0 } } bs = none →
        t.sle.loading = true ∧ t.sle.stream = bs) ∧
      (imageBad { s with trial := true, slots := { s.slots with buf := bs, trialImage := true, adopt := false, result := 0 } } bs ≠ none →
        t.slots.commit = 6 ∧ t.slots.result = 0x0107 ∧ t.sle.loading = false))

/-- Journal entries have rising numbers and times, and the management pair recovers or fails the device (derived; R302, R307, R308,
R309, R311, R314, R315, R462). JOURNAL_WRITE takes the queued event of least TB after 20 µs in the queue, gives it the next SEQ
and a TB above that of the entry before, keeps at most 4096 entries, and after a loss enters 0xE002. MIRROR_WRITE moves a due page
of at most 8 entries to the mirror, or stops the mirror. A MGMT_MISMATCH, also one in a recovery, keeps the ledger and holds the
object service; MGMT_RECOVERED ends it and journals 0xE001 with the entries replayed; the third of one signature within 10 s ends
in FAULTED. LIMITS_EXCEEDED of a quantity out of its range of R462 throughout, and LIMITS_RESTORED with all within it, set and
clear bit 1 of 0x8003:01 and journal the change. The merging of queued events and what a recovery of the pair keeps are the
model's readings (log entries 103 and 105). -/
def Obligations.EventsAreJournaledInOrder : Prop :=
  (∀ s, coreDown s = false → pairRuns s = true → ∀ e, earliest s.jrn.queue = some e → e.since + 2000 ≤ s.tb →
    ∃ t, exec .journalWrite s = .next t ∧ ∃ n, t.jrn.ring.getLast? = some n ∧ n.seq = s.jrn.nextSeq ∧ t.jrn.nextSeq = s.jrn.nextSeq + 1 ∧
      n.code = e.code ∧ n.p0 = e.p0 ∧ n.p1 = e.p1 ∧ n.p2 = e.p2 ∧ n.dstate = devCode s.dev ∧ t.jrn.lastTb = some n.tb ∧
      (∀ l, s.jrn.lastTb = some l → l < n.tb ∧ n.tb = max e.tb (l + 1)) ∧ (s.jrn.lastTb = none → n.tb = e.tb) ∧
      (s.jrn.ring.length ≤ 4096 → t.jrn.ring.length ≤ 4096) ∧ (s.jrn.lostSince = 0 → t.jrn.queue = s.jrn.queue.erase e) ∧
      (s.jrn.lostSince ≠ 0 → s.jrn.queue.length ≤ 64 →
        t.jrn.queue.map Event.code = (s.jrn.queue.erase e).map Event.code ++ [0xE002] ∧ t.jrn.lostSince = 0)) ∧
  (∀ l e, earliest l = some e → ∀ f, f ∈ l → e.tb ≤ f.tb) ∧
  (∀ s, coreDown s = false → pairRuns s = true → s.jrn.mirrorStopped = false → pageDue s = true → s.slots.commit ≠ 2 → s.slots.commit ≠ 4 →
    unmirrored s ≠ [] →
    (∃ t, exec (.mirrorWrite true) s = .next t ∧ t.jrn.ring = s.jrn.ring ∧ s.jrn.mirrorNext < t.jrn.mirrorNext ∧
      t.flash.mirror.length ≤ s.flash.mirror.length + 8 ∧
      (∃ e, e ∈ s.jrn.ring ∧ t.jrn.mirrorNext = e.seq + 1 ∧ e ∈ t.flash.mirror) ∧ (s.flash.mirror.length ≤ 8192 → t.flash.mirror.length ≤ 8192)) ∧
    (∃ t, exec (.mirrorWrite false) s = .next t ∧ t.jrn.mirrorStopped = true ∧ t.flash = s.flash ∧
      (s.jrn.queue.length < 64 → t.jrn.queue.map Event.code = s.jrn.queue.map Event.code ++ [0xE002]))) ∧
  (∀ s (sig : Word), coreDown s = false → pairUp s = true →
    ((s.od.misHist.filter fun p => s.tb < p.2 + 1000000000 ∧ p.1 = sig.toNat).length < 2 →
      ∃ t, exec (.mgmtMismatch sig) s = .next t ∧ t.od.mgmt = some (sig.toNat, s.tb) ∧ t.od.waits = s.od.waits ∧ t.od.table = s.od.table ∧
        t.od.sets = s.od.sets ∧ t.asp = s.asp ∧ t.dev = s.dev ∧ mailBusy t = true) ∧
    (2 ≤ (s.od.misHist.filter fun p => s.tb < p.2 + 1000000000 ∧ p.1 = sig.toNat).length →
      ∃ t, exec (.mgmtMismatch sig) s = .next t ∧ t.dev = .faulted ∧ (s.dev ≠ .faulted → t.summit.fatal = 0xE004) ∧ t.sout.applied = 0)) ∧
  (∀ s c, s.od.mgmt ≠ none → Settled s → c ∈ [Instr.read, .write, .describe, .setOpen, .setAdd, .setApply, .setDrop, .setApplication] →
    exec c s = .next s) ∧
  (∀ s, coreDown s = false → ∀ m, s.od.mgmt = some m →
    ∃ t, exec .mgmtRecovered s = .next t ∧ t.od.mgmt = none ∧ t.od.mgmtRecov = satAdd 32 s.od.mgmtRecov 1 ∧ t.od.waits = s.od.waits ∧
      t.od.table = s.od.table ∧
      (s.jrn.queue.length < 64 → t.jrn.queue.map Event.code = s.jrn.queue.map Event.code ++ [0xE001] ∧
        ∃ e, t.jrn.queue.getLast? = some e ∧ e.p0 = m.1 ∧ e.p2 = ledgerOd s + ledgerMrc s + ledgerFrames s + ledgerCommits s)) ∧
  (∀ s b c, coreDown s = false → s.dev ≠ .powerUp → s.od.limits = !b →
      ((b = true ∧ ∃ (q : Fin 9) (lo hi : BitVec 16), c = .limitsExceeded q lo hi ∧
          (limitValue q hi < (limitRange q).1 ∨ (limitRange q).2 < limitValue q lo)) ∨
        (b = false ∧ ∃ vs : List (BitVec 16 × BitVec 16), vs.length = 9 ∧ c = .limitsRestored vs ∧
          ∀ p ∈ vs.zipIdx, (limitRange p.2).1 ≤ limitValue p.2 p.1.1 ∧ limitValue p.2 p.1.2 ≤ (limitRange p.2).2)) →
    ∃ t, exec c s = .next t ∧ t.od.limits = b ∧ bitN (unmet t) 1 = b ∧
      (s.od.guarLog = unmet s → s.jrn.queue.length < 64 → t.jrn.queue.map Event.code = s.jrn.queue.map Event.code ++ [0x0004])) ∧
  (∀ s (q : Fin 9) (lo hi : BitVec 16), Settled s → (limitRange q).1 ≤ limitValue q hi → limitValue q lo ≤ (limitRange q).2 →
    exec (.limitsExceeded q lo hi) s = .next s) ∧
  ((limitRange 1, limitRange 3, limitRange 4, limitRange 6, (limitRange 8).2) = ((3135, 3465), (1800, 3600), (0, 30500), (0, 31000), 125))

/-- A conversion's result is coded by R325, clamped with OVR by R327, and goes where R328 and R337 say (derived; R25, R321, R322,
R324, R325, R326, R327, R328, R337, R339). The code of an input is the floor of its fraction of the full scale at the gain;
outside the range it is the nearest end code with OVR, and only there OVR is set. A finished sequencer conversion enters the FIFO
and ADC_LASTn, one that was running when EN was cleared too, and the next repeat ends a conversion time later, on a joined pair
half of it; a full FIFO discards it and sets the core's overflow bit; an urgent one goes to ADC_URG_RESn and sets URG_DONE; one of
a held core goes to ADC_LASTn alone. Reading ADC_RESn takes the oldest result; an empty FIFO reads 0xFFFF_FFFF and sets EMPTY_RD;
a held core answers ADC_LASTn and removes nothing. FLUSH empties the FIFO, and is a bus error on a held core. Where the range
ends, and the conversions of a joined pair, are the model's readings (log entries 107 and 108). -/
def Obligations.ConversionsAreCodedAndDelivered : Prop :=
  (∀ (mux g : Nat) (v : Int), (adcScale mux).1 = false →
    (let x := (v + (adcScale mux).2.2) * (2 ^ g : Nat)
     let fs : Int := (adcScale mux).2.1
     0 ≤ (adcCode mux g v).1 ∧ (adcCode mux g v).1 ≤ 16383 ∧ (0 ≤ x → x < fs → (adcCode mux g v).1 = x * 16384 / fs) ∧
       (x < 0 → (adcCode mux g v).1 = 0) ∧ (fs ≤ x → (adcCode mux g v).1 = 16383) ∧ ((adcCode mux g v).2 = true ↔ x < 0 ∨ fs < x))) ∧
  (∀ (mux g : Nat) (v : Int), (adcScale mux).1 = true →
    (let x := (v + (adcScale mux).2.2) * (2 ^ g : Nat)
     let fs : Int := (adcScale mux).2.1
     (-8192 : Int) ≤ (adcCode mux g v).1 ∧ (adcCode mux g v).1 ≤ 8191 ∧ (-fs ≤ x → x < fs → (adcCode mux g v).1 = x * 8192 / fs) ∧
       (x < -fs → (adcCode mux g v).1 = -8192) ∧ (fs ≤ x → (adcCode mux g v).1 = 8191) ∧
       ((adcCode mux g v).2 = true ↔ x < -fs ∨ fs < x))) ∧
  (∀ s (n : Fin 4) v mux g, coreDown s = false → adcHeld s n = false → (adcGet s n).urg = none →
      ∀ c, ((adcGet s n).tail ++ (adcGet s n).conv.toList).head? = some c → c.end_ ≤ 4 * s.tb →
    ∃ t, exec (.conversionDone n v mux g) s = .next t ∧ regGet t (Reg.ADC_LAST n) = convWord c v ∧
      ((adcGet s n).fifo.length < 64 → (adcGet t n).fifo = (adcGet s n).fifo ++ [convWord c v]) ∧
      (64 ≤ (adcGet s n).fifo.length → (adcGet t n).fifo = (adcGet s n).fifo ∧
        bitN (fldGet t Reg.SYS_XING_STATUS F.SYS_XING_STATUS_ADC_OVF) n = true) ∧
      ((adcGet s n).tail = [] → (adcGet s n).rep + 1 < entryReps s n (adcGet s n).entry → (adcGet t n).rep = (adcGet s n).rep + 1 ∧
        (adcGet t n).entry = (adcGet s n).entry ∧ ∃ k, (adcGet t n).conv = some k ∧ k.req = entryReq s n (adcGet s n).entry ∧
          k.end_ = c.end_ + convTime s n k.req / (if adcJoined s n then 2 else 1)) ∧
      ((adcGet s n).tail = [] → entryReps s n (adcGet s n).entry ≤ (adcGet s n).rep + 1 → adcMode s n = 2 → lastEntry s n ≤ (adcGet s n).entry →
        (adcGet t n).phase = 0 ∧ (adcGet t n).conv = none)) ∧
  (∀ s (n : Fin 4) v mux g, coreDown s = false → adcHeld s n = false → ∀ c, (adcGet s n).urg = some c → c.end_ ≤ 4 * s.tb →
    ∃ t, exec (.conversionDone n v mux g) s = .next t ∧ regGet t (Reg.ADC_URG_RES n) = convWord c v ∧
      fldGet t (Reg.ADC_STAT n) F.ADC_STAT_URG_DONE = 1 ∧ (adcGet t n).fifo = (adcGet s n).fifo ∧ (adcGet t n).urg = none) ∧
  (∀ s (n : Fin 4) v mux g, coreDown s = false → adcHeld s n = true → (mux : BitVec 9).toNat < 0x140 →
    ∃ t, exec (.conversionDone n v mux g) s = .next t ∧ t.adc = s.adc ∧
      getF (regGet t (Reg.ADC_LAST n)) ⟨30, 22⟩ = mux.toNat ∧
      getF (regGet t (Reg.ADC_LAST n)) ⟨31, 31⟩ = b2n (adcCode mux.toNat g v).2) ∧
  (∀ s (n : Fin 4), coreDown s = false → adcHeld s n = false →
    (∀ w, (adcGet s n).fifo.head? = some w →
      ∃ t, exec (.adcResRead n) s = .next t ∧ t.bus = ⟨false, w.toNat⟩ ∧ (adcGet t n).fifo = (adcGet s n).fifo.tail) ∧
    ((adcGet s n).fifo = [] → ∃ t, exec (.adcResRead n) s = .next t ∧ t.bus = ⟨false, 0xFFFFFFFF⟩ ∧
      fldGet t (Reg.ADC_STAT n) F.ADC_STAT_EMPTY_RD = 1 ∧ t.adc = s.adc) ∧
    (∃ t, exec (.flush n) s = .next t ∧ t.bus = ⟨false, 0⟩ ∧ (adcGet t n).fifo = [])) ∧
  (∀ s (n : Fin 4), coreDown s = false → adcHeld s n = true →
    (∃ t, exec (.adcResRead n) s = .next t ∧ t.bus = ⟨false, (regGet s (Reg.ADC_LAST n)).toNat⟩ ∧ t.adc = s.adc) ∧
    (∃ t, exec (.flush n) s = .next t ∧ t.bus = ⟨true, 0⟩ ∧ t.adc = s.adc ∧ t.regs = s.regs))

/-- A core is enabled only with a valid configuration, and triggers, delays and urgent requests act as R333 to R337 say (derived; R25,
R330, R332, R333, R334, R335, R336, R337, R338, R339). ADC_ENABLE of a free core stores the word with EN where the check of R338
passes, else sets CFG_ERR with EN 0; on a held core or the odd half of a joined pair it is a bus error, as an urgent GO is.
ADC_DISABLE clears EN, abandons a delay and lets the running conversions complete. A trigger (SWTRIG, or a new event of the source
that SRC selects) starts the trigger delay of a waiting core; in step mode one that comes while the sequence runs is lost and
counted, and one in the clock in which its last conversion ends starts anew. The end of the trigger delay starts entry 0, that of
an entry delay the next entry; behind an urgent conversion the start waits and is counted. ADC_URGENT_GO starts an urgent
conversion, runs first in the clock in which the sequencer would start, is dropped and counted while the core converts, and sets
CFG_ERR for no entry of the map. The order of events of one clock and the points of the check are the model's readings (log
entries 108 and 109). -/
def Obligations.SequencersRunAsConfigured : Prop :=
  (∀ s (n : Fin 4) w, coreDown s = false → adcHeld s n = false → adcSlave s n = false → adcEn s n = false → getF w F.ADC_CFG_SEQMODE ≠ 3 →
    ∃ t, exec (.adcEnable n w) s = .next t ∧ t.bus = ⟨false, 0⟩ ∧
      (adcUnusable s n = false → adcCfgOk (regSet s (Reg.ADC_CFG n) (setF (setF w F.ADC_CFG_EN 1) F.ADC_CFG_EN 0)) n = true →
        regGet t (Reg.ADC_CFG n) = setF w F.ADC_CFG_EN 1 ∧
          (adcGet t n).phase = (if getF w F.ADC_CFG_SEQMODE = 1 ∧ fldGet s (Reg.ADC_TRIG n) F.ADC_TRIG_SRC = 0 then 1 else 0) ∧
          (adcGet t n).rep = 0 ∧ (adcGet t n).conv = none) ∧
      ((adcUnusable s n = true ∨ adcCfgOk (regSet s (Reg.ADC_CFG n) (setF (setF w F.ADC_CFG_EN 1) F.ADC_CFG_EN 0)) n = false) →
        adcEn t n = false ∧ fldGet t (Reg.ADC_STAT n) F.ADC_STAT_CFG_ERR = 1 ∧ t.adc = s.adc)) ∧
  (∀ s (n : Fin 4) w, coreDown s = false → (adcHeld s n = true ∨ adcSlave s n = true) →
    (∃ t, exec (.adcEnable n w) s = .next t ∧ t.bus = ⟨true, 0⟩ ∧ t.regs = s.regs ∧ t.adc = s.adc) ∧
    ∃ t, exec (.adcUrgentGo n) s = .next t ∧ t.bus = ⟨true, 0⟩ ∧ t.regs = s.regs ∧ t.adc = s.adc) ∧
  (∀ s (n : Fin 4), coreDown s = false → adcHeld s n = false → adcSlave s n = false → adcEn s n = true → adcMode s n ≠ 3 →
    ∃ t, exec (.adcDisable n) s = .next t ∧ t.bus = ⟨false, 0⟩ ∧ adcEn t n = false ∧ (adcGet t n).phase = 0 ∧ (adcGet t n).conv = none ∧
      (adcGet t n).fifo = (adcGet s n).fifo ∧ (adcGet t n).tail = (adcGet s n).tail ++ runningConvs s n ∧
      (adcJoined s n = false → runningConvs s n = (adcGet s n).conv.toList)) ∧
  (∀ s (n : Fin 4) c, coreDown s = false → adcHeld s n = false → adcSlave s n = false → adcEn s n = true →
      (adcGet s n).trigAt ≠ some s.tb → (adcMode s n = 1 ∨ adcMode s n = 2) →
      (c = .swtrig n ∨ (c = .adcTrigger n ∧ ∃ e, triggerSource s (fldGet s (Reg.ADC_TRIG n) F.ADC_TRIG_SRC) = some e ∧ s.tb ≤ e + 3 ∧
        (adcGet s n).trigEvt ≠ some e)) →
    ∃ t, exec c s = .next t ∧
      ((adcGet s n).phase = 0 → (adcGet t n).phase = 1 ∧ (adcGet t n).rep = 0 ∧
        (adcGet t n).delayEnd = 4 * s.tb + 5 * fldGet s (Reg.ADC_TRIG n) F.ADC_TRIG_DELAY) ∧
      ((adcGet s n).phase ≠ 0 → adcMode s n = 2 → adcSeqEnds s n = false →
        adcGet t n = { adcGet s n with trigAt := some s.tb, trigEvt := (adcGet t n).trigEvt } ∧
        fldGet t (Reg.ADC_CNT n) F.ADC_CNT_TRIG_MISS = satAdd 16 (fldGet s (Reg.ADC_CNT n) F.ADC_CNT_TRIG_MISS) 1) ∧
      ((adcGet s n).phase ≠ 0 → adcMode s n = 2 → adcSeqEnds s n = true →
        (adcGet t n).phase = 1 ∧ (adcGet t n).conv = none ∧ (adcGet t n).tail = (adcGet s n).tail ++ (adcGet s n).conv.toList)) ∧
  (∀ s (n : Fin 4), Settled s → (∀ e, triggerSource s (fldGet s (Reg.ADC_TRIG n) F.ADC_TRIG_SRC) = some e →
      e + 3 < s.tb ∨ (adcGet s n).trigEvt = some e) → exec (.adcTrigger n) s = .next s) ∧
  (∀ s (n : Fin 4) c e, coreDown s = false → (adcGet s n).delayEnd ≤ 4 * s.tb →
      ((c = .triggerDelayEnd n ∧ (adcGet s n).phase = 1 ∧ e = 0) ∨
        (c = .entryDelayEnd n ∧ (adcGet s n).phase = 3 ∧ e = nextEntry s n (adcGet s n).entry)) →
    ∃ t, exec c s = .next t ∧ (adcGet t n).phase = 2 ∧ (adcGet t n).entry = e ∧ (adcGet t n).rep = 0 ∧
      (adcConverting s n = false → ∃ k, (adcGet t n).conv = some k ∧ k.req = entryReq s n e ∧ k.idx = e ∧
        k.end_ = convTime s n (entryReq s n e) + (if (adcGet s n).phase = 1 then 4 * s.tb + 5 else (adcGet s n).delayEnd)) ∧
      (adcConverting s n = true → (adcGet t n).conv = none ∧
        fldGet t (Reg.ADC_CNT n) F.ADC_CNT_SEQ_WAIT = satAdd 16 (fldGet s (Reg.ADC_CNT n) F.ADC_CNT_SEQ_WAIT) 1)) ∧
  (∀ s (n : Fin 4), coreDown s = false → adcHeld s n = false → adcSlave s n = false → adcUnusable s n = false →
      reqMux (regGet s (Reg.ADC_URG n)) < 0x140 →
      ¬((adcGet s n).phase = 2 ∧ (adcGet s n).rep = 0 ∧ (adcGet s n).started = some s.tb ∧ (adcGet s n).conv ≠ none ∧
        (adcGet s n).urg = none ∧ (adcGet s n).tail = []) →
    ∃ t, exec (.adcUrgentGo n) s = .next t ∧ t.bus = ⟨false, 0⟩ ∧
      (adcConverting s n = false → ∃ k, (adcGet t n).urg = some k ∧ k.req = regGet s (Reg.ADC_URG n) ∧ k.idx = 0 ∧
        k.end_ = 4 * s.tb + 5 + convTime s n (regGet s (Reg.ADC_URG n))) ∧
      (adcConverting s n = true → t.adc = s.adc ∧ fldGet t Reg.ADC_URGENT_DROP ⟨8 * n + 7, 8 * n⟩ =
        satAdd 8 (fldGet s Reg.ADC_URGENT_DROP ⟨8 * n + 7, 8 * n⟩) 1)) ∧
  (∀ s (n : Fin 4), coreDown s = false → adcHeld s n = false → adcSlave s n = false → adcUnusable s n = false →
      reqMux (regGet s (Reg.ADC_URG n)) < 0x140 → (adcGet s n).phase = 2 → (adcGet s n).rep = 0 → (adcGet s n).started = some s.tb →
      (adcGet s n).conv ≠ none → (adcGet s n).urg = none → (adcGet s n).tail = [] →
    ∃ t, exec (.adcUrgentGo n) s = .next t ∧ t.bus = ⟨false, 0⟩ ∧ (adcGet t n).conv = none ∧ (adcGet t n).phase = 2 ∧
      (∃ k, (adcGet t n).urg = some k ∧ k.req = regGet s (Reg.ADC_URG n) ∧
        k.end_ = 4 * s.tb + 5 + convTime s n (regGet s (Reg.ADC_URG n))) ∧
      fldGet t (Reg.ADC_CNT n) F.ADC_CNT_SEQ_WAIT = satAdd 16 (fldGet s (Reg.ADC_CNT n) F.ADC_CNT_SEQ_WAIT) 1) ∧
  (∀ s (n : Fin 4), coreDown s = false → adcHeld s n = false → adcSlave s n = false → adcUnusable s n = false → 0x140 ≤ reqMux (regGet s (Reg.ADC_URG n)) →
    ∃ t, exec (.adcUrgentGo n) s = .next t ∧ t.adc = s.adc ∧ fldGet t (Reg.ADC_STAT n) F.ADC_STAT_CFG_ERR = 1)

/-- Timers count from 0 to PERIOD, raise their events, start by R347 and capture by R350 (derived; R346, R347, R348, R349, R350, R351,
R352). At the tick on which counting passes PERIOD, or the forced one after PERIOD was set below the count, the period event sets
the count to 0 and PERIOD_EVT; a one-shot timer stops; an aligned one that is off its TB-derived value loads it at the next tick,
which sets RESYNC and raises no compare event. Counting to CMP sets CMP_EVT; with CMP = 0 or CMP = PERIOD the compare event
follows the period event on its tick. TIMER_ENABLE starts a stopped timer; with PHASE above PERIOD under ALIGN or an unknown
capture source it sets CFG_ERR. A PERIOD write below the count forces the next tick, one at the tick of a period event leaves that
event as it is, and one above which PHASE lies sets PHASE_WRAP. A qualifying edge of the source that CAPSRC selects stores the
count or TB and sets NEW, over an unread value OVR, and a second one within the tick is no other capture; reading TMR_CAPn answers
it and clears NEW. The ticks of a timer that is not aligned and the compare event at CMP = PERIOD are the model's readings (log
entries 111 and 177). -/
def Obligations.TimersCountAndCapture : Prop :=
  (∀ s (n : Fin 16), coreDown s = false → tmrTick (tmrSync s n) n = true →
      (tmrRaw (tmrSync s n) n = tmrPeriod (tmrSync s n) n + 1 ∨ tmrForced (tmrSync s n) n = true) →
    ∃ t, exec (.timerPeriodEvent n) s = .next t ∧ fldGet t (Reg.TMR_STAT n) F.TMR_STAT_PERIOD_EVT = 1 ∧ (tmrGet t n).cnt = 0 ∧
      (tmrGet t n).at_ = s.tb ∧ (tmrForced (tmrSync s n) n = true → fldGet t (Reg.TMR_STAT n) F.TMR_STAT_LATE_PERIOD = 1) ∧
      (fldGet s (Reg.TMR_CFG n) F.TMR_CFG_MODE = 1 → tmrEn t n = false) ∧
      ((tmrGet t n).load = true ↔ (tmrAligned s n = true ∧ tmrAlign s n s.tb ≠ 0))) ∧
  (∀ s (n : Fin 16), coreDown s = false → tmrEn s n = true → (tmrGet s n).start = false → (tmrGet s n).load = true →
      tmrNext s n (tmrGet s n).at_ = s.tb →
    tmrCount s n = tmrAlign s n s.tb % 2 ^ 32 ∧ ∃ t, exec (.timerCompareEvent n) s = .next t ∧ tmrCount t n = tmrAlign s n s.tb % 2 ^ 32 ∧
      fldGet t (Reg.TMR_STAT n) F.TMR_STAT_RESYNC = 1 ∧
      fldGet t (Reg.TMR_STAT n) F.TMR_STAT_CMP_EVT = fldGet s (Reg.TMR_STAT n) F.TMR_STAT_CMP_EVT) ∧
  (∀ s (n : Fin 16), coreDown s = false → tmrTick (tmrSync s n) n = true → tmrRaw (tmrSync s n) n = tmrCmp (tmrSync s n) n →
      tmrCmp (tmrSync s n) n < tmrPeriod (tmrSync s n) n →
    ∃ t, exec (.timerCompareEvent n) s = .next t ∧ fldGet t (Reg.TMR_STAT n) F.TMR_STAT_CMP_EVT = 1 ∧ tmrCount t n = tmrCmp t n % 2 ^ 32 ∧
      (tmrGet t n).evtAt = some s.tb) ∧
  (∀ s (n : Fin 16), coreDown s = false → tmrTick (tmrSync s n) n = true →
      ((tmrRaw (tmrSync s n) n = tmrPeriod (tmrSync s n) n + 1 ∧ tmrForced (tmrSync s n) n = false ∧
          (tmrCmp (tmrSync s n) n = 0 ∨ tmrCmp (tmrSync s n) n = tmrPeriod (tmrSync s n) n)) ∨
        (tmrForced (tmrSync s n) n = true ∧ tmrCmp (tmrSync s n) n = 0)) →
    ∃ t, exec (.timerPeriodEvent n) s = .next t ∧ ∃ u, exec (.timerCompareEvent n) t = .next u ∧
      fldGet u (Reg.TMR_STAT n) F.TMR_STAT_PERIOD_EVT = 1 ∧ fldGet u (Reg.TMR_STAT n) F.TMR_STAT_CMP_EVT = 1) ∧
  (∀ s (n : Fin 16) w, coreDown s = false → tmrEn s n = false → getF w F.TMR_CFG_EN = 1 →
    ∃ t, exec (.timerEnable n w) s = .next t ∧ t.bus = ⟨false, 0⟩ ∧
      ((getF w F.TMR_CFG_CAPSRC ≤ 0x14 ∧
          (getF w F.TMR_CFG_ALIGN = 0 ∨ (regGet s (Reg.TMR_PHASE n)).toNat ≤ (regGet s (Reg.TMR_PERIOD n)).toNat)) →
        tmrEn t n = true ∧ (tmrGet t n).start = true ∧ (tmrGet t n).at_ = s.tb) ∧
      ((0x14 < getF w F.TMR_CFG_CAPSRC ∨
          (getF w F.TMR_CFG_ALIGN = 1 ∧ (regGet s (Reg.TMR_PERIOD n)).toNat < (regGet s (Reg.TMR_PHASE n)).toNat)) →
        tmrEn t n = false ∧ fldGet t (Reg.TMR_STAT n) F.TMR_STAT_CFG_ERR = 1)) ∧
  (∀ s (n : Fin 16), tmrEn s n = true → (tmrGet s n).start = true → tmrNext s n (tmrGet s n).at_ = s.tb →
    tmrCount s n = if tmrAligned s n then tmrAlign s n s.tb % 2 ^ 32 else 0) ∧
  (∀ s (n : Fin 16) v, coreDown s = false →
    ∃ t, exec (.tmrPeriodWrite n v) s = .next t ∧ t.bus = ⟨false, 0⟩ ∧ regGet t (Reg.TMR_PERIOD n) = v ∧
      (tmrEn s n = true → (tmrGet (tmrSync s n) n).start = false → tmrReturns (tmrSync s n) n = false → v.toNat < tmrRaw (tmrSync s n) n →
        (tmrGet t n).late = some s.tb ∧ ∀ b, s.tb < b → (tmrGet (tmrSync s n) n).at_ < b → b % tmrPresc s n = 0 → tmrForced { t with tb := b } n = true) ∧
      (tmrReturns (tmrSync s n) n = true → tmrReturns (tmrSync t n) n = true ∧
        tmrForced (tmrSync t n) n = tmrForced (tmrSync s n) n) ∧
      (tmrEn s n = true → tmrAligned s n = true → v.toNat < (regGet s (Reg.TMR_PHASE n)).toNat →
        fldGet t (Reg.TMR_STAT n) F.TMR_STAT_PHASE_WRAP = 1)) ∧
  (∀ s (n : Fin 16) rising, coreDown s = false → tmrEn s n = true → captureSource s (fldGet s (Reg.TMR_CFG n) F.TMR_CFG_CAPSRC) = true →
      (fldGet s (Reg.TMR_CFG n) F.TMR_CFG_CAPEDGE = 3 ∨ fldGet s (Reg.TMR_CFG n) F.TMR_CFG_CAPEDGE = if rising then 1 else 2) →
    ((tmrGet s n).capAt ≠ some s.tb →
    ∃ t, exec (.timerCapture n rising) s = .next t ∧ fldGet t (Reg.TMR_STAT n) F.TMR_STAT_NEW = 1 ∧
      (regGet t (Reg.TMR_CAP n)).toNat = (if fldGet s (Reg.TMR_CFG n) F.TMR_CFG_CAPSEL = 1 then s.tb % 2 ^ 32 else tmrCount s n) ∧
      (fldGet s (Reg.TMR_STAT n) F.TMR_STAT_NEW = 1 → fldGet t (Reg.TMR_STAT n) F.TMR_STAT_OVR = 1)) ∧
    ((tmrGet s n).capAt = some s.tb →
    ∃ t, exec (.timerCapture n rising) s = .next t ∧ regGet t (Reg.TMR_CAP n) = regGet s (Reg.TMR_CAP n) ∧
      fldGet t (Reg.TMR_STAT n) F.TMR_STAT_OVR = fldGet s (Reg.TMR_STAT n) F.TMR_STAT_OVR)) ∧
  (∀ s (n : Fin 16) rising, coreDown s = false → captureSource s (fldGet s (Reg.TMR_CFG n) F.TMR_CFG_CAPSRC) = false →
    ∃ t, exec (.timerCapture n rising) s = .next t ∧ regGet t (Reg.TMR_CAP n) = regGet s (Reg.TMR_CAP n)) ∧
  (∀ s (n : Fin 16), coreDown s = false →
    ∃ t, exec (.captureRead n) s = .next t ∧ t.bus = ⟨false, (regGet s (Reg.TMR_CAP n)).toNat⟩ ∧
      fldGet t (Reg.TMR_STAT n) F.TMR_STAT_NEW = 0 ∧ t.tmr = s.tmr)

/-- Channels start at the doorbell, refuse bad descriptors with a record, chain, wait on a full queue and stop at a boundary (derived;
R355, R358, R359, R360, R363, R364, R365, R366, R367). The doorbell starts an enabled idle channel on its shadow, waits in QWAIT
behind a full queue, arms a busy one; while armed, or with bad queue settings, it sets its error bit; on a disabled channel it is
a bus error. A descriptor that fails R358 is not started: its record alone is written. A finished run writes its 16-byte record
into the slot taken at its load with its status, advances HEAD, counts BAD ones and sets MRC_DONE under INT; then STOP wins, else
the chain goes on, or at its end the armed shadow starts, behind a full queue waits in QWAIT, or the channel is idle. A fetch
outside SRAM or misaligned ends the chain with FETCH_ERR. STOP acts at once in QWAIT, else at the boundary; clearing an enable bit
acts as STOP. That a descriptor moves at one moment, and the point at which STOP acts, are the model's (log entries 112 and 113). -/
def Obligations.ChannelsRunTheirDescriptors : Prop :=
  (∀ s (n : Fin 16), coreDown s = false →
    (mrcEnabled s n = false → ∃ t, exec (.shadowArm n) s = .next t ∧ t.bus = ⟨true, 0⟩ ∧ t.mrc = s.mrc ∧ t.regs = s.regs) ∧
    (mrcEnabled s n = true → (mrcGet s n).armed = true →
      ∃ t, exec (.shadowArm n) s = .next t ∧ t.mrc = s.mrc ∧ fldGet t (Reg.MRC_CH_STAT n) F.MRC_CH_STAT_ARM_DUP = 1) ∧
    (mrcEnabled s n = true → (mrcGet s n).armed = false → ((mrcGet s n).dirty = true ∨ tqOk s n = false) →
      ∃ t, exec (.shadowArm n) s = .next t ∧ t.mrc = s.mrc ∧ fldGet t (Reg.MRC_CH_STAT n) F.MRC_CH_STAT_CFG_ERR = 1) ∧
    (mrcEnabled s n = true → (mrcGet s n).armed = false → (mrcGet s n).dirty = false → tqOk s n = true →
      ∃ t, exec (.shadowArm n) s = .next t ∧ t.bus = ⟨false, 0⟩ ∧
        ((mrcGet s n).state ≠ 0 → mrcGet t n = { mrcGet s n with armed := true }) ∧
        ((mrcGet s n).state = 0 → tqFull s n = true → (mrcGet s n).stop = false → (mrcGet t n).state = 5 ∧ (mrcGet t n).armed = true) ∧
        ((mrcGet s n).state = 0 → tqFull s n = false → descCheck (shadowDesc s n) = 0 →
          (mrcGet t n).state = 2 ∧ (mrcGet t n).act = some (shadowDesc s n) ∧ (mrcGet t n).armed = false ∧ t.mem = s.mem) ∧
        ((mrcGet s n).state = 0 → tqFull s n = false → descCheck (shadowDesc s n) ≠ 0 →
          (mrcGet t n).act = none ∧ tqHead t n = (tqHead s n + 1) % tqSize s n ∧
          fldGet t (Reg.MRC_CH_STAT n) F.MRC_CH_STAT_LAST = descCheck (shadowDesc s n)))) ∧
  (∀ s (n : Fin 16), coreDown s = false →
    ((mrcGet s n).state = 0 → ∃ t, exec (.mrcStop n) s = .next t ∧ t.mrc = s.mrc ∧ t.regs = s.regs) ∧
    ((mrcGet s n).state = 5 → ∃ t, exec (.mrcStop n) s = .next t ∧ (mrcGet t n).state = 0 ∧ (mrcGet t n).armed = false ∧
      fldGet t (Reg.MRC_CH_STAT n) F.MRC_CH_STAT_STOPPED = 1 ∧
      regGet t (Reg.MRC_CH_NEXT n) = BitVec.ofNat 32 ((mrcGet s n).nxt.getD 0)) ∧
    ((mrcGet s n).state ≠ 0 → (mrcGet s n).state ≠ 5 →
      ∃ t, exec (.mrcStop n) s = .next t ∧ mrcGet t n = { mrcGet s n with stop := true } ∧ t.regs = s.regs)) ∧
  (∀ s (n : Fin 16), coreDown s = false → (mrcGet s n).state = 1 → ∀ a, (mrcGet s n).nxt = some a → tqFull s n = false →
    ∃ t, exec (.descriptorFetch n) s = .next t ∧
      (inSram a = true → memReadable s a = true → a % 32 = 0 → descCheck (memDesc s.mem a) = 0 →
        (mrcGet t n).state = 2 ∧ (mrcGet t n).act = some (memDesc s.mem a)) ∧
      ((inSram a = false ∨ memReadable s a = false ∨ a % 32 ≠ 0) → (mrcGet s n).armed = false → (mrcGet s n).stop = false →
        (mrcGet t n).state = 0 ∧ fldGet t (Reg.MRC_CH_STAT n) F.MRC_CH_STAT_FETCH_ERR = 1 ∧
          fldGet t (Reg.MRC_CH_STAT n) F.MRC_CH_STAT_LAST = 4 ∧ tqHead t n = (tqHead s n + 1) % tqSize s n)) ∧
  (∀ s (n : Fin 16) c st, coreDown s = false → (mrcGet s n).state = 2 → ∀ d, (mrcGet s n).act = some d →
      ((c = .descriptorDone n ∧ st = 0) ∨ (c = .descriptorBusError n ∧ st = 1) ∨ (c = .idxAlign n ∧ st = 3)) →
      (runDesc s n d).status = st →
      ((mrcGet s n).armed = false ∨ (mrcGet s n).stop = true ∨ descEoc d = false ∨ descCheck (shadowDesc (runDesc s n d).s n) = 0) →
    (let m := (runDesc s n d).s
     let slot := (mrcGet s n).slot.1
     ∃ t, exec c s = .next t ∧ t.bus = s.bus ∧ tqHead t n = (tqHead m n + 1) % (mrcGet s n).slot.2 % 2 ^ 32 % 256 ∧
       fldGet t (Reg.MRC_CH_STAT n) F.MRC_CH_STAT_LAST = st ∧
       (memReadable m slot = true → memBytes t.mem slot 16 = recordBytes n (descTag d) st (runDesc s n d).bytes m.tb (descInt d)) ∧
       (descInt d = true → bitN (regGet t Reg.MRC_DONE).toNat n = true) ∧
       (st = 1 → (regGet t (Reg.MRC_CH_BADCNT n)).toNat = satAdd 16 (regGet m (Reg.MRC_CH_BADCNT n)).toNat 1) ∧
       ((mrcGet s n).stop = true → (mrcGet t n).state = 0 ∧ fldGet t (Reg.MRC_CH_STAT n) F.MRC_CH_STAT_STOPPED = 1 ∧
         regGet t (Reg.MRC_CH_NEXT n) = BitVec.ofNat 32 ((descNext d).getD 0)) ∧
       ((mrcGet s n).stop = false → descEoc d = false → (mrcGet t n).state = 1 ∧ (mrcGet t n).nxt = some d.nxt.toNat ∧
         (mrcGet t n).armed = (mrcGet s n).armed) ∧
       ((mrcGet s n).stop = false → descEoc d = true → (mrcGet s n).armed = false → (mrcGet t n).state = 0) ∧
       ((mrcGet s n).stop = false → descEoc d = true → (mrcGet s n).armed = true →
         (tqFull t n = false → (mrcGet t n).state = 2 ∧ (mrcGet t n).act = some (shadowDesc m n) ∧ (mrcGet t n).armed = false) ∧
         (tqFull t n = true → (mrcGet t n).state = 5 ∧ (mrcGet t n).armed = true)))) ∧
  (∀ s (n : Fin 16) c st, coreDown s = false → (mrcGet s n).state = 2 → ∀ d, (mrcGet s n).act = some d →
      ((c = .descriptorDone n ∧ st = 0) ∨ (c = .descriptorBusError n ∧ st = 1) ∨ (c = .idxAlign n ∧ st = 3)) →
      (runDesc s n d).status ≠ st → ∃ t, exec c s = .next t ∧ t.mrc = s.mrc ∧ t.mem = s.mem) ∧
  (∀ s (n : Fin 16) w, coreDown s = false →
    ∃ t, exec (.tqTailWrite n w) s = .next t ∧ t.bus = ⟨false, 0⟩ ∧ tqTail t n = w.toNat % 256 ∧
      ((mrcGet s n).state = 5 → (tqHead s n + 1) % tqSize s n ≠ w.toNat % 256 % tqSize s n → (mrcGet s n).nxt = none →
        descCheck (shadowDesc s n) = 0 → (mrcGet t n).state = 2 ∧ (mrcGet t n).act = some (shadowDesc s n))) ∧
  (∀ s (n : Fin 16) w, coreDown s = false → mrcEnabled s n = true →
    ∃ t, exec (.mrcEnWrite w) s = .next t ∧ mrcEnabled t n = bitN w.toNat n ∧
      (bitN w.toNat n = true → mrcGet t n = mrcGet s n) ∧
      (bitN w.toNat n = false → (mrcGet s n).state = 2 → mrcGet t n = { mrcGet s n with stop := true }))

/-- A Millrace copy within system SRAM moves exactly its bytes (derived; R355, R356, R357, R365, R366). A copy in progress from SRAM
to SRAM, both ranges in usable banks, neither overlapping the other nor the record slot that its load has taken, completes at
DESCRIPTOR_DONE: every destination byte holds what the source byte held, the record of the channel carries OK and the length, and
every byte outside the destination range and the record slot reads as before. (An armed shadow that would be refused next, with a
record of its own, is left out.) That a descriptor moves at one moment is the model's choice (log entry 112). -/
def Obligations.CopiesMoveTheirBytes : Prop :=
  ∀ s (n : Fin 16), coreDown s = false → (mrcGet s n).state = 2 → ∀ d, (mrcGet s n).act = some d → descCheck d = 0 → descType d = 0 →
    descSfix d = false → descDfix d = false → fldGet s Reg.BIST_UNUSABLE F.BIST_UNUSABLE_SRAM = 0 →
    ((mrcGet s n).armed = false ∨ descCheck (shadowDesc s n) = 0) →
    sramBase ≤ (mrcGet s n).slot.1 → (mrcGet s n).slot.1 + 16 ≤ sramBase + sramSize →
    sramBase ≤ d.src.toNat → d.src.toNat + d.len.toNat ≤ sramBase + sramSize → sramBase ≤ d.dst.toNat →
    d.dst.toNat + d.len.toNat ≤ sramBase + sramSize →
    (d.src.toNat + d.len.toNat ≤ d.dst.toNat ∨ d.dst.toNat + d.len.toNat ≤ d.src.toNat) →
    (let slot := (mrcGet s n).slot.1
     (slot + 16 ≤ d.dst.toNat ∨ d.dst.toNat + d.len.toNat ≤ slot) →
     ∃ t, exec (.descriptorDone n) s = .next t ∧
       (∀ k, k < d.len.toNat → memByte t.mem (d.dst.toNat + k) = memByte s.mem (d.src.toNat + k)) ∧
       memBytes t.mem slot 16 = recordBytes n (descTag d) 0 d.len.toNat s.tb (descInt d) ∧
       ∀ a, (a < d.dst.toNat ∨ d.dst.toNat + d.len.toNat ≤ a) → (a < slot ∨ slot + 16 ≤ a) → memByte t.mem a = memByte s.mem a)

/-- A check-value unit processes its data writes lowest byte first, and its reset settings give CRC-32 (derived; R368, R369, R370,
R371). CRC_INIT loads INIT into the running value and CRC_VAL_WRITE sets it, both cut to the width. A data write to an enabled
unit processes its 8, 16 or 32 low bits lowest byte first into the running value, and changes no other register; to a disabled
unit it is a bus error without effect. The settings of R371 give the check values 0xCBF43926 and 0xE3069283 over "123456789". -/
def Obligations.CheckUnitsComputeTheirCrc : Prop :=
  (∀ s (n : Fin 4) w, coreDown s = false →
    (∃ t, exec (.crcInit n) s = .next t ∧ t.bus = ⟨false, 0⟩ ∧ crcVal t n = crcCut s n (regGet s (Reg.CRC_INIT n)) ∧
      ∀ a, a ≠ Reg.CRC_VAL n → regGet t a = regGet s a) ∧
    (∃ t, exec (.crcValWrite n w) s = .next t ∧ t.bus = ⟨false, 0⟩ ∧ crcVal t n = w.toNat % 2 ^ crcWidth s n ∧
      ∀ a, a ≠ Reg.CRC_VAL n → regGet t a = regGet s a)) ∧
  (∀ s (n : Fin 4) (w : Word), coreDown s = false →
      ∀ p, p ∈ [(Instr.crcData8 n (w.setWidth 8), 1), (.crcData16 n (w.setWidth 16), 2), (.crcData32 n w, 4)] →
    (fldGet s (Reg.CRC_CFG n) F.CRC_CFG_EN = 1 →
      ∃ t, exec p.1 s = .next t ∧ t.bus = ⟨false, 0⟩ ∧
        crcVal t n = crcRun (crcWidth s n) (crcCut s n (regGet s (Reg.CRC_POLY n))) (fldGet s (Reg.CRC_CFG n) F.CRC_CFG_REFIN = 1)
          (crcVal s n) (leBytes p.2 w.toNat) ∧
        ∀ a, a ≠ Reg.CRC_VAL n → regGet t a = regGet s a) ∧
    (fldGet s (Reg.CRC_CFG n) F.CRC_CFG_EN = 0 →
      ∃ t, exec p.1 s = .next t ∧ t.bus = ⟨true, 0⟩ ∧ t.regs = s.regs ∧ t.mem = s.mem)) ∧
  (∀ s (n : Fin 4), fldGet s (Reg.CRC_CFG n) F.CRC_CFG_WIDTH = 31 → fldGet s (Reg.CRC_CFG n) F.CRC_CFG_REFIN = 1 →
      fldGet s (Reg.CRC_CFG n) F.CRC_CFG_REFOUT = 1 → regGet s (Reg.CRC_XOROUT n) = 0xFFFFFFFF →
      regGet s (Reg.CRC_POLY n) = 0x04C11DB7 →
      regGet s (Reg.CRC_VAL n) = BitVec.ofNat 32 (crcRun (crcWidth s n) (crcCut s n (regGet s (Reg.CRC_POLY n)))
        (fldGet s (Reg.CRC_CFG n) F.CRC_CFG_REFIN = 1) 0xFFFFFFFF [0x31, 0x32, 0x33, 0x34, 0x35, 0x36, 0x37, 0x38, 0x39]) →
    crcRes s n = 0xCBF43926) ∧
  crc32c [0x31, 0x32, 0x33, 0x34, 0x35, 0x36, 0x37, 0x38, 0x39] = 0xE3069283

/-- A start runs its steps with the kill line asserted, and BIST decides what becomes of the part (derived; R374, R375, R378, R380,
R381, R382, R383, R385, R386, R454). COLD_START enters SELF-TEST with outputs off, memory undefined and one more start counted;
under TMODE it stays in POWER-UP. BIST_COMPLETE sets BIST_STATUS: an attempt outside 0.77 V to 0.83 V or ±1 % waits 10 ms for
BIST_RETRY, at most three times; a failed essential block ends in SAFE-STOPPED with the kill line held; the halt policy holds the
part in reset; else memory reads 0, failing blocks are marked and the slot step follows. STARTUP_COMPLETE enters SAFE-STOPPED on
the newer intact slot, or on none. A wake from SLEEP keeps memory. Deferred lamp tests, after 1 ms of 11.5 V to 31.0 V, and
background slices mark what fails; a fault in SRAM bank 0 is fatal. What is one command of a start, the bits of BIST_STATUS, the
bounds of an attempt, the median of four readings and when and how often slices run are the model's readings (log entries 118,
119, 180, 200, 121 and 201). -/
def Obligations.StartsRunTheirSteps : Prop :=
  (∀ s resetN (aon : Fin 3) n c, (resetN = true → s.pwr.resetLow = true) →
    ∃ t, exec (.coldStart resetN aon n c) s = .next t ∧ killAsserted t = true ∧ t.sout.applied = 0 ∧ t.mem.cells = [] ∧
      t.pending = s.pending ∧ t.flash = s.flash ∧
      (majority n.tmode = false → t.dev = .selfTest ∧ t.pwr.stage = 1 ∧ faultLow t = true) ∧
      (majority n.tmode = true → t.dev = .powerUp ∧ t.kill.hold = true) ∧
      (s.pwr.hibWake = false → t.tb = 0) ∧ (aon.val = 0 → t.summit.boot = s.summit.boot + 1) ∧ (aon.val ≠ 0 → t.summit.boot = 1)) ∧
  (∀ s c, ∃ t, exec (.resetAssert c) s = .next t ∧ t.dev = .powerUp ∧ coreDown t = true ∧ killAsserted t = true ∧ t.sout.applied = 0 ∧
    t.tb = 0 ∧ t.mem.cells = [] ∧ t.flash = s.flash ∧ t.summit = s.summit) ∧
  (∀ s (mv err tm : BitVec 16) ess (v0 v1 vs : BitVec 16) g m, coreDown s = false → s.dev = .selfTest → s.pwr.stage = 1 →
    (bistValid mv.toNat err.toNat = decide (770 ≤ mv.toNat ∧ mv.toNat ≤ 830 ∧ -100 ≤ err.toInt ∧ err.toInt ≤ 100)) ∧
    (bistValid mv.toNat err.toNat = false → s.pwr.retries < 3 →
      ∃ t, exec (.bistComplete mv err tm ess v0 v1 vs g m) s = .next t ∧ t.dev = .selfTest ∧ t.pwr.stage = 2 ∧
        t.pwr.invalidAt = s.tb ∧ fldGet t Reg.BIST_STATUS F.BIST_STATUS_RESULT = 4) ∧
    (bistValid mv.toNat err.toNat = false → 3 ≤ s.pwr.retries → haltPolicy s = false → ∃ t, exec (.bistComplete mv err tm ess v0 v1 vs g m) s = .next t ∧
      t.dev = .safeStopped ∧ t.kill.hold = true ∧ killAsserted t = true ∧ faultLow t = true ∧ t.sout.applied = 0) ∧
    (bistValid mv.toNat err.toNat = true → s.pwr.wake = false → ess ≠ 0 → haltPolicy s = false →
      ∃ t, exec (.bistComplete mv err tm ess v0 v1 vs g m) s = .next t ∧ t.dev = .safeStopped ∧ killAsserted t = true ∧
        faultLow t = true ∧ t.slots = s.slots ∧ fldGet t Reg.BIST_STATUS F.BIST_STATUS_RESULT = 3 ∧
        fldGet t Reg.BIST_STATUS F.BIST_STATUS_ESSENTIAL = ess.toNat % 64) ∧
    (bistValid mv.toNat err.toNat = true → s.pwr.wake = false → (ess ≠ 0 ∨ anyMark (withGaps m g) = true) → haltPolicy s = true →
      ∃ t, exec (.bistComplete mv err tm ess v0 v1 vs g m) s = .next t ∧ t.dev = .selfTest ∧ coreDown t = true ∧ killAsserted t = true ∧
        t.summit.fatal = 0x1001) ∧
    (bistValid mv.toNat err.toNat = true → s.pwr.wake = false → ess = 0 → (haltPolicy s = false ∨ anyMark (withGaps m g) = false) →
      ∃ t, exec (.bistComplete mv err tm ess v0 v1 vs g m) s = .next t ∧ t.dev = .selfTest ∧ (∀ a, memByte t.mem a = 0) ∧
        t.pwr.stage = (if lcState s = 0 ∨ lcState s = 5 then 5 else 3) ∧
        (anyMark (withGaps m g) = true → fldGet t Reg.BIST_STATUS F.BIST_STATUS_RESULT = 2) ∧
        (∀ k, k < 24 → bitN m.outs k = true → bitN (regGet t Reg.BIST_OUT_UNUSABLE).toNat k = true) ∧
        (∀ k, k < 8 → bitN m.ins k = true → bitN (regGet t Reg.BIST_IN_UNUSABLE).toNat k = true) ∧
        (∀ k, k < 4 → gapsFail g k = true → bitN (fldGet t Reg.BIST_UNUSABLE F.BIST_UNUSABLE_ADC) k = true) ∧
        t.pwr.defer0 = decide (v0.toNat < 11000) ∧ t.pwr.defer1 = decide (v1.toNat < 11000) ∧ t.pwr.deferM = decide (vs.toNat < 11000)) ∧
    (bistValid mv.toNat err.toNat = true → s.pwr.wake = true → ess &&& 0x25 = 0 → haltPolicy s = false →
      ∃ t, exec (.bistComplete mv err tm ess v0 v1 vs g m) s = .next t ∧ t.dev = .selfTest ∧ t.mem = s.mem ∧
        t.pwr.stage = (if lcState s = 0 ∨ lcState s = 5 then 5 else 3) ∧ t.pwr.defer0 = s.pwr.defer0 ∧ t.pwr.defer1 = s.pwr.defer1 ∧
        t.pwr.deferM = s.pwr.deferM ∧ ∀ k, k < 24 → bitN m.outs k = true → bitN (regGet t Reg.BIST_OUT_UNUSABLE).toNat k = true) ∧
    (bistValid mv.toNat err.toNat = true → s.pwr.wake = true → ess &&& 0x25 ≠ 0 → haltPolicy s = false →
      ∃ t, exec (.bistComplete mv err tm ess v0 v1 vs g m) s = .next t ∧ t.dev = .safeStopped ∧ killAsserted t = true ∧ faultLow t = true ∧
        fldGet t Reg.BIST_STATUS F.BIST_STATUS_RESULT = 3)) ∧
  (∀ s, coreDown s = false → s.dev = .selfTest → s.pwr.stage = 2 → s.pwr.invalidAt + 1000000 ≤ s.tb →
    ∃ t, exec .bistRetry s = .next t ∧ t.pwr.stage = 1 ∧ t.pwr.retries = s.pwr.retries + 1 ∧
      fldGet t Reg.BIST_STATUS F.BIST_STATUS_RESULT = 0 ∧ fldGet t Reg.BIST_STATUS F.BIST_STATUS_RETRIES = (s.pwr.retries + 1) % 4) ∧
  (∀ s eq pin pat l n, coreDown s = false → s.dev = .selfTest → s.pwr.stage = 3 →
    let k := bootChoice s
    (k < 2 → sectionOf (slotBody (slotBytes s k)) 7 = none) →
    ∃ t, exec (.startupComplete eq pin pat l n) s = .next t ∧ t.dev = .safeStopped ∧ t.pwr.stage = 4 ∧ t.slots.booted = k ∧
      t.slots.needHigh = pin ∧ t.kill = s.kill ∧ (k < 2 → t.slots.crc = hdrCrc (slotBytes s k))) ∧
  (∀ s (lo hi : BitVec 16) (strs : BitVec 32) mtx, coreDown s = false → started s.dev = true → s.dev ≠ .faulted →
      11500 ≤ lo.toNat → hi.toNat ≤ 31000 →
    (s.pwr.defer0 = true → ∃ t, exec (.deferredLampTest 0 lo hi strs mtx) s = .next t ∧ t.pwr.defer0 = false ∧
      ∀ n, n < 32 → bankOfString n = 0 → bitN strs.toNat n = true → bitN (regGet t Reg.BIST_STR_UNUSABLE).toNat n = true) ∧
    (s.pwr.defer1 = true → ∃ t, exec (.deferredLampTest 1 lo hi strs mtx) s = .next t ∧ t.pwr.defer1 = false ∧
      ∀ n, n < 32 → bankOfString n = 1 → bitN strs.toNat n = true → bitN (regGet t Reg.BIST_STR_UNUSABLE).toNat n = true) ∧
    (s.pwr.deferM = true → ∃ t, exec (.deferredLampTest 2 lo hi strs mtx) s = .next t ∧ t.pwr.deferM = false ∧
      (mtx = true → bitN (regGet t Reg.BIST_UNUSABLE).toNat 5 = true))) ∧
  (∀ s (k : Fin 3) (lo hi : BitVec 16) strs mtx, Settled s → (lo.toNat < 11500 ∨ 31000 < hi.toNat) →
    exec (.deferredLampTest k lo hi strs mtx) s = .next s) ∧
  (∀ s k fails, coreDown s = false → slicesRun s = true → sliceReady s k = true →
    ∃ t, exec (.bgSlice k fails) s = .next t ∧
      (k ≠ .spareStart → slicesRan s + 1 < sliceTotal s →
        fldGet t Reg.BIST_BG_STAT F.BIST_BG_STAT_PROGRESS = (slicesRan s + 1) * 100 / sliceTotal s ∧
        (k ≠ .spare ∨ fails = false → slicesRan t = slicesRan s + 1)) ∧
      (k ≠ .spareStart → sliceTotal s ≤ slicesRan s + 1 →
        fldGet t Reg.BIST_BG_STAT F.BIST_BG_STAT_PROGRESS = 0 ∧ t.ports.bgRan = [] ∧
        fldGet t Reg.BIST_BG_STAT F.BIST_BG_STAT_CYCLES = satAdd 16 (fldGet s Reg.BIST_BG_STAT F.BIST_BG_STAT_CYCLES) 1) ∧
      (fails = true →
        (∀ b x, k = .sram b x → (b = 0 → t.dev = .faulted ∧ t.sout.applied = 0) ∧
          (b ≠ 0 → bitN (regGet t Reg.BIST_UNUSABLE).toNat (8 + b.val) = true ∧ t.dev ≠ .run)) ∧
        (∀ b x, k = .ret b x → bitN (regGet t Reg.BIST_UNUSABLE).toNat (16 + b.val) = true ∧ t.dev ≠ .run) ∧
        (∀ i, k = .input i → bitN (regGet t Reg.BIST_IN_UNUSABLE).toNat (i.val / 16) = true ∧ t.dev ≠ .run) ∧
        (∀ c, k = .output c → bitN (regGet t Reg.BIST_OUT_UNUSABLE).toNat c.val = true ∧ t.dev ≠ .run) ∧
        (∀ n, k = .adc n → bitN (fldGet t Reg.BIST_UNUSABLE F.BIST_UNUSABLE_ADC) n.val = true ∧ t.dev ≠ .run) ∧
        (k = .spare → t.sle.lane1 = 2 ∧ (s.sle.hasImage = true → t.dev ≠ .run))))

/-- Test access follows the life cycle, a scan wipes the part first, and the life cycle only advances (derived; R376, R377, R388,
R389, R390, R391, R392, R439). An available JTAG instruction is put in force, any other selects BYPASS. SCAN_REQ in FACTORY or RMA
with permission asserts the kill line, leaves the running states and starts the wipe; elsewhere it does nothing but select BYPASS.
WIPE_COMPLETE clears the key shadow, the memories and the engine state, and enables scan. LC_REQUEST accepts only a forward step
whose condition holds in SAFE-STOPPED, and waits; LC_CONFIRM_TIMEOUT drops it after 60 s; LC_PROGRAM_DONE takes the steps and
starts the part again. FUSE_PROG programs BLANK to FACTORY. How a confirmation is waited for and what a wipe clears are the
model's readings (log entries 98 and 131). -/
def Obligations.LifeCycleAndTestAccess : Prop :=
  (∀ s c code, coreDown s = false →
      (c, code) ∈ [(Instr.idcode, 0x01), (.bypass, 0xFF), (.samplePreload, 0x02), (.extest, 0x03), (.mgmtDbg, 0x30)] →
    ∃ t, exec c s = .next t ∧ t.ports.ir = (if jtagAvailable s code = true then code else 0xFF) ∧
      (code = 0x01 → t.ports.dr = (idcode s).toNat) ∧ t.regs = s.regs ∧ t.dev = s.dev ∧ t.mem = s.mem ∧ t.otp = s.otp) ∧
  (∀ s, coreDown s = false →
    (scanAllowed s = true → s.ports.wiped = false →
      ∃ t, exec .scanReq s = .next t ∧ t.kill.scan = true ∧ killAsserted t = true ∧ t.sout.applied = 0 ∧ active t.dev = false ∧
        t.ports.wiping = true ∧ t.ports.scanUsed = s.ports.scanUsed) ∧
    (scanAllowed s = false → ∃ t, exec .scanReq s = .next t ∧ t.kill = s.kill ∧ t.dev = s.dev ∧ t.ports.ir = 0xFF ∧
      t.ports.wiping = s.ports.wiping ∧ t.otp = s.otp)) ∧
  (∀ s, coreDown s = false → s.ports.wiping = true →
    ∃ t, exec .wipeComplete s = .next t ∧ t.otp.key = [] ∧ (∀ a, memByte t.mem a = 0) ∧ t.jrn.ring = [] ∧ t.sle.cairn = [] ∧
      t.ports.wiped = true ∧ t.ports.scanUsed = true ∧ t.otp.lc = s.otp.lc ∧ t.flash = s.flash) ∧
  (∀ s, coreDown s = false → s.otp.lcProg = none → s.otp.cmd = none →
    ∃ t, exec .fuseProg s = .next t ∧ t.otp.lcProg = (if lcState s = 0 then some 1 else none) ∧ t.otp.lc = s.otp.lc) ∧
  (∀ s (x : Fin 8), coreDown s = false → servesWrites s = true → s.od.mgmt = none → 2 ≤ x.val → x.val ≤ 5 →
    (lcState s < x.val → lcCondition s x.val = true → s.dev = .safeStopped → s.kill.scan = false → s.ports.scanUsed = false →
        s.otp.cmd = none → s.otp.lcProg = none → s.od.lcReq = none →
      ∃ t, exec (.lcRequest x) s = .next t ∧ t.od.lcReq = some (x.val, s.tb) ∧ t.otp = s.otp) ∧
    ((x.val ≤ lcState s ∨ lcCondition s x.val = false ∨ s.dev ≠ .safeStopped ∨ s.otp.cmd.isSome = true ∨ s.ports.scanUsed = true) →
      ∃ t, exec (.lcRequest x) s = .next t ∧ t.od = s.od ∧ t.otp = s.otp)) ∧
  (∀ s, coreDown s = false → ∀ q, s.od.lcReq = some q →
    ∃ t, exec .lcConfirmTimeout s = .next t ∧ t.otp = s.otp ∧
      t.od.lcReq = (if q.2 + 6000000000 < s.tb then none else some q)) ∧
  (∀ s n, coreDown s = false → s.otp.lc = (rowNormal s fuseRow).toNat % 2 ^ 10 → n.wear = [] → s.otp.cmd = none →
      ∀ x, s.otp.lcProg = some x → lcState s < x → x ≤ 5 → majority n.tmode = false →
    ∃ t, exec (.lcProgramDone n) s = .next t ∧ lcState t = x ∧ t.otp.lcProg = none ∧ t.dev = .selfTest ∧ t.sout.applied = 0)

/-- A fuse command programs only what is permitted, never clears a cell, and reports its result (derived; R397, R399, R400, R401,
R402, R403, R404, R407). GO, WLOCK, RLOCK, ODO_INC and MSCAN start their command, with BUSY; while one runs they set REFUSED and
start nothing. OTP_COMMAND_DONE never clears a cell: a word that is permitted and not locked gets the requested bits in both
cells, with the result of R402; a locked region answers LOCKED, a state that does not permit it STATE, and nothing is programmed;
a lock acts at once on its region alone, with the result of its cells; an odometer counts by one, and answers RANGE at its length;
MSCAN counts the marginal words. A word or field whose cells a margin slice finds changed keeps its value in use, with the alarm
of its region, and a marginal word is known after it. The places of the wired row and how long a value stays in use are the
model's (log entries 199 and 117). -/
def Obligations.FusesAreProgrammedForGood : Prop :=
  (∀ s c kind, coreDown s = false → (c, kind) ∈ [(Instr.otpProgram, 0), (.wlock, 1), (.rlock, 2), (.odoInc, 3), (.mscan, 4)] →
    (s.otp.cmd = none →
      ∃ t, exec c s = .next t ∧ t.bus = ⟨false, 0⟩ ∧ fldGet t Reg.OTP_PROG_STAT F.OTP_PROG_STAT_RESULT = 1 ∧
        fldGet t Reg.OTP_STATUS F.OTP_STATUS_BUSY = 1 ∧
        t.otp = { s.otp with cmd := some ⟨kind, fldGet s Reg.OTP_PROG_ADDR F.OTP_PROG_ADDR_REGION,
          fldGet s Reg.OTP_PROG_ADDR F.OTP_PROG_ADDR_WORD, (regGet s Reg.OTP_PROG_DATA).toNat⟩ }) ∧
    (s.otp.cmd.isSome = true →
      ∃ t, exec c s = .next t ∧ t.otp = s.otp ∧ fldGet t Reg.OTP_PROG_STAT F.OTP_PROG_STAT_REFUSED = 1)) ∧
  (∀ s a b wa wb, coreDown s = false → ∀ c, s.otp.cmd = some c →
    ∃ t, exec (.otpCommandDone a b wa wb) s = .next t ∧ t.otp.cmd = none ∧ fldGet t Reg.OTP_STATUS F.OTP_STATUS_BUSY = 0 ∧
      (∀ row, cell t.otp.cellA row &&& cell s.otp.cellA row = cell s.otp.cellA row ∧
        cell t.otp.cellB row &&& cell s.otp.cellB row = cell s.otp.cellB row) ∧
      (c.kind = 0 → goPermitted s c.region c.word = true → wlocked s c.region = false →
        (let row := otpRow s c.region c.word
         let need := BitVec.ofNat 32 c.data &&& ~~~(rowNormal s row)
         fldGet t Reg.OTP_PROG_STAT F.OTP_PROG_STAT_RESULT = otpResult need a b ∧
           cell t.otp.cellA row = cell s.otp.cellA row ||| (need &&& (a ||| wa)) ∧
           cell t.otp.cellB row = cell s.otp.cellB row ||| (need &&& (b ||| wb)) ∧
           ∀ r, r ≠ row → cell t.otp.cellA r = cell s.otp.cellA r ∧ cell t.otp.cellB r = cell s.otp.cellB r)) ∧
      (c.kind = 0 → goPermitted s c.region c.word = true → wlocked s c.region = true →
        fldGet t Reg.OTP_PROG_STAT F.OTP_PROG_STAT_RESULT = 5 ∧ t.otp = { s.otp with cmd := none }) ∧
      ((c.kind = 0 ∧ goPermitted s c.region c.word = false ∨ (c.kind = 1 ∨ c.kind = 2) ∧ otpPermitted s c.region = false) →
        fldGet t Reg.OTP_PROG_STAT F.OTP_PROG_STAT_RESULT = 6 ∧ t.otp = { s.otp with cmd := none }) ∧
      ((c.kind = 1 ∨ c.kind = 2) → otpPermitted s c.region = true → c.region < 16 →
        (let need := BitVec.ofNat 32 (3 * 4 ^ c.region)
         fldGet t Reg.OTP_PROG_STAT F.OTP_PROG_STAT_RESULT = otpResult need a b ∧
         fldGet t Reg.OTP_PROG_STAT F.OTP_PROG_STAT_WEAK = bitCount (need &&& ~~~a) + bitCount (need &&& ~~~b) ∧
         (need &&& (a ||| b) ≠ 0 → (if c.kind = 1 then wlocked t c.region else rlocked t c.region) = true) ∧
         ∀ r, r < 16 → (r ≠ c.region ∨ c.kind = 2 → wlocked t r = wlocked s r) ∧ (r ≠ c.region ∨ c.kind = 1 → rlocked t r = rlocked s r))) ∧
      (c.kind = 3 → (lcState s = 2 ∨ lcState s = 3) → odoValue s (c.word % 4) = odoLen s (c.word % 4) →
        fldGet t Reg.OTP_PROG_STAT F.OTP_PROG_STAT_RESULT = 7 ∧ t.otp = { s.otp with cmd := none }) ∧
      (c.kind = 3 → (lcState s = 2 ∨ lcState s = 3) → 2 ^ 31 ≤ odoWord s (c.word % 4) →
        odoValue s (c.word % 4) < odoLen s (c.word % 4) → odoFirst s (c.word % 4) + odoValue s (c.word % 4) ≤ 863 →
        s.otp.held = [] → a = 0xFFFFFFFF → b = 0xFFFFFFFF →
        fldGet t Reg.OTP_PROG_STAT F.OTP_PROG_STAT_RESULT = 2 ∧ odoValue t (c.word % 4) = odoValue s (c.word % 4) + 1) ∧
      (c.kind = 4 → fldGet t Reg.OTP_PROG_STAT F.OTP_PROG_STAT_MARG = marginalIn s c.region ∧ t.otp = { s.otp with cmd := none })) ∧
  (∀ s (g : Fin 137) ws fails, coreDown s = false → slicesRun s = true → s.otp.cmd = none → s.ports.scanUsed = false →
      sliceReady s (.otp g ws) = true →
    ∃ t, exec (.bgSlice (.otp g ws) fails) s = .next t ∧ (∀ r : Fin 16, ∀ w, w < 32 → otpWord t r w = otpWord s r w) ∧
      (∀ k, k < 4 → ∀ w, rowWord s (4 * g.val + k) = some w →
        (w < 512 → rowNormal t (4 * g.val + k) ≠ rowNormal s (4 * g.val + k) → bitN (regGet t Reg.OTP_ALARM).toNat (w / 32) = true) ∧
        (rowMarginal t (4 * g.val + k) = true → w ∈ t.otp.known)) ∧
      t.otp.wlock = s.otp.wlock ∧ t.otp.rlock = s.otp.rlock ∧ t.otp.lc = s.otp.lc)

/-- Requests for DOZE and RUN take effect at once, those for SLEEP and HIBERNATE after every block has stopped, or not at all
(derived; R381, R410, R411, R412, R413, R414, R415, R416, R424, R425, R437, R438). REQ_DOZE and REQ_RUN change the power state
where writes are served and no transition runs; a write of PWR_REQ that is refused sets REQ_REF. A REQ_SLEEP or REQ_HIBERNATE,
accepted before or by its own write of PWR_REQ, that no block refuses ends with the core down, the outputs off and, in SLEEP,
retention banks 1 to 3 kept and the registers of R416 saved; a refusing block leaves the part in RUN with its code in
PWR_SLEEP_ABORT. REGULATOR_ACK_TIMEOUT repeats the command three times, then refuses with 0x0C. CLOCK_GATE gates an idle block in
DOZE only. CORE_SUPPLY is fatal; PMBUS_STATUS_POLL stores the word or counts a missing acknowledgement. How a request waits and
stops the blocks, and when a block is idle, are the model's readings (log entries 122, 206, 183 and 182). -/
def Obligations.PowerStatesFollowRequests : Prop :=
  (∀ s c dst (x : BitVec 16), coreDown s = false → (c, dst) ∈ [(Instr.reqDoze false x, 1), (.reqDoze true x, 1), (.reqRun false x, 0), (.reqRun true x, 0)] →
    (servesWrites s = true → inTransition s = false →
      ∃ t, exec c s = .next t ∧ t.pwr.state = dst ∧ t.dev = s.dev ∧ t.regs = s.regs ∧ (s.pwr.state = dst → t.pwr = s.pwr ∧ t.jrn = s.jrn) ∧
        (s.pwr.state ≠ dst → s.jrn.queue.length < 64 → t.jrn.queue.map Event.code = s.jrn.queue.map Event.code ++ [0x3003])) ∧
    ((servesWrites s = false ∨ inTransition s = true) →
      ∃ t, exec c s = .next t ∧ t.pwr = s.pwr ∧ t.dev = s.dev ∧
        ((c = .reqDoze true x ∨ c = .reqRun true x) → s.pwr.state ≠ dst ∨ inTransition s = true →
          fldGet t Reg.PWR_STATUS F.PWR_STATUS_REQ_REF = 1))) ∧
  (∀ s spi us page, coreDown s = false → s.pwr.entering = none → s.dev = .safeStopped →
      ∀ p, p ∈ [(2, Instr.reqSleep spi us page true), (3, .reqHibernate spi us page true)] →
    ((spi = false ∧ s.pwr.req.map Prod.fst = some p.1 ∧ s.pwr.woken = false) ∨ (spi = true ∧ pwrAccepts s p.1 = true)) →
    (s.slots.commit ≠ 2 ∧ s.slots.commit ≠ 4) →
    let dst := p.1
    let c := p.2
    (refusingBlock s = 0 →
      ∃ t, exec c s = .next t ∧ t.pwr.state = dst ∧ coreDown t = true ∧ t.pwr.req = none ∧ t.sout.applied = 0 ∧ t.tb = s.tb ∧
        t.summit.tbEntry = s.tb ∧ t.summit.rtcEntry = rtcCount s ∧
        (∀ a, isPwrReg a = false → isBistReg a = false → regGet t a = resetWord a) ∧
        (dst = 2 → t.pwr.saved = savedRegs s ∧ ∀ a, inRet a = true → retBank a ≠ 0 → memByte t.mem a = memByte s.mem a) ∧
        (dst = 3 → t.pwr.saved = [])) ∧
    (refusingBlock s ≠ 0 →
      ∃ t, exec c s = .next t ∧ t.pwr.state = 0 ∧ t.pwr.req = none ∧ t.dev = s.dev ∧ t.mem = s.mem ∧
        fldGet t Reg.PWR_STATUS F.PWR_STATUS_ABORT = 1 ∧ fldGet t Reg.PWR_SLEEP_ABORT F.PWR_SLEEP_ABORT_BLOCK = refusingBlock s ∧
        fldGet t Reg.PWR_SLEEP_ABORT F.PWR_SLEEP_ABORT_CNT = satAdd 16 (fldGet s Reg.PWR_SLEEP_ABORT F.PWR_SLEEP_ABORT_CNT) 1)) ∧
  (∀ s, ∀ dst, s.pwr.entering = some dst → s.dev ≠ .faulted →
    (s.pwr.woken = false → ∃ t, exec (.regulatorAckTimeout true) s = .next t ∧ t.pwr.state = dst ∧ t.pwr.entering = none ∧ t.sout.applied = 0) ∧
    (s.pwr.acks < 3 → ∃ t, exec (.regulatorAckTimeout false) s = .next t ∧ t.dev = s.dev ∧
      t.pwr = { s.pwr with acks := s.pwr.acks + 1, pmb := t.pwr.pmb } ∧ t.pwr.pmb.map (fun c => (c.cmd, c.data)) = [(0x01, 0)]) ∧
    (3 ≤ s.pwr.acks → ∃ t, exec (.regulatorAckTimeout false) s = .next t ∧ t.pwr.state = 0 ∧ t.pwr.entering = none ∧ t.dev = s.dev ∧
      fldGet t Reg.PWR_SLEEP_ABORT F.PWR_SLEEP_ABORT_BLOCK = 0xC)) ∧
  (∀ s (b : Fin 62), coreDown s = false →
    (s.pwr.state = 1 → blockIdle s b.val = true →
      ∃ t, exec (.clockGate b) s = .next t ∧ bitN t.pwr.gated b.val = true ∧ t.regs = s.regs ∧ t.dev = s.dev) ∧
    ((s.pwr.state ≠ 1 ∨ blockIdle s b.val = false) → ∃ t, exec (.clockGate b) s = .next t ∧ t.pwr = s.pwr)) ∧
  (∀ s low mv, coreDown s = false → s.dev ≠ .powerUp → s.dev ≠ .faulted →
    ∃ t, exec (.coreSupply low mv) s = .next t ∧ t.dev = .faulted ∧ killAsserted t = true ∧ t.sout.applied = 0 ∧ t.summit.fatal = 0x3005) ∧
  (∀ s, coreDown s = false → started s.dev = true →
    (∃ t, exec (.pmbusStatusPoll none) s = .next t ∧ (s.pwr.state < 2 → t.pwr.pmb.map (fun c => c.cmd) = [0x79]) ∧
      fldGet t Reg.HOST_PMB_STAT F.HOST_PMB_STAT_NACK = satAdd 16 (fldGet s Reg.HOST_PMB_STAT F.HOST_PMB_STAT_NACK) 1) ∧
    ∀ w : BitVec 16, ∃ t, exec (.pmbusStatusPoll (some w)) s = .next t ∧ fldGet t Reg.HOST_PMB_STAT F.HOST_PMB_STAT_WORD = w.toNat ∧
      (w &&& 0xC804 = 0 → t.jrn = s.jrn))

/-- A wake event starts the wake sequence, whose steps follow each other, fail and are repeated as R421 says (derived; R382, R415,
R416, R418, R419, R420, R421, R422, R423, R424, R425). WAKE_EVENT of an enabled source is latched: in SLEEP and HIBERNATE it
starts the sequence, in a transition it is only recorded, in DOZE it returns to RUN; a disabled source does nothing.
WAKE_STEP_READY moves to the next step, the first one only once the supplies are in range; the memory step notes in PWR_RET_FAIL
the banks whose CRC-32C is not the stored one or that are unusable; the logic step enters SELF-TEST in power state RUN with the
outputs off, TB loaded under R424 and the saved registers restored. A wake from HIBERNATE goes on as a cold start that keeps TB.
WAKE_STEP_TIMEOUT sets WAKE_FAIL and switches the regulator off, and WAKE_RETRY repeats the sequence after 100 ms, three times at
most. The order of pending sources, the CRC's bytes and the supplies before the first step are the model's readings (log entries
122, 125 and 183). -/
def Obligations.WakesRunTheirSteps : Prop :=
  (∀ s (c : Fin 11), 1 ≤ c.val →
    (wakeEnabled s c.val = true → 2 ≤ s.pwr.state → inTransition s = false → s.pwr.failAt = none →
      ∃ t, exec (.wakeEvent c) s = .next t ∧ bitN (regGet t Reg.PWR_WAKE_STAT).toNat (c.val - 1) = true ∧ t.pwr.step = 1 ∧
        t.pwr.wakeAt = rtcPos s ∧ t.pwr.state = s.pwr.state) ∧
    (wakeEnabled s c.val = true → inTransition s = true →
      ∃ t, exec (.wakeEvent c) s = .next t ∧ bitN (regGet t Reg.PWR_WAKE_STAT).toNat (c.val - 1) = true ∧
        t.pwr = { s.pwr with woken := true }) ∧
    (wakeEnabled s c.val = true → s.pwr.state = 1 → inTransition s = false →
      ∃ t, exec (.wakeEvent c) s = .next t ∧ t.pwr.state = 0 ∧ t.dev = s.dev ∧
        bitN (regGet t Reg.PWR_WAKE_STAT).toNat (c.val - 1) = true) ∧
    (wakeEnabled s c.val = false → ∃ t, exec (.wakeEvent c) s = .next t ∧ t.pwr = s.pwr ∧ t.regs = s.regs)) ∧
  (∀ s f cb n, s.dev ≠ .faulted →
    (s.pwr.step = 1 → s.kill.supply = false →
      ∃ t, exec (.wakeStepReady f cb n) s = .next t ∧ t.pwr = { s.pwr with step := 2, stepAt := rtcPos s, pmb := t.pwr.pmb } ∧
        t.pwr.pmb.map (fun c => (c.cmd, c.data)) = [(0x21, vout s), (0x01, 0x80)] ∧ t.mem = s.mem) ∧
    (((s.pwr.step = 2 ∧ s.pwr.state ≠ 3) ∨ s.pwr.step = 3) →
      ∃ t, exec (.wakeStepReady f cb n) s = .next t ∧ t.pwr = { s.pwr with step := s.pwr.step + 1, stepAt := rtcPos s } ∧ t.mem = s.mem) ∧
    (s.pwr.step = 1 → s.kill.supply = true → ∃ t, exec (.wakeStepReady f cb n) s = .next t ∧ t.pwr = s.pwr ∧ t.mem = s.mem) ∧
    (s.pwr.step = 2 → s.pwr.state = 3 → ∃ t, exec (.wakeStepReady f cb n) s = .next t ∧ t.pwr = { s.pwr with step := 0, hibWake := true }) ∧
    (s.pwr.step = 4 →
      (let m := f.foldl (fun m p => memSetByte m (retBase + p.1.val) p.2) s.mem
       let fails := fun b => (bankCrcs m).getD b 0 ≠ s.pwr.bankCrc.getD b 0 ∨ retUsable s b = false
       ∃ t, exec (.wakeStepReady f cb n) s = .next t ∧ t.pwr.step = 5 ∧
        (∀ b, b < 4 → (bitN (regGet t Reg.PWR_RET_FAIL).toNat b = true ↔ fails b)) ∧
        (∀ a, inRet a = true → retBank a ≠ 0 → retBank a < 4 →
          memByte t.mem a = (if bitN (regGet t Reg.PWR_RET_FAIL).toNat (retBank a) = true then 0 else memByte m a)) ∧
        t.pwr.saved = (if bitN (regGet t Reg.PWR_RET_FAIL).toNat 0 = true then [] else s.pwr.saved))) ∧
    (s.pwr.step = 5 → cb = false →
      ∃ t, exec (.wakeStepReady f cb n) s = .next t ∧ t.pwr.state = 0 ∧ t.pwr.step = 0 ∧ t.pwr.wake = true ∧ t.sout.applied = 0 ∧
        killAsserted t = true ∧ t.tb = wakeTb s ∧ (majority n.tmode = false → t.dev = .selfTest ∧ t.pwr.stage = 1) ∧
        regGet t Reg.PWR_LAST_WAKE = BitVec.ofNat 32 (lowestWake s) ∧ t.summit.boot = s.summit.boot ∧
        ((s.pwr.saved.map Prod.fst).Nodup → ∀ a, retained a = true → regGet t a = (tabFind s.pwr.saved a).getD (resetWord a)))) ∧
  (∀ s n c, s.pwr.hibWake = true →
    ∃ t, exec (.coldStart false 0 n c) s = .next t ∧ t.tb = wakeTb s ∧ t.summit.boot = s.summit.boot + 1 ∧ t.pwr.hibWake = false ∧
      regGet t Reg.PWR_LAST_WAKE = BitVec.ofNat 32 (lowestWake s) ∧ t.mem.cells = [] ∧ t.sout.applied = 0) ∧
  (∀ s, s.pwr.step ≠ 0 → (s.pwr.step ≠ 1 ∨ s.kill.supply = false) → s.pwr.stepAt + stepMax s.pwr.step ≤ rtcPos s →
    ∃ t, exec .wakeStepTimeout s = .next t ∧ t.pwr.step = 0 ∧ t.pwr.pmb.map (fun c => (c.cmd, c.data)) = [(0x01, 0)] ∧ t.pwr.failAt = some (rtcPos s) ∧ t.pwr.tries = s.pwr.tries + 1 ∧
      fldGet t Reg.PWR_STATUS F.PWR_STATUS_WAKE_FAIL = 1 ∧ t.pwr.state = s.pwr.state) ∧
  (∀ s, ∀ x, s.pwr.failAt = some x → s.pwr.step = 0 →
    (s.pwr.tries ≤ 3 → x + 1280000000 ≤ rtcPos s → ∃ t, exec .wakeRetry s = .next t ∧ t.pwr.step = 1 ∧ t.pwr.tries = s.pwr.tries) ∧
    ((3 < s.pwr.tries ∨ rtcPos s < x + 1280000000) → ∃ t, exec .wakeRetry s = .next t ∧ t.pwr = s.pwr))

/-- The host SPI bridge reads and posts words as R431 and R432 say, and host flash commands touch the host area alone (derived; R429,
R430, R431, R432, R433, R434, R436). A read burst of readable memory answers, for each word, a wait byte, 0x5A and the word; a bus
error answers 0xE7 and zeros. A written word is posted behind the waiting ones, a fifth is dropped with OVF, and a read comes
after the posted writes. An unaligned address sets FORMAT, its reads answer 0xE7 and zeros and its posted words end with ERR; an
unknown command sets FORMAT alone; a broken word sets ABORT, and an access that has started, also the one after the last word
read, takes its effect; a slow access sets TMO. FLASH_PROG and FLASH_ERASE below the host area are DENIED, and a command while one
runs sets REFUSED; FLASH_DONE programs by clearing bits, erases the 64 KiB sector or fills the buffer, or ends with TIMEOUT, and
every other byte of the flash reads as before. The order of reads and posted writes, the read of an unaligned address and the
length of a flash command are the model's readings (log entries 129 and 128). -/
def Obligations.PortsServeTheBoard : Prop :=
  (∀ s (a : Word) n, coreDown s = false → a.toNat % 4 = 0 → s.ports.posted = [] → ∀ c, c ∈ [Instr.spiRead 0x0B a n, .spiQread 0x6B a n] →
    (0 < n → (∀ k, k < n → (inSram (a.toNat + 4 * k) || inRet (a.toNat + 4 * k)) = true ∧ memReadable s (a.toNat + 4 * k) = true) →
      ∃ t, exec c s = .next t ∧ t.mem = s.mem ∧ t.regs = s.regs ∧
        t.ports.miso = (List.range n).flatMap fun k => [0, 0x5A] ++ (leBytes 4 (memWord s.mem (a.toNat + 4 * k))).reverse) ∧
    (n = 1 → ((inSram a.toNat || inRet a.toNat) = false ∧ (inWindow a.toNat = false ∨ regRow a.toNat = none) ∨
        (inSram a.toNat || inRet a.toNat) = true ∧ memReadable s a.toNat = false) →
      ∃ t, exec c s = .next t ∧ t.ports.miso = [0, 0xE7, 0, 0, 0, 0] ∧ t.mem = s.mem)) ∧
  (∀ s (a : Word) w, coreDown s = false → a.toNat % 4 = 0 → ∀ c, c ∈ [Instr.spiWrite 0x02 a [(0, w)], .spiQwrite 0x32 a [(0, w)]] →
    (s.ports.posted.length < 4 → ∃ t, exec c s = .next t ∧ t.ports.posted = s.ports.posted ++ [(a.toNat, w)] ∧ t.mem = s.mem ∧ t.regs = s.regs) ∧
    (4 ≤ s.ports.posted.length → ∃ t, exec c s = .next t ∧ t.ports.posted = s.ports.posted ∧
      fldGet t Reg.HOST_SPI_STAT F.HOST_SPI_STAT_OVF = 1)) ∧
  (∀ s, coreDown s = false → s.ports.posted.length = 1 → ∀ q, s.ports.posted.head? = some q →
    (q.1 % 4 = 0 → inSram q.1 = true → memWritable s .host q.1 = true →
      ∀ c, c ∈ [Instr.spiRead 0x0B (BitVec.ofNat 32 q.1) 1, .spiQread 0x6B (BitVec.ofNat 32 q.1) 1] →
      ∃ t, exec c s = .next t ∧ t.ports.posted = [] ∧ t.ports.miso = [0, 0x5A] ++ (leBytes 4 q.2.toNat).reverse ∧
        memWord t.mem q.1 = q.2.toNat) ∧
    (q.1 % 4 ≠ 0 → ∀ (b : Word) v, b.toNat % 4 = 0 → ∀ c, c ∈ [Instr.spiWrite 0x02 b [(1, v)], .spiQwrite 0x32 b [(1, v)]] →
      ∃ t, exec c s = .next t ∧ t.ports.posted = [(b.toNat, v)] ∧ fldGet t Reg.HOST_SPI_STAT F.HOST_SPI_STAT_ERR = 1 ∧ t.mem = s.mem)) ∧
  (∀ s (a : Word) n w, coreDown s = false → a.toNat % 4 ≠ 0 →
    (s.ports.posted = [] → ∀ c, c ∈ [Instr.spiRead 0x0B a n, .spiQread 0x6B a n] →
      ∃ t, exec c s = .next t ∧ fldGet t Reg.HOST_SPI_STAT F.HOST_SPI_STAT_FORMAT = 1 ∧ t.mem = s.mem ∧
        t.ports.miso = (List.replicate n [0, 0xE7, 0, 0, 0, 0]).flatten) ∧
    (s.ports.posted.length < 4 → ∀ c, c ∈ [Instr.spiWrite 0x02 a [(0, w)], .spiQwrite 0x32 a [(0, w)]] →
      ∃ t, exec c s = .next t ∧ fldGet t Reg.HOST_SPI_STAT F.HOST_SPI_STAT_FORMAT = 1 ∧ t.mem = s.mem ∧
        t.ports.posted = s.ports.posted ++ [(a.toNat, w)])) ∧
  (∀ s, coreDown s = false →
    (∃ t, exec (.spiStatus 0x05) s = .next t ∧ t.ports.miso = [(regView s Reg.HOST_SPI_STAT).setWidth 8] ∧ t.regs = s.regs) ∧
    (∀ c a n m ws, ∃ t, exec (.spiAbort c a n m ws) s = .next t ∧ fldGet t Reg.HOST_SPI_STAT F.HOST_SPI_STAT_ABORT = 1) ∧
    (s.ports.posted = [] → ∀ c, c ∈ [(0x0B : Byte), 0x6B] → ∀ m ws, ∃ t,
      exec (.spiAbort c (BitVec.ofNat 32 Reg.FIO_TP_SKIP) 0 m ws) s = .next t ∧ regGet t Reg.FIO_TP_SKIP = 0 ∧ t.ports.miso = []) ∧
    (∀ w a, a.toNat % 4 = 0 → s.ports.posted.length < 4 → ∀ c, c ∈ [(0x02 : Byte), 0x32] → ∀ n m, ∃ t, exec (.spiAbort c a n m [(0, w)]) s = .next t ∧
      t.ports.posted = s.ports.posted ++ [(a.toNat, w)]) ∧
    (s.ports.posted = [] → ∀ c, c ∈ [Instr.spiRead 0x0B (BitVec.ofNat 32 (Reg.FIO_TP_SKIP - 4)) 1,
        .spiQread 0x6B (BitVec.ofNat 32 (Reg.FIO_TP_SKIP - 4)) 1] → ∃ t, exec c s = .next t ∧ regGet t Reg.FIO_TP_SKIP = 0) ∧
    (∀ c, c ∉ [(0x0B : Byte), 0x6B, 0x02, 0x32, 0x05] → ∀ a n ws x,
        x ∈ [Instr.spiRead c a n, .spiQread c a n, .spiWrite c a ws, .spiQwrite c a ws, .spiStatus c] →
      ∃ t, exec x s = .next t ∧ fldGet t Reg.HOST_SPI_STAT F.HOST_SPI_STAT_FORMAT = 1 ∧ t.ports = s.ports ∧ t.mem = s.mem ∧
        ∀ b, b ≠ Reg.HOST_SPI_STAT → regGet t b = regGet s b) ∧
    (∃ t, exec .spiTimeout s = .next t ∧ fldGet t Reg.HOST_SPI_STAT F.HOST_SPI_STAT_TMO = 1 ∧ t.ports.miso = [0, 0xE7, 0, 0, 0, 0] ∧
      t.mem = s.mem)) ∧
  (∀ s c kind, coreDown s = false → (c, kind) ∈ [(Instr.flashRead, 0), (.flashProg, 1), (.flashErase, 2)] →
    (s.ports.flashCmd = none → (kind = 0 ∨ 0x280000 ≤ flashAddr s) →
      ∃ t, exec c s = .next t ∧ t.bus = ⟨false, 0⟩ ∧ t.flash = s.flash ∧ t.regs = s.regs ∧
        t.ports = { s.ports with flashCmd := some ⟨kind, flashAddr s, flashLen s, (flashBuf s).take (flashLen s)⟩ }) ∧
    (s.ports.flashCmd = none → kind ≠ 0 → flashAddr s < 0x280000 →
      ∃ t, exec c s = .next t ∧ t.ports = s.ports ∧ t.flash = s.flash ∧ fldGet t Reg.HOST_FLASH_STAT F.HOST_FLASH_STAT_RESULT = 1) ∧
    (s.ports.flashCmd.isSome = true →
      ∃ t, exec c s = .next t ∧ t.ports = s.ports ∧ t.flash = s.flash ∧ fldGet t Reg.HOST_FLASH_STAT F.HOST_FLASH_STAT_REFUSED = 1)) ∧
  (∀ s, coreDown s = false → ∀ c, s.ports.flashCmd = some c → s.slots.commit ≠ 2 → s.slots.commit ≠ 4 → 0x280000 ≤ c.addr →
    (∃ t, exec (.flashDone false) s = .next t ∧ t.ports.flashCmd = none ∧ t.flash = s.flash ∧
      fldGet t Reg.HOST_FLASH_STAT F.HOST_FLASH_STAT_RESULT = 2) ∧
    ∃ t, exec (.flashDone true) s = .next t ∧ t.ports.flashCmd = none ∧ fldGet t Reg.HOST_FLASH_STAT F.HOST_FLASH_STAT_RESULT = 0 ∧
      (c.kind = 0 → c.len ≤ 256 → t.flash = s.flash ∧ (flashBuf t).take c.len = (List.range c.len).map fun k => flashByte s (c.addr + k)) ∧
      (c.kind = 1 → ∀ a, flashByte t a = (if c.addr ≤ a ∧ a < c.addr + c.data.length
        then flashByte s a &&& c.data.getD (a - c.addr) 0xFF else flashByte s a)) ∧
      (c.kind = 2 → ∀ a, flashByte t a = (if a / 65536 = c.addr / 65536 then 0xFF else flashByte s a))) ∧
  (∀ s ok, coreDown s = false → (s.slots.commit = 2 ∨ s.slots.commit = 4) →
    ∃ t, exec (.flashDone ok) s = .next t ∧ t.ports = s.ports ∧ t.flash = s.flash ∧ t.regs = s.regs)

/-- No leakage measurement is taken in sag or brown-out, and the counts keep their values (stated; R57). A LEAK_MEASURE of an input
whose bank is in SAG or BROWN-OUT changes nothing, and no command of the field inputs but LEAK_MEASURE changes a leakage value or
a consecutive count: neither the supply levels that the bank enters and leaves nor changes, pulses and windows. -/
def Obligations.MeasurementsWaitForTheSupply : Prop :=
  (∀ s (i : Fin 128) v, Settled s → sagging s (bankOfInput i) = true → exec (.leakMeasure i v) s = .next s) ∧
  (∀ s c t, (∃ b mv f, c = Instr.sagEnter b mv f) ∨ (∃ b mv, c = .sagLeave b mv ∨ c = .brownOutEnter b mv ∨ c = .brownOutLeave b mv ∨
        c = .warnEnter b mv ∨ c = .warnLeave b mv) ∨ (∃ v0 v1, c = .vfieldUpdate v0 v1) ∨ (∃ i on f, c = .filteredChange i on f) ∨
        (∃ n l, c = .testPulseStart n l) ∨ (∃ n, c = .testPulseEnd n) ∨ (∃ n r l m, c = .tpWindowEnd n r l m) →
      exec c s = .next t →
    ∀ i, (inGet t i).undefRun = (inGet s i).undefRun ∧ (inGet t i).warnRun = (inGet s i).warnRun ∧ (inGet t i).leakV = (inGet s i).leakV)

/-- A raw edge on the sample of the pulse start belongs to the pulse window (stated; R54). An input reads low first on the very sample
on which the pulse of its source starts, whether the window opened on that sample or its pulse is still due on it: that low lies
in the window, and until the window's end a FILTERED_CHANGE to OFF for it changes nothing. -/
def Obligations.EdgesAtThePulseStartBelongToTheWindow : Prop :=
  (∀ s (i : Fin 128), Settled s → ∀ n, srcOf s i = some n → ∀ v, (srcGet s n).win = some v →
    ownWindowEnd s i v.1 = some v.2 ∧ (s.tb < v.2 → exec (.filteredChange i false v.1) s = .next s)) ∧
  (∀ s (i : Fin 128), Settled s → ∀ n, srcOf s i = some n → (srcGet s n).win = none → tpDue s n = true →
    ownWindowEnd s i s.tb = some (s.tb + tpWinLen s n) ∧
      (0 < tpWinLen s n → exec (.filteredChange i false s.tb) s = .next s))

/-- A step runs the command at the front of the queue; on an empty queue one tick of time passes (derived; R342, R424). With a command
in front, a step is exec of that command on the state with the queue's rest. With none, a step with a running core and no
correction of TB to serve advances TB by one tick and the RTC by 128 units of 1/128 tick and changes neither the device state nor
the engine; without power in the core, or in reset, only the RTC counts, and while the blocks are stopped for a power transition
TB and the RTC. That an empty queue is one tick is the model's choice (log entry 1). -/
def Obligations.StepRunsTheFrontCommand : Prop :=
  (∀ s c rest, s.pending = c :: rest → step s = exec c { s with pending := rest }) ∧
  (∀ s, s.pending = [] → coreDown s = false → tickCorrection s = 0 → s.ports.posted = [] →
    ∃ t, step s = .next t ∧ t.tb = s.tb + 1 ∧ rtcPos t = rtcPos s + 128 ∧ t.dev = s.dev ∧ t.sle = s.sle ∧ t.mem = s.mem ∧ t.pending = []) ∧
  (∀ s, s.pending = [] → coreDown s = true → coreOffOrReset s = false → tickCorrection s = 0 →
    ∃ t, step s = .next t ∧ t.tb = s.tb + 1 ∧ rtcPos t = rtcPos s + 128 ∧ t.dev = s.dev ∧ t.regs = s.regs ∧ t.mem = s.mem) ∧
  (∀ s, s.pending = [] → coreOffOrReset s = true →
    ∃ t, step s = .next t ∧ t.tb = s.tb ∧ rtcPos t = rtcPos s + 128 ∧ t.dev = s.dev ∧ t.regs = s.regs ∧ t.mem = s.mem)

/-- The machine after reset: every register at its reset value, POWER-UP, the kill line asserted, every output off (derived; R2, R3,
R9, R12, R134, R342, R375). State.reset has an empty queue, TB 0, the device state POWER-UP with SAFE_STATE_N and FAULT_N low and
the kill line asserted, every output off, every register at the reset value of its row, and it meets the invariants: the outputs
follow the lines, and the memory has its canonical form. That TB is 0 and the direct stop pins are low is the model's choice (log
entry 6). -/
def Obligations.ResetLeavesEverythingOff : Prop :=
  State.reset.pending = [] ∧ State.reset.tb = 0 ∧ State.reset.dev = .powerUp ∧ killAsserted State.reset = true ∧
    safeStateLow State.reset = true ∧ faultLow State.reset = true ∧ State.reset.sout.applied = 0 ∧ Settled State.reset ∧
    OutputsFollow State.reset ∧ State.reset.mem.wf = true ∧
    (∀ a r, regRow a = some r → regGet State.reset a = BitVec.ofNat 32 (resetText a r.rst)) ∧
    regGet State.reset Reg.HOST_FLASH_ADDR = 0x00280000 ∧ regGet State.reset (Reg.TMR_PERIOD 5) = 0xFFFFFFFF ∧
    regGet State.reset (Reg.TMR_PRESC 5) = 1 ∧ regGet State.reset Reg.PWR_RTC_ALM_HI = 0xFFFF

/-- After every step the safe outputs are what the lines and the image say; with the kill line or outside the running states all are
off (derived; R9, R12, R131, R134, R149). From every state, a step answers a next state in which each of the 24 channels is on
exactly when every term of R134 holds for it, and settling the outputs again changes nothing. If the kill line is asserted in that
state, or its device state is none of RUN, RECOVERING and DEGRADED, no channel is on. -/
def Obligations.OutputsFollowAfterEveryStep : Prop :=
  ∀ s, ∃ t, step s = .next t ∧ Settled t ∧ OutputsFollow t ∧ ((killAsserted t = true ∨ active t.dev = false) → t.sout.applied = 0)

/-- FAULTED is left only by a reset, and a part begins to drive its outputs only from SAFE-STOPPED (derived; R9, R89, R261). A part in
FAULTED stays there through every command but those that reset or start it. Only a scan start that releases a scan, or the image
comparison that ends a replacement, takes a part into RUN, RECOVERING or DEGRADED from another state, and that state is SAFE-
STOPPED. That the comparison is such an event, under the conditions of a scan start, is the model's reading (log entries 81 and
50). -/
def Obligations.FaultedAndSafeStoppedAreLeftAsStated : Prop :=
  ∀ c s t, exec c s = .next t →
    (s.dev = .faulted → resetsDevice c = false → t.dev = .faulted) ∧
    (active s.dev = false → active t.dev = true → startsDriving c = true ∧ s.dev = .safeStopped)

/-- Every step keeps the memory in its canonical form (derived; R30, R480). If the memory's listed addresses rise strictly and no
entry equals what its address reads as unlisted where that is 0, then the same holds after every step: bus writes, Millrace,
starts, power states, the wipe and the posted writes of a tick. -/
def Obligations.MemoryKeepsItsForm : Prop :=
  ∀ s t, s.mem.wf = true → step s = .next t → t.mem.wf = true

/-- Commands of the field inputs and safe outputs change only their own part of the state (derived; R11, R61, R156). For each command
of the field inputs and of the safe outputs, from a state whose outputs are settled: only the parts of the state that the table
touchesField names for it, and registers of the block windows it names, may differ in the next state. -/
def Obligations.FieldCommandsKeepTheRest : Prop :=
  ∀ c s P W, touchesField c = some (P, W) → Settled s → Leaves P (fun a => a / 65536 ∈ W) c s

/-- Commands of the lamp drive and of lamp proving change only their own part of the state (derived; R11, R180, R208). For each
command of the lamp drive, the aspects and lamp proving, from a state whose outputs are settled: only the parts of the state that
the table touchesLamp names for it, and registers of the block windows it names, may differ in the next state. -/
def Obligations.LampCommandsKeepTheRest : Prop :=
  ∀ c s P W, touchesLamp c = some (P, W) → Settled s → Leaves P (fun a => a / 65536 ∈ W) c s

/-- Commands of the Rope and of the Belay link change only their own part of the state (derived; R11, R233, R266). For each command of
the Rope and of the Belay link, from a state whose outputs are settled: only the parts of the state that the table touchesLink
names for it, and registers of the block windows it names, may differ in the next state. -/
def Obligations.LinkCommandsKeepTheRest : Prop :=
  ∀ c s P W, touchesLink c = some (P, W) → Settled s → Leaves P (fun a => a / 65536 ∈ W) c s

/-- Commands of the engine, the object service, the slots and the journal change only their own part of the state (derived; R11, R129,
R320). For each command of the evaluation engine, the object service, the configuration slots and the journal, from a state whose
outputs are settled: only the parts of the state that the table touchesEngine names for it, and registers of the block windows it
names, may differ in the next state. -/
def Obligations.EngineCommandsKeepTheRest : Prop :=
  ∀ c s P W, touchesEngine c = some (P, W) → Settled s → Leaves P (fun a => a / 65536 ∈ W) c s

/-- Commands of the converters, timers, Millrace, fuses, power states, ports and starts change only their own part of the state
(derived; R11, R340, R353, R372, R408, R427, R441). For each command of the remaining blocks, from a state whose outputs are
settled: only the parts of the state that the table touchesUnit names for it, and registers of the block windows it names, may
differ in the next state; the windows are 0x4000_0000 to 0x4010_FFFF, and no other address holds a register. Of memory, a
doorbell, a fetch and a TAIL write change at most the record slot at HEAD and the one after it, and the end of a descriptor at
most its destination bytes, the slot its load has taken, and the slot at the new HEAD. -/
def Obligations.UnitCommandsKeepTheRest : Prop :=
  (∀ c s P W, touchesUnit c = some (P, W) → Settled s →
    Leaves P (fun a => a / 65536 ∈ W ∨ a / 65536 < 0x4000 ∨ 0x4010 < a / 65536) c s) ∧
  (∀ s (n : Fin 16) c, (c = .shadowArm n ∨ c = .descriptorFetch n ∨ ∃ w, c = .tqTailWrite n w) →
    ∃ t, exec c s = .next t ∧ ∀ a, (a < slotAt s n ∨ slotAt s n + 16 ≤ a) →
      (let k := tqBase s n + 16 * ((tqHead s n + 1) % tqSize s n % 2 ^ 32 % 256 % tqSize s n)
       (a < k ∨ k + 16 ≤ a) → memByte t.mem a = memByte s.mem a)) ∧
  (∀ s (n : Fin 16) c, (c = .descriptorDone n ∨ c = .descriptorBusError n ∨ c = .idxAlign n) → ∀ d, (mrcGet s n).act = some d →
    ∃ t, exec c s = .next t ∧ ∀ a,
      (a < d.dst.toNat ∨ d.dst.toNat + (if descDfix d then descE d else descCount_ d * descE d) ≤ a) →
      (a < (mrcGet s n).slot.1 ∨ (mrcGet s n).slot.1 + 16 ≤ a) →
      (let k := tqBase s n + 16 * ((tqHead s n + 1) % (mrcGet s n).slot.2 % 2 ^ 32 % 256 % tqSize s n)
       (a < k ∨ k + 16 ≤ a) → memByte t.mem a = memByte s.mem a))
end

