-- ==== Sys2Proof/Laws/State.lean ====
section
/-!
SUPPORT. One lemma per field and update: what an update of State leaves as it was. Each holds by unfolding the update once, so that no
proof needs to unfold a record.
-/
namespace Sys2Proof.Machine

variable (s : State)

@[simp] theorem regSet_pending (a : Nat) (w : Word) : (regSet s a w).pending = s.pending := rfl
@[simp] theorem regSet_tb (a : Nat) (w : Word) : (regSet s a w).tb = s.tb := rfl
@[simp] theorem regSet_dev (a : Nat) (w : Word) : (regSet s a w).dev = s.dev := rfl
@[simp] theorem regSet_jrn (a : Nat) (w : Word) : (regSet s a w).jrn = s.jrn := rfl
@[simp] theorem regSet_fio (a : Nat) (w : Word) : (regSet s a w).fio = s.fio := rfl
@[simp] theorem regSet_sout (a : Nat) (w : Word) : (regSet s a w).sout = s.sout := rfl
@[simp] theorem regSet_kill (a : Nat) (w : Word) : (regSet s a w).kill = s.kill := rfl
@[simp] theorem regSet_sle (a : Nat) (w : Word) : (regSet s a w).sle = s.sle := rfl
@[simp] theorem regSet_summit (a : Nat) (w : Word) : (regSet s a w).summit = s.summit := rfl
@[simp] theorem regSet_trial (a : Nat) (w : Word) : (regSet s a w).trial = s.trial := rfl
@[simp] theorem regSet_lmp (a : Nat) (w : Word) : (regSet s a w).lmp = s.lmp := rfl
@[simp] theorem regSet_asp (a : Nat) (w : Word) : (regSet s a w).asp = s.asp := rfl
@[simp] theorem regSet_rope (a : Nat) (w : Word) : (regSet s a w).rope = s.rope := rfl
@[simp] theorem regSet_bly (a : Nat) (w : Word) : (regSet s a w).bly = s.bly := rfl
@[simp] theorem regSet_tmr (a : Nat) (w : Word) : (regSet s a w).tmr = s.tmr := rfl
@[simp] theorem regSet_otp (a : Nat) (w : Word) : (regSet s a w).otp = s.otp := rfl
@[simp] theorem regSet_flash (a : Nat) (w : Word) : (regSet s a w).flash = s.flash := rfl
@[simp] theorem regSet_slots (a : Nat) (w : Word) : (regSet s a w).slots = s.slots := rfl
@[simp] theorem regSet_od (a : Nat) (w : Word) : (regSet s a w).od = s.od := rfl
@[simp] theorem regSet_adc (a : Nat) (w : Word) : (regSet s a w).adc = s.adc := rfl
@[simp] theorem regSet_supv (a : Nat) (w : Word) : (regSet s a w).supv = s.supv := rfl
@[simp] theorem regSet_mem (a : Nat) (w : Word) : (regSet s a w).mem = s.mem := rfl
@[simp] theorem regSet_mrc (a : Nat) (w : Word) : (regSet s a w).mrc = s.mrc := rfl
@[simp] theorem regSet_pwr (a : Nat) (w : Word) : (regSet s a w).pwr = s.pwr := rfl
@[simp] theorem regSet_ports (a : Nat) (w : Word) : (regSet s a w).ports = s.ports := rfl
@[simp] theorem regSet_bus (a : Nat) (w : Word) : (regSet s a w).bus = s.bus := rfl

@[simp] theorem fldSet_pending (a : Nat) (f : Fld) (v : Nat) : (fldSet s a f v).pending = s.pending := rfl
@[simp] theorem fldSet_tb (a : Nat) (f : Fld) (v : Nat) : (fldSet s a f v).tb = s.tb := rfl
@[simp] theorem fldSet_dev (a : Nat) (f : Fld) (v : Nat) : (fldSet s a f v).dev = s.dev := rfl
@[simp] theorem fldSet_jrn (a : Nat) (f : Fld) (v : Nat) : (fldSet s a f v).jrn = s.jrn := rfl
@[simp] theorem fldSet_fio (a : Nat) (f : Fld) (v : Nat) : (fldSet s a f v).fio = s.fio := rfl
@[simp] theorem fldSet_sout (a : Nat) (f : Fld) (v : Nat) : (fldSet s a f v).sout = s.sout := rfl
@[simp] theorem fldSet_kill (a : Nat) (f : Fld) (v : Nat) : (fldSet s a f v).kill = s.kill := rfl
@[simp] theorem fldSet_sle (a : Nat) (f : Fld) (v : Nat) : (fldSet s a f v).sle = s.sle := rfl
@[simp] theorem fldSet_summit (a : Nat) (f : Fld) (v : Nat) : (fldSet s a f v).summit = s.summit := rfl
@[simp] theorem fldSet_trial (a : Nat) (f : Fld) (v : Nat) : (fldSet s a f v).trial = s.trial := rfl
@[simp] theorem fldSet_lmp (a : Nat) (f : Fld) (v : Nat) : (fldSet s a f v).lmp = s.lmp := rfl
@[simp] theorem fldSet_asp (a : Nat) (f : Fld) (v : Nat) : (fldSet s a f v).asp = s.asp := rfl
@[simp] theorem fldSet_rope (a : Nat) (f : Fld) (v : Nat) : (fldSet s a f v).rope = s.rope := rfl
@[simp] theorem fldSet_bly (a : Nat) (f : Fld) (v : Nat) : (fldSet s a f v).bly = s.bly := rfl
@[simp] theorem fldSet_tmr (a : Nat) (f : Fld) (v : Nat) : (fldSet s a f v).tmr = s.tmr := rfl
@[simp] theorem fldSet_otp (a : Nat) (f : Fld) (v : Nat) : (fldSet s a f v).otp = s.otp := rfl
@[simp] theorem fldSet_flash (a : Nat) (f : Fld) (v : Nat) : (fldSet s a f v).flash = s.flash := rfl
@[simp] theorem fldSet_slots (a : Nat) (f : Fld) (v : Nat) : (fldSet s a f v).slots = s.slots := rfl
@[simp] theorem fldSet_od (a : Nat) (f : Fld) (v : Nat) : (fldSet s a f v).od = s.od := rfl
@[simp] theorem fldSet_adc (a : Nat) (f : Fld) (v : Nat) : (fldSet s a f v).adc = s.adc := rfl
@[simp] theorem fldSet_supv (a : Nat) (f : Fld) (v : Nat) : (fldSet s a f v).supv = s.supv := rfl
@[simp] theorem fldSet_mem (a : Nat) (f : Fld) (v : Nat) : (fldSet s a f v).mem = s.mem := rfl
@[simp] theorem fldSet_mrc (a : Nat) (f : Fld) (v : Nat) : (fldSet s a f v).mrc = s.mrc := rfl
@[simp] theorem fldSet_pwr (a : Nat) (f : Fld) (v : Nat) : (fldSet s a f v).pwr = s.pwr := rfl
@[simp] theorem fldSet_ports (a : Nat) (f : Fld) (v : Nat) : (fldSet s a f v).ports = s.ports := rfl
@[simp] theorem fldSet_bus (a : Nat) (f : Fld) (v : Nat) : (fldSet s a f v).bus = s.bus := rfl

@[simp] theorem fldBump_pending (a : Nat) (f : Fld) (k : Nat) : (fldBump s a f k).pending = s.pending := rfl
@[simp] theorem fldBump_tb (a : Nat) (f : Fld) (k : Nat) : (fldBump s a f k).tb = s.tb := rfl
@[simp] theorem fldBump_dev (a : Nat) (f : Fld) (k : Nat) : (fldBump s a f k).dev = s.dev := rfl
@[simp] theorem fldBump_jrn (a : Nat) (f : Fld) (k : Nat) : (fldBump s a f k).jrn = s.jrn := rfl
@[simp] theorem fldBump_fio (a : Nat) (f : Fld) (k : Nat) : (fldBump s a f k).fio = s.fio := rfl
@[simp] theorem fldBump_sout (a : Nat) (f : Fld) (k : Nat) : (fldBump s a f k).sout = s.sout := rfl
@[simp] theorem fldBump_kill (a : Nat) (f : Fld) (k : Nat) : (fldBump s a f k).kill = s.kill := rfl
@[simp] theorem fldBump_sle (a : Nat) (f : Fld) (k : Nat) : (fldBump s a f k).sle = s.sle := rfl
@[simp] theorem fldBump_summit (a : Nat) (f : Fld) (k : Nat) : (fldBump s a f k).summit = s.summit := rfl
@[simp] theorem fldBump_trial (a : Nat) (f : Fld) (k : Nat) : (fldBump s a f k).trial = s.trial := rfl
@[simp] theorem fldBump_lmp (a : Nat) (f : Fld) (k : Nat) : (fldBump s a f k).lmp = s.lmp := rfl
@[simp] theorem fldBump_asp (a : Nat) (f : Fld) (k : Nat) : (fldBump s a f k).asp = s.asp := rfl
@[simp] theorem fldBump_rope (a : Nat) (f : Fld) (k : Nat) : (fldBump s a f k).rope = s.rope := rfl
@[simp] theorem fldBump_bly (a : Nat) (f : Fld) (k : Nat) : (fldBump s a f k).bly = s.bly := rfl
@[simp] theorem fldBump_tmr (a : Nat) (f : Fld) (k : Nat) : (fldBump s a f k).tmr = s.tmr := rfl
@[simp] theorem fldBump_otp (a : Nat) (f : Fld) (k : Nat) : (fldBump s a f k).otp = s.otp := rfl
@[simp] theorem fldBump_flash (a : Nat) (f : Fld) (k : Nat) : (fldBump s a f k).flash = s.flash := rfl
@[simp] theorem fldBump_slots (a : Nat) (f : Fld) (k : Nat) : (fldBump s a f k).slots = s.slots := rfl
@[simp] theorem fldBump_od (a : Nat) (f : Fld) (k : Nat) : (fldBump s a f k).od = s.od := rfl
@[simp] theorem fldBump_adc (a : Nat) (f : Fld) (k : Nat) : (fldBump s a f k).adc = s.adc := rfl
@[simp] theorem fldBump_supv (a : Nat) (f : Fld) (k : Nat) : (fldBump s a f k).supv = s.supv := rfl
@[simp] theorem fldBump_mem (a : Nat) (f : Fld) (k : Nat) : (fldBump s a f k).mem = s.mem := rfl
@[simp] theorem fldBump_mrc (a : Nat) (f : Fld) (k : Nat) : (fldBump s a f k).mrc = s.mrc := rfl
@[simp] theorem fldBump_pwr (a : Nat) (f : Fld) (k : Nat) : (fldBump s a f k).pwr = s.pwr := rfl
@[simp] theorem fldBump_ports (a : Nat) (f : Fld) (k : Nat) : (fldBump s a f k).ports = s.ports := rfl
@[simp] theorem fldBump_bus (a : Nat) (f : Fld) (k : Nat) : (fldBump s a f k).bus = s.bus := rfl

@[simp] theorem busOk_pending (d : Nat) : (busOk s d).pending = s.pending := rfl
@[simp] theorem busOk_tb (d : Nat) : (busOk s d).tb = s.tb := rfl
@[simp] theorem busOk_dev (d : Nat) : (busOk s d).dev = s.dev := rfl
@[simp] theorem busOk_regs (d : Nat) : (busOk s d).regs = s.regs := rfl
@[simp] theorem busOk_jrn (d : Nat) : (busOk s d).jrn = s.jrn := rfl
@[simp] theorem busOk_fio (d : Nat) : (busOk s d).fio = s.fio := rfl
@[simp] theorem busOk_sout (d : Nat) : (busOk s d).sout = s.sout := rfl
@[simp] theorem busOk_kill (d : Nat) : (busOk s d).kill = s.kill := rfl
@[simp] theorem busOk_sle (d : Nat) : (busOk s d).sle = s.sle := rfl
@[simp] theorem busOk_summit (d : Nat) : (busOk s d).summit = s.summit := rfl
@[simp] theorem busOk_trial (d : Nat) : (busOk s d).trial = s.trial := rfl
@[simp] theorem busOk_lmp (d : Nat) : (busOk s d).lmp = s.lmp := rfl
@[simp] theorem busOk_asp (d : Nat) : (busOk s d).asp = s.asp := rfl
@[simp] theorem busOk_rope (d : Nat) : (busOk s d).rope = s.rope := rfl
@[simp] theorem busOk_bly (d : Nat) : (busOk s d).bly = s.bly := rfl
@[simp] theorem busOk_tmr (d : Nat) : (busOk s d).tmr = s.tmr := rfl
@[simp] theorem busOk_otp (d : Nat) : (busOk s d).otp = s.otp := rfl
@[simp] theorem busOk_flash (d : Nat) : (busOk s d).flash = s.flash := rfl
@[simp] theorem busOk_slots (d : Nat) : (busOk s d).slots = s.slots := rfl
@[simp] theorem busOk_od (d : Nat) : (busOk s d).od = s.od := rfl
@[simp] theorem busOk_adc (d : Nat) : (busOk s d).adc = s.adc := rfl
@[simp] theorem busOk_supv (d : Nat) : (busOk s d).supv = s.supv := rfl
@[simp] theorem busOk_mem (d : Nat) : (busOk s d).mem = s.mem := rfl
@[simp] theorem busOk_mrc (d : Nat) : (busOk s d).mrc = s.mrc := rfl
@[simp] theorem busOk_pwr (d : Nat) : (busOk s d).pwr = s.pwr := rfl
@[simp] theorem busOk_ports (d : Nat) : (busOk s d).ports = s.ports := rfl

@[simp] theorem busErr_pending : (busErr s).pending = s.pending := rfl
@[simp] theorem busErr_tb : (busErr s).tb = s.tb := rfl
@[simp] theorem busErr_dev : (busErr s).dev = s.dev := rfl
@[simp] theorem busErr_regs : (busErr s).regs = s.regs := rfl
@[simp] theorem busErr_jrn : (busErr s).jrn = s.jrn := rfl
@[simp] theorem busErr_fio : (busErr s).fio = s.fio := rfl
@[simp] theorem busErr_sout : (busErr s).sout = s.sout := rfl
@[simp] theorem busErr_kill : (busErr s).kill = s.kill := rfl
@[simp] theorem busErr_sle : (busErr s).sle = s.sle := rfl
@[simp] theorem busErr_summit : (busErr s).summit = s.summit := rfl
@[simp] theorem busErr_trial : (busErr s).trial = s.trial := rfl
@[simp] theorem busErr_lmp : (busErr s).lmp = s.lmp := rfl
@[simp] theorem busErr_asp : (busErr s).asp = s.asp := rfl
@[simp] theorem busErr_rope : (busErr s).rope = s.rope := rfl
@[simp] theorem busErr_bly : (busErr s).bly = s.bly := rfl
@[simp] theorem busErr_tmr : (busErr s).tmr = s.tmr := rfl
@[simp] theorem busErr_otp : (busErr s).otp = s.otp := rfl
@[simp] theorem busErr_flash : (busErr s).flash = s.flash := rfl
@[simp] theorem busErr_slots : (busErr s).slots = s.slots := rfl
@[simp] theorem busErr_od : (busErr s).od = s.od := rfl
@[simp] theorem busErr_adc : (busErr s).adc = s.adc := rfl
@[simp] theorem busErr_supv : (busErr s).supv = s.supv := rfl
@[simp] theorem busErr_mem : (busErr s).mem = s.mem := rfl
@[simp] theorem busErr_mrc : (busErr s).mrc = s.mrc := rfl
@[simp] theorem busErr_pwr : (busErr s).pwr = s.pwr := rfl
@[simp] theorem busErr_ports : (busErr s).ports = s.ports := rfl

@[simp] theorem inSet_pending (i : Nat) (x : InSt) : (inSet s i x).pending = s.pending := rfl
@[simp] theorem inSet_tb (i : Nat) (x : InSt) : (inSet s i x).tb = s.tb := rfl
@[simp] theorem inSet_dev (i : Nat) (x : InSt) : (inSet s i x).dev = s.dev := rfl
@[simp] theorem inSet_regs (i : Nat) (x : InSt) : (inSet s i x).regs = s.regs := rfl
@[simp] theorem inSet_jrn (i : Nat) (x : InSt) : (inSet s i x).jrn = s.jrn := rfl
@[simp] theorem inSet_sout (i : Nat) (x : InSt) : (inSet s i x).sout = s.sout := rfl
@[simp] theorem inSet_kill (i : Nat) (x : InSt) : (inSet s i x).kill = s.kill := rfl
@[simp] theorem inSet_sle (i : Nat) (x : InSt) : (inSet s i x).sle = s.sle := rfl
@[simp] theorem inSet_summit (i : Nat) (x : InSt) : (inSet s i x).summit = s.summit := rfl
@[simp] theorem inSet_trial (i : Nat) (x : InSt) : (inSet s i x).trial = s.trial := rfl
@[simp] theorem inSet_lmp (i : Nat) (x : InSt) : (inSet s i x).lmp = s.lmp := rfl
@[simp] theorem inSet_asp (i : Nat) (x : InSt) : (inSet s i x).asp = s.asp := rfl
@[simp] theorem inSet_rope (i : Nat) (x : InSt) : (inSet s i x).rope = s.rope := rfl
@[simp] theorem inSet_bly (i : Nat) (x : InSt) : (inSet s i x).bly = s.bly := rfl
@[simp] theorem inSet_tmr (i : Nat) (x : InSt) : (inSet s i x).tmr = s.tmr := rfl
@[simp] theorem inSet_otp (i : Nat) (x : InSt) : (inSet s i x).otp = s.otp := rfl
@[simp] theorem inSet_flash (i : Nat) (x : InSt) : (inSet s i x).flash = s.flash := rfl
@[simp] theorem inSet_slots (i : Nat) (x : InSt) : (inSet s i x).slots = s.slots := rfl
@[simp] theorem inSet_od (i : Nat) (x : InSt) : (inSet s i x).od = s.od := rfl
@[simp] theorem inSet_adc (i : Nat) (x : InSt) : (inSet s i x).adc = s.adc := rfl
@[simp] theorem inSet_supv (i : Nat) (x : InSt) : (inSet s i x).supv = s.supv := rfl
@[simp] theorem inSet_mem (i : Nat) (x : InSt) : (inSet s i x).mem = s.mem := rfl
@[simp] theorem inSet_mrc (i : Nat) (x : InSt) : (inSet s i x).mrc = s.mrc := rfl
@[simp] theorem inSet_pwr (i : Nat) (x : InSt) : (inSet s i x).pwr = s.pwr := rfl
@[simp] theorem inSet_ports (i : Nat) (x : InSt) : (inSet s i x).ports = s.ports := rfl
@[simp] theorem inSet_bus (i : Nat) (x : InSt) : (inSet s i x).bus = s.bus := rfl

@[simp] theorem srcSet_pending (n : Nat) (x : SrcSt) : (srcSet s n x).pending = s.pending := rfl
@[simp] theorem srcSet_tb (n : Nat) (x : SrcSt) : (srcSet s n x).tb = s.tb := rfl
@[simp] theorem srcSet_dev (n : Nat) (x : SrcSt) : (srcSet s n x).dev = s.dev := rfl
@[simp] theorem srcSet_regs (n : Nat) (x : SrcSt) : (srcSet s n x).regs = s.regs := rfl
@[simp] theorem srcSet_jrn (n : Nat) (x : SrcSt) : (srcSet s n x).jrn = s.jrn := rfl
@[simp] theorem srcSet_sout (n : Nat) (x : SrcSt) : (srcSet s n x).sout = s.sout := rfl
@[simp] theorem srcSet_kill (n : Nat) (x : SrcSt) : (srcSet s n x).kill = s.kill := rfl
@[simp] theorem srcSet_sle (n : Nat) (x : SrcSt) : (srcSet s n x).sle = s.sle := rfl
@[simp] theorem srcSet_summit (n : Nat) (x : SrcSt) : (srcSet s n x).summit = s.summit := rfl
@[simp] theorem srcSet_trial (n : Nat) (x : SrcSt) : (srcSet s n x).trial = s.trial := rfl
@[simp] theorem srcSet_lmp (n : Nat) (x : SrcSt) : (srcSet s n x).lmp = s.lmp := rfl
@[simp] theorem srcSet_asp (n : Nat) (x : SrcSt) : (srcSet s n x).asp = s.asp := rfl
@[simp] theorem srcSet_rope (n : Nat) (x : SrcSt) : (srcSet s n x).rope = s.rope := rfl
@[simp] theorem srcSet_bly (n : Nat) (x : SrcSt) : (srcSet s n x).bly = s.bly := rfl
@[simp] theorem srcSet_tmr (n : Nat) (x : SrcSt) : (srcSet s n x).tmr = s.tmr := rfl
@[simp] theorem srcSet_otp (n : Nat) (x : SrcSt) : (srcSet s n x).otp = s.otp := rfl
@[simp] theorem srcSet_flash (n : Nat) (x : SrcSt) : (srcSet s n x).flash = s.flash := rfl
@[simp] theorem srcSet_slots (n : Nat) (x : SrcSt) : (srcSet s n x).slots = s.slots := rfl
@[simp] theorem srcSet_od (n : Nat) (x : SrcSt) : (srcSet s n x).od = s.od := rfl
@[simp] theorem srcSet_adc (n : Nat) (x : SrcSt) : (srcSet s n x).adc = s.adc := rfl
@[simp] theorem srcSet_supv (n : Nat) (x : SrcSt) : (srcSet s n x).supv = s.supv := rfl
@[simp] theorem srcSet_mem (n : Nat) (x : SrcSt) : (srcSet s n x).mem = s.mem := rfl
@[simp] theorem srcSet_mrc (n : Nat) (x : SrcSt) : (srcSet s n x).mrc = s.mrc := rfl
@[simp] theorem srcSet_pwr (n : Nat) (x : SrcSt) : (srcSet s n x).pwr = s.pwr := rfl
@[simp] theorem srcSet_ports (n : Nat) (x : SrcSt) : (srcSet s n x).ports = s.ports := rfl
@[simp] theorem srcSet_bus (n : Nat) (x : SrcSt) : (srcSet s n x).bus = s.bus := rfl

@[simp] theorem chSet_pending (c : Nat) (x : ChSt) : (chSet s c x).pending = s.pending := rfl
@[simp] theorem chSet_tb (c : Nat) (x : ChSt) : (chSet s c x).tb = s.tb := rfl
@[simp] theorem chSet_dev (c : Nat) (x : ChSt) : (chSet s c x).dev = s.dev := rfl
@[simp] theorem chSet_regs (c : Nat) (x : ChSt) : (chSet s c x).regs = s.regs := rfl
@[simp] theorem chSet_jrn (c : Nat) (x : ChSt) : (chSet s c x).jrn = s.jrn := rfl
@[simp] theorem chSet_fio (c : Nat) (x : ChSt) : (chSet s c x).fio = s.fio := rfl
@[simp] theorem chSet_kill (c : Nat) (x : ChSt) : (chSet s c x).kill = s.kill := rfl
@[simp] theorem chSet_sle (c : Nat) (x : ChSt) : (chSet s c x).sle = s.sle := rfl
@[simp] theorem chSet_summit (c : Nat) (x : ChSt) : (chSet s c x).summit = s.summit := rfl
@[simp] theorem chSet_trial (c : Nat) (x : ChSt) : (chSet s c x).trial = s.trial := rfl
@[simp] theorem chSet_lmp (c : Nat) (x : ChSt) : (chSet s c x).lmp = s.lmp := rfl
@[simp] theorem chSet_asp (c : Nat) (x : ChSt) : (chSet s c x).asp = s.asp := rfl
@[simp] theorem chSet_rope (c : Nat) (x : ChSt) : (chSet s c x).rope = s.rope := rfl
@[simp] theorem chSet_bly (c : Nat) (x : ChSt) : (chSet s c x).bly = s.bly := rfl
@[simp] theorem chSet_tmr (c : Nat) (x : ChSt) : (chSet s c x).tmr = s.tmr := rfl
@[simp] theorem chSet_otp (c : Nat) (x : ChSt) : (chSet s c x).otp = s.otp := rfl
@[simp] theorem chSet_flash (c : Nat) (x : ChSt) : (chSet s c x).flash = s.flash := rfl
@[simp] theorem chSet_slots (c : Nat) (x : ChSt) : (chSet s c x).slots = s.slots := rfl
@[simp] theorem chSet_od (c : Nat) (x : ChSt) : (chSet s c x).od = s.od := rfl
@[simp] theorem chSet_adc (c : Nat) (x : ChSt) : (chSet s c x).adc = s.adc := rfl
@[simp] theorem chSet_supv (c : Nat) (x : ChSt) : (chSet s c x).supv = s.supv := rfl
@[simp] theorem chSet_mem (c : Nat) (x : ChSt) : (chSet s c x).mem = s.mem := rfl
@[simp] theorem chSet_mrc (c : Nat) (x : ChSt) : (chSet s c x).mrc = s.mrc := rfl
@[simp] theorem chSet_pwr (c : Nat) (x : ChSt) : (chSet s c x).pwr = s.pwr := rfl
@[simp] theorem chSet_ports (c : Nat) (x : ChSt) : (chSet s c x).ports = s.ports := rfl
@[simp] theorem chSet_bus (c : Nat) (x : ChSt) : (chSet s c x).bus = s.bus := rfl

@[simp] theorem strSet_pending (n : Nat) (x : StrSt) : (strSet s n x).pending = s.pending := rfl
@[simp] theorem strSet_tb (n : Nat) (x : StrSt) : (strSet s n x).tb = s.tb := rfl
@[simp] theorem strSet_dev (n : Nat) (x : StrSt) : (strSet s n x).dev = s.dev := rfl
@[simp] theorem strSet_regs (n : Nat) (x : StrSt) : (strSet s n x).regs = s.regs := rfl
@[simp] theorem strSet_jrn (n : Nat) (x : StrSt) : (strSet s n x).jrn = s.jrn := rfl
@[simp] theorem strSet_fio (n : Nat) (x : StrSt) : (strSet s n x).fio = s.fio := rfl
@[simp] theorem strSet_sout (n : Nat) (x : StrSt) : (strSet s n x).sout = s.sout := rfl
@[simp] theorem strSet_kill (n : Nat) (x : StrSt) : (strSet s n x).kill = s.kill := rfl
@[simp] theorem strSet_sle (n : Nat) (x : StrSt) : (strSet s n x).sle = s.sle := rfl
@[simp] theorem strSet_summit (n : Nat) (x : StrSt) : (strSet s n x).summit = s.summit := rfl
@[simp] theorem strSet_trial (n : Nat) (x : StrSt) : (strSet s n x).trial = s.trial := rfl
@[simp] theorem strSet_asp (n : Nat) (x : StrSt) : (strSet s n x).asp = s.asp := rfl
@[simp] theorem strSet_rope (n : Nat) (x : StrSt) : (strSet s n x).rope = s.rope := rfl
@[simp] theorem strSet_bly (n : Nat) (x : StrSt) : (strSet s n x).bly = s.bly := rfl
@[simp] theorem strSet_tmr (n : Nat) (x : StrSt) : (strSet s n x).tmr = s.tmr := rfl
@[simp] theorem strSet_otp (n : Nat) (x : StrSt) : (strSet s n x).otp = s.otp := rfl
@[simp] theorem strSet_flash (n : Nat) (x : StrSt) : (strSet s n x).flash = s.flash := rfl
@[simp] theorem strSet_slots (n : Nat) (x : StrSt) : (strSet s n x).slots = s.slots := rfl
@[simp] theorem strSet_od (n : Nat) (x : StrSt) : (strSet s n x).od = s.od := rfl
@[simp] theorem strSet_adc (n : Nat) (x : StrSt) : (strSet s n x).adc = s.adc := rfl
@[simp] theorem strSet_supv (n : Nat) (x : StrSt) : (strSet s n x).supv = s.supv := rfl
@[simp] theorem strSet_mem (n : Nat) (x : StrSt) : (strSet s n x).mem = s.mem := rfl
@[simp] theorem strSet_mrc (n : Nat) (x : StrSt) : (strSet s n x).mrc = s.mrc := rfl
@[simp] theorem strSet_pwr (n : Nat) (x : StrSt) : (strSet s n x).pwr = s.pwr := rfl
@[simp] theorem strSet_ports (n : Nat) (x : StrSt) : (strSet s n x).ports = s.ports := rfl
@[simp] theorem strSet_bus (n : Nat) (x : StrSt) : (strSet s n x).bus = s.bus := rfl

@[simp] theorem headSet_pending (h : Nat) (x : HeadSt) : (headSet s h x).pending = s.pending := rfl
@[simp] theorem headSet_tb (h : Nat) (x : HeadSt) : (headSet s h x).tb = s.tb := rfl
@[simp] theorem headSet_dev (h : Nat) (x : HeadSt) : (headSet s h x).dev = s.dev := rfl
@[simp] theorem headSet_regs (h : Nat) (x : HeadSt) : (headSet s h x).regs = s.regs := rfl
@[simp] theorem headSet_jrn (h : Nat) (x : HeadSt) : (headSet s h x).jrn = s.jrn := rfl
@[simp] theorem headSet_fio (h : Nat) (x : HeadSt) : (headSet s h x).fio = s.fio := rfl
@[simp] theorem headSet_sout (h : Nat) (x : HeadSt) : (headSet s h x).sout = s.sout := rfl
@[simp] theorem headSet_kill (h : Nat) (x : HeadSt) : (headSet s h x).kill = s.kill := rfl
@[simp] theorem headSet_sle (h : Nat) (x : HeadSt) : (headSet s h x).sle = s.sle := rfl
@[simp] theorem headSet_summit (h : Nat) (x : HeadSt) : (headSet s h x).summit = s.summit := rfl
@[simp] theorem headSet_trial (h : Nat) (x : HeadSt) : (headSet s h x).trial = s.trial := rfl
@[simp] theorem headSet_lmp (h : Nat) (x : HeadSt) : (headSet s h x).lmp = s.lmp := rfl
@[simp] theorem headSet_rope (h : Nat) (x : HeadSt) : (headSet s h x).rope = s.rope := rfl
@[simp] theorem headSet_bly (h : Nat) (x : HeadSt) : (headSet s h x).bly = s.bly := rfl
@[simp] theorem headSet_tmr (h : Nat) (x : HeadSt) : (headSet s h x).tmr = s.tmr := rfl
@[simp] theorem headSet_otp (h : Nat) (x : HeadSt) : (headSet s h x).otp = s.otp := rfl
@[simp] theorem headSet_flash (h : Nat) (x : HeadSt) : (headSet s h x).flash = s.flash := rfl
@[simp] theorem headSet_slots (h : Nat) (x : HeadSt) : (headSet s h x).slots = s.slots := rfl
@[simp] theorem headSet_od (h : Nat) (x : HeadSt) : (headSet s h x).od = s.od := rfl
@[simp] theorem headSet_adc (h : Nat) (x : HeadSt) : (headSet s h x).adc = s.adc := rfl
@[simp] theorem headSet_supv (h : Nat) (x : HeadSt) : (headSet s h x).supv = s.supv := rfl
@[simp] theorem headSet_mem (h : Nat) (x : HeadSt) : (headSet s h x).mem = s.mem := rfl
@[simp] theorem headSet_mrc (h : Nat) (x : HeadSt) : (headSet s h x).mrc = s.mrc := rfl
@[simp] theorem headSet_pwr (h : Nat) (x : HeadSt) : (headSet s h x).pwr = s.pwr := rfl
@[simp] theorem headSet_ports (h : Nat) (x : HeadSt) : (headSet s h x).ports = s.ports := rfl
@[simp] theorem headSet_bus (h : Nat) (x : HeadSt) : (headSet s h x).bus = s.bus := rfl

@[simp] theorem portSet_pending (p : Nat) (x : PortSt) : (portSet s p x).pending = s.pending := rfl
@[simp] theorem portSet_tb (p : Nat) (x : PortSt) : (portSet s p x).tb = s.tb := rfl
@[simp] theorem portSet_dev (p : Nat) (x : PortSt) : (portSet s p x).dev = s.dev := rfl
@[simp] theorem portSet_regs (p : Nat) (x : PortSt) : (portSet s p x).regs = s.regs := rfl
@[simp] theorem portSet_jrn (p : Nat) (x : PortSt) : (portSet s p x).jrn = s.jrn := rfl
@[simp] theorem portSet_fio (p : Nat) (x : PortSt) : (portSet s p x).fio = s.fio := rfl
@[simp] theorem portSet_sout (p : Nat) (x : PortSt) : (portSet s p x).sout = s.sout := rfl
@[simp] theorem portSet_kill (p : Nat) (x : PortSt) : (portSet s p x).kill = s.kill := rfl
@[simp] theorem portSet_sle (p : Nat) (x : PortSt) : (portSet s p x).sle = s.sle := rfl
@[simp] theorem portSet_summit (p : Nat) (x : PortSt) : (portSet s p x).summit = s.summit := rfl
@[simp] theorem portSet_trial (p : Nat) (x : PortSt) : (portSet s p x).trial = s.trial := rfl
@[simp] theorem portSet_lmp (p : Nat) (x : PortSt) : (portSet s p x).lmp = s.lmp := rfl
@[simp] theorem portSet_asp (p : Nat) (x : PortSt) : (portSet s p x).asp = s.asp := rfl
@[simp] theorem portSet_bly (p : Nat) (x : PortSt) : (portSet s p x).bly = s.bly := rfl
@[simp] theorem portSet_tmr (p : Nat) (x : PortSt) : (portSet s p x).tmr = s.tmr := rfl
@[simp] theorem portSet_otp (p : Nat) (x : PortSt) : (portSet s p x).otp = s.otp := rfl
@[simp] theorem portSet_flash (p : Nat) (x : PortSt) : (portSet s p x).flash = s.flash := rfl
@[simp] theorem portSet_slots (p : Nat) (x : PortSt) : (portSet s p x).slots = s.slots := rfl
@[simp] theorem portSet_od (p : Nat) (x : PortSt) : (portSet s p x).od = s.od := rfl
@[simp] theorem portSet_adc (p : Nat) (x : PortSt) : (portSet s p x).adc = s.adc := rfl
@[simp] theorem portSet_supv (p : Nat) (x : PortSt) : (portSet s p x).supv = s.supv := rfl
@[simp] theorem portSet_mem (p : Nat) (x : PortSt) : (portSet s p x).mem = s.mem := rfl
@[simp] theorem portSet_mrc (p : Nat) (x : PortSt) : (portSet s p x).mrc = s.mrc := rfl
@[simp] theorem portSet_pwr (p : Nat) (x : PortSt) : (portSet s p x).pwr = s.pwr := rfl
@[simp] theorem portSet_ports (p : Nat) (x : PortSt) : (portSet s p x).ports = s.ports := rfl
@[simp] theorem portSet_bus (p : Nat) (x : PortSt) : (portSet s p x).bus = s.bus := rfl

@[simp] theorem subSet_pending (n : Nat) (x : SubSt) : (subSet s n x).pending = s.pending := rfl
@[simp] theorem subSet_tb (n : Nat) (x : SubSt) : (subSet s n x).tb = s.tb := rfl
@[simp] theorem subSet_dev (n : Nat) (x : SubSt) : (subSet s n x).dev = s.dev := rfl
@[simp] theorem subSet_regs (n : Nat) (x : SubSt) : (subSet s n x).regs = s.regs := rfl
@[simp] theorem subSet_jrn (n : Nat) (x : SubSt) : (subSet s n x).jrn = s.jrn := rfl
@[simp] theorem subSet_fio (n : Nat) (x : SubSt) : (subSet s n x).fio = s.fio := rfl
@[simp] theorem subSet_sout (n : Nat) (x : SubSt) : (subSet s n x).sout = s.sout := rfl
@[simp] theorem subSet_kill (n : Nat) (x : SubSt) : (subSet s n x).kill = s.kill := rfl
@[simp] theorem subSet_sle (n : Nat) (x : SubSt) : (subSet s n x).sle = s.sle := rfl
@[simp] theorem subSet_summit (n : Nat) (x : SubSt) : (subSet s n x).summit = s.summit := rfl
@[simp] theorem subSet_trial (n : Nat) (x : SubSt) : (subSet s n x).trial = s.trial := rfl
@[simp] theorem subSet_lmp (n : Nat) (x : SubSt) : (subSet s n x).lmp = s.lmp := rfl
@[simp] theorem subSet_asp (n : Nat) (x : SubSt) : (subSet s n x).asp = s.asp := rfl
@[simp] theorem subSet_bly (n : Nat) (x : SubSt) : (subSet s n x).bly = s.bly := rfl
@[simp] theorem subSet_tmr (n : Nat) (x : SubSt) : (subSet s n x).tmr = s.tmr := rfl
@[simp] theorem subSet_otp (n : Nat) (x : SubSt) : (subSet s n x).otp = s.otp := rfl
@[simp] theorem subSet_flash (n : Nat) (x : SubSt) : (subSet s n x).flash = s.flash := rfl
@[simp] theorem subSet_slots (n : Nat) (x : SubSt) : (subSet s n x).slots = s.slots := rfl
@[simp] theorem subSet_od (n : Nat) (x : SubSt) : (subSet s n x).od = s.od := rfl
@[simp] theorem subSet_adc (n : Nat) (x : SubSt) : (subSet s n x).adc = s.adc := rfl
@[simp] theorem subSet_supv (n : Nat) (x : SubSt) : (subSet s n x).supv = s.supv := rfl
@[simp] theorem subSet_mem (n : Nat) (x : SubSt) : (subSet s n x).mem = s.mem := rfl
@[simp] theorem subSet_mrc (n : Nat) (x : SubSt) : (subSet s n x).mrc = s.mrc := rfl
@[simp] theorem subSet_pwr (n : Nat) (x : SubSt) : (subSet s n x).pwr = s.pwr := rfl
@[simp] theorem subSet_ports (n : Nat) (x : SubSt) : (subSet s n x).ports = s.ports := rfl
@[simp] theorem subSet_bus (n : Nat) (x : SubSt) : (subSet s n x).bus = s.bus := rfl

@[simp] theorem tmrSet_pending (n : Nat) (x : TmrSt) : (tmrSet s n x).pending = s.pending := rfl
@[simp] theorem tmrSet_tb (n : Nat) (x : TmrSt) : (tmrSet s n x).tb = s.tb := rfl
@[simp] theorem tmrSet_dev (n : Nat) (x : TmrSt) : (tmrSet s n x).dev = s.dev := rfl
@[simp] theorem tmrSet_regs (n : Nat) (x : TmrSt) : (tmrSet s n x).regs = s.regs := rfl
@[simp] theorem tmrSet_jrn (n : Nat) (x : TmrSt) : (tmrSet s n x).jrn = s.jrn := rfl
@[simp] theorem tmrSet_fio (n : Nat) (x : TmrSt) : (tmrSet s n x).fio = s.fio := rfl
@[simp] theorem tmrSet_sout (n : Nat) (x : TmrSt) : (tmrSet s n x).sout = s.sout := rfl
@[simp] theorem tmrSet_kill (n : Nat) (x : TmrSt) : (tmrSet s n x).kill = s.kill := rfl
@[simp] theorem tmrSet_sle (n : Nat) (x : TmrSt) : (tmrSet s n x).sle = s.sle := rfl
@[simp] theorem tmrSet_summit (n : Nat) (x : TmrSt) : (tmrSet s n x).summit = s.summit := rfl
@[simp] theorem tmrSet_trial (n : Nat) (x : TmrSt) : (tmrSet s n x).trial = s.trial := rfl
@[simp] theorem tmrSet_lmp (n : Nat) (x : TmrSt) : (tmrSet s n x).lmp = s.lmp := rfl
@[simp] theorem tmrSet_asp (n : Nat) (x : TmrSt) : (tmrSet s n x).asp = s.asp := rfl
@[simp] theorem tmrSet_rope (n : Nat) (x : TmrSt) : (tmrSet s n x).rope = s.rope := rfl
@[simp] theorem tmrSet_bly (n : Nat) (x : TmrSt) : (tmrSet s n x).bly = s.bly := rfl
@[simp] theorem tmrSet_otp (n : Nat) (x : TmrSt) : (tmrSet s n x).otp = s.otp := rfl
@[simp] theorem tmrSet_flash (n : Nat) (x : TmrSt) : (tmrSet s n x).flash = s.flash := rfl
@[simp] theorem tmrSet_slots (n : Nat) (x : TmrSt) : (tmrSet s n x).slots = s.slots := rfl
@[simp] theorem tmrSet_od (n : Nat) (x : TmrSt) : (tmrSet s n x).od = s.od := rfl
@[simp] theorem tmrSet_adc (n : Nat) (x : TmrSt) : (tmrSet s n x).adc = s.adc := rfl
@[simp] theorem tmrSet_supv (n : Nat) (x : TmrSt) : (tmrSet s n x).supv = s.supv := rfl
@[simp] theorem tmrSet_mem (n : Nat) (x : TmrSt) : (tmrSet s n x).mem = s.mem := rfl
@[simp] theorem tmrSet_mrc (n : Nat) (x : TmrSt) : (tmrSet s n x).mrc = s.mrc := rfl
@[simp] theorem tmrSet_pwr (n : Nat) (x : TmrSt) : (tmrSet s n x).pwr = s.pwr := rfl
@[simp] theorem tmrSet_ports (n : Nat) (x : TmrSt) : (tmrSet s n x).ports = s.ports := rfl
@[simp] theorem tmrSet_bus (n : Nat) (x : TmrSt) : (tmrSet s n x).bus = s.bus := rfl

@[simp] theorem adcSet_pending (n : Nat) (x : AdcSt) : (adcSet s n x).pending = s.pending := rfl
@[simp] theorem adcSet_tb (n : Nat) (x : AdcSt) : (adcSet s n x).tb = s.tb := rfl
@[simp] theorem adcSet_dev (n : Nat) (x : AdcSt) : (adcSet s n x).dev = s.dev := rfl
@[simp] theorem adcSet_regs (n : Nat) (x : AdcSt) : (adcSet s n x).regs = s.regs := rfl
@[simp] theorem adcSet_jrn (n : Nat) (x : AdcSt) : (adcSet s n x).jrn = s.jrn := rfl
@[simp] theorem adcSet_fio (n : Nat) (x : AdcSt) : (adcSet s n x).fio = s.fio := rfl
@[simp] theorem adcSet_sout (n : Nat) (x : AdcSt) : (adcSet s n x).sout = s.sout := rfl
@[simp] theorem adcSet_kill (n : Nat) (x : AdcSt) : (adcSet s n x).kill = s.kill := rfl
@[simp] theorem adcSet_sle (n : Nat) (x : AdcSt) : (adcSet s n x).sle = s.sle := rfl
@[simp] theorem adcSet_summit (n : Nat) (x : AdcSt) : (adcSet s n x).summit = s.summit := rfl
@[simp] theorem adcSet_trial (n : Nat) (x : AdcSt) : (adcSet s n x).trial = s.trial := rfl
@[simp] theorem adcSet_lmp (n : Nat) (x : AdcSt) : (adcSet s n x).lmp = s.lmp := rfl
@[simp] theorem adcSet_asp (n : Nat) (x : AdcSt) : (adcSet s n x).asp = s.asp := rfl
@[simp] theorem adcSet_rope (n : Nat) (x : AdcSt) : (adcSet s n x).rope = s.rope := rfl
@[simp] theorem adcSet_bly (n : Nat) (x : AdcSt) : (adcSet s n x).bly = s.bly := rfl
@[simp] theorem adcSet_tmr (n : Nat) (x : AdcSt) : (adcSet s n x).tmr = s.tmr := rfl
@[simp] theorem adcSet_otp (n : Nat) (x : AdcSt) : (adcSet s n x).otp = s.otp := rfl
@[simp] theorem adcSet_flash (n : Nat) (x : AdcSt) : (adcSet s n x).flash = s.flash := rfl
@[simp] theorem adcSet_slots (n : Nat) (x : AdcSt) : (adcSet s n x).slots = s.slots := rfl
@[simp] theorem adcSet_od (n : Nat) (x : AdcSt) : (adcSet s n x).od = s.od := rfl
@[simp] theorem adcSet_supv (n : Nat) (x : AdcSt) : (adcSet s n x).supv = s.supv := rfl
@[simp] theorem adcSet_mem (n : Nat) (x : AdcSt) : (adcSet s n x).mem = s.mem := rfl
@[simp] theorem adcSet_mrc (n : Nat) (x : AdcSt) : (adcSet s n x).mrc = s.mrc := rfl
@[simp] theorem adcSet_pwr (n : Nat) (x : AdcSt) : (adcSet s n x).pwr = s.pwr := rfl
@[simp] theorem adcSet_ports (n : Nat) (x : AdcSt) : (adcSet s n x).ports = s.ports := rfl
@[simp] theorem adcSet_bus (n : Nat) (x : AdcSt) : (adcSet s n x).bus = s.bus := rfl

@[simp] theorem mrcSet_pending (n : Nat) (x : MrcSt) : (mrcSet s n x).pending = s.pending := rfl
@[simp] theorem mrcSet_tb (n : Nat) (x : MrcSt) : (mrcSet s n x).tb = s.tb := rfl
@[simp] theorem mrcSet_dev (n : Nat) (x : MrcSt) : (mrcSet s n x).dev = s.dev := rfl
@[simp] theorem mrcSet_regs (n : Nat) (x : MrcSt) : (mrcSet s n x).regs = s.regs := rfl
@[simp] theorem mrcSet_jrn (n : Nat) (x : MrcSt) : (mrcSet s n x).jrn = s.jrn := rfl
@[simp] theorem mrcSet_fio (n : Nat) (x : MrcSt) : (mrcSet s n x).fio = s.fio := rfl
@[simp] theorem mrcSet_sout (n : Nat) (x : MrcSt) : (mrcSet s n x).sout = s.sout := rfl
@[simp] theorem mrcSet_kill (n : Nat) (x : MrcSt) : (mrcSet s n x).kill = s.kill := rfl
@[simp] theorem mrcSet_sle (n : Nat) (x : MrcSt) : (mrcSet s n x).sle = s.sle := rfl
@[simp] theorem mrcSet_summit (n : Nat) (x : MrcSt) : (mrcSet s n x).summit = s.summit := rfl
@[simp] theorem mrcSet_trial (n : Nat) (x : MrcSt) : (mrcSet s n x).trial = s.trial := rfl
@[simp] theorem mrcSet_lmp (n : Nat) (x : MrcSt) : (mrcSet s n x).lmp = s.lmp := rfl
@[simp] theorem mrcSet_asp (n : Nat) (x : MrcSt) : (mrcSet s n x).asp = s.asp := rfl
@[simp] theorem mrcSet_rope (n : Nat) (x : MrcSt) : (mrcSet s n x).rope = s.rope := rfl
@[simp] theorem mrcSet_bly (n : Nat) (x : MrcSt) : (mrcSet s n x).bly = s.bly := rfl
@[simp] theorem mrcSet_tmr (n : Nat) (x : MrcSt) : (mrcSet s n x).tmr = s.tmr := rfl
@[simp] theorem mrcSet_otp (n : Nat) (x : MrcSt) : (mrcSet s n x).otp = s.otp := rfl
@[simp] theorem mrcSet_flash (n : Nat) (x : MrcSt) : (mrcSet s n x).flash = s.flash := rfl
@[simp] theorem mrcSet_slots (n : Nat) (x : MrcSt) : (mrcSet s n x).slots = s.slots := rfl
@[simp] theorem mrcSet_od (n : Nat) (x : MrcSt) : (mrcSet s n x).od = s.od := rfl
@[simp] theorem mrcSet_adc (n : Nat) (x : MrcSt) : (mrcSet s n x).adc = s.adc := rfl
@[simp] theorem mrcSet_supv (n : Nat) (x : MrcSt) : (mrcSet s n x).supv = s.supv := rfl
@[simp] theorem mrcSet_mem (n : Nat) (x : MrcSt) : (mrcSet s n x).mem = s.mem := rfl
@[simp] theorem mrcSet_pwr (n : Nat) (x : MrcSt) : (mrcSet s n x).pwr = s.pwr := rfl
@[simp] theorem mrcSet_ports (n : Nat) (x : MrcSt) : (mrcSet s n x).ports = s.ports := rfl
@[simp] theorem mrcSet_bus (n : Nat) (x : MrcSt) : (mrcSet s n x).bus = s.bus := rfl

@[simp] theorem setBoLatch_pending (b : Nat) (v : Bool) : (setBoLatch s b v).pending = s.pending := by unfold setBoLatch; split <;> rfl
@[simp] theorem setBoLatch_tb (b : Nat) (v : Bool) : (setBoLatch s b v).tb = s.tb := by unfold setBoLatch; split <;> rfl
@[simp] theorem setBoLatch_dev (b : Nat) (v : Bool) : (setBoLatch s b v).dev = s.dev := by unfold setBoLatch; split <;> rfl
@[simp] theorem setBoLatch_regs (b : Nat) (v : Bool) : (setBoLatch s b v).regs = s.regs := by unfold setBoLatch; split <;> rfl
@[simp] theorem setBoLatch_jrn (b : Nat) (v : Bool) : (setBoLatch s b v).jrn = s.jrn := by unfold setBoLatch; split <;> rfl
@[simp] theorem setBoLatch_fio (b : Nat) (v : Bool) : (setBoLatch s b v).fio = s.fio := by unfold setBoLatch; split <;> rfl
@[simp] theorem setBoLatch_kill (b : Nat) (v : Bool) : (setBoLatch s b v).kill = s.kill := by unfold setBoLatch; split <;> rfl
@[simp] theorem setBoLatch_sle (b : Nat) (v : Bool) : (setBoLatch s b v).sle = s.sle := by unfold setBoLatch; split <;> rfl
@[simp] theorem setBoLatch_summit (b : Nat) (v : Bool) : (setBoLatch s b v).summit = s.summit := by unfold setBoLatch; split <;> rfl
@[simp] theorem setBoLatch_trial (b : Nat) (v : Bool) : (setBoLatch s b v).trial = s.trial := by unfold setBoLatch; split <;> rfl
@[simp] theorem setBoLatch_lmp (b : Nat) (v : Bool) : (setBoLatch s b v).lmp = s.lmp := by unfold setBoLatch; split <;> rfl
@[simp] theorem setBoLatch_asp (b : Nat) (v : Bool) : (setBoLatch s b v).asp = s.asp := by unfold setBoLatch; split <;> rfl
@[simp] theorem setBoLatch_rope (b : Nat) (v : Bool) : (setBoLatch s b v).rope = s.rope := by unfold setBoLatch; split <;> rfl
@[simp] theorem setBoLatch_bly (b : Nat) (v : Bool) : (setBoLatch s b v).bly = s.bly := by unfold setBoLatch; split <;> rfl
@[simp] theorem setBoLatch_tmr (b : Nat) (v : Bool) : (setBoLatch s b v).tmr = s.tmr := by unfold setBoLatch; split <;> rfl
@[simp] theorem setBoLatch_otp (b : Nat) (v : Bool) : (setBoLatch s b v).otp = s.otp := by unfold setBoLatch; split <;> rfl
@[simp] theorem setBoLatch_flash (b : Nat) (v : Bool) : (setBoLatch s b v).flash = s.flash := by unfold setBoLatch; split <;> rfl
@[simp] theorem setBoLatch_slots (b : Nat) (v : Bool) : (setBoLatch s b v).slots = s.slots := by unfold setBoLatch; split <;> rfl
@[simp] theorem setBoLatch_od (b : Nat) (v : Bool) : (setBoLatch s b v).od = s.od := by unfold setBoLatch; split <;> rfl
@[simp] theorem setBoLatch_adc (b : Nat) (v : Bool) : (setBoLatch s b v).adc = s.adc := by unfold setBoLatch; split <;> rfl
@[simp] theorem setBoLatch_supv (b : Nat) (v : Bool) : (setBoLatch s b v).supv = s.supv := by unfold setBoLatch; split <;> rfl
@[simp] theorem setBoLatch_mem (b : Nat) (v : Bool) : (setBoLatch s b v).mem = s.mem := by unfold setBoLatch; split <;> rfl
@[simp] theorem setBoLatch_mrc (b : Nat) (v : Bool) : (setBoLatch s b v).mrc = s.mrc := by unfold setBoLatch; split <;> rfl
@[simp] theorem setBoLatch_pwr (b : Nat) (v : Bool) : (setBoLatch s b v).pwr = s.pwr := by unfold setBoLatch; split <;> rfl
@[simp] theorem setBoLatch_ports (b : Nat) (v : Bool) : (setBoLatch s b v).ports = s.ports := by unfold setBoLatch; split <;> rfl
@[simp] theorem setBoLatch_bus (b : Nat) (v : Bool) : (setBoLatch s b v).bus = s.bus := by unfold setBoLatch; split <;> rfl

@[simp] theorem logAt_pending (tb code p0 p1 p2 : Nat) (p : Bool) : (logAt s tb code p0 p1 p2 p).pending = s.pending := by unfold logAt; split <;> rfl
@[simp] theorem logAt_tb (tb code p0 p1 p2 : Nat) (p : Bool) : (logAt s tb code p0 p1 p2 p).tb = s.tb := by unfold logAt; split <;> rfl
@[simp] theorem logAt_dev (tb code p0 p1 p2 : Nat) (p : Bool) : (logAt s tb code p0 p1 p2 p).dev = s.dev := by unfold logAt; split <;> rfl
@[simp] theorem logAt_regs (tb code p0 p1 p2 : Nat) (p : Bool) : (logAt s tb code p0 p1 p2 p).regs = s.regs := by unfold logAt; split <;> rfl
@[simp] theorem logAt_fio (tb code p0 p1 p2 : Nat) (p : Bool) : (logAt s tb code p0 p1 p2 p).fio = s.fio := by unfold logAt; split <;> rfl
@[simp] theorem logAt_sout (tb code p0 p1 p2 : Nat) (p : Bool) : (logAt s tb code p0 p1 p2 p).sout = s.sout := by unfold logAt; split <;> rfl
@[simp] theorem logAt_kill (tb code p0 p1 p2 : Nat) (p : Bool) : (logAt s tb code p0 p1 p2 p).kill = s.kill := by unfold logAt; split <;> rfl
@[simp] theorem logAt_sle (tb code p0 p1 p2 : Nat) (p : Bool) : (logAt s tb code p0 p1 p2 p).sle = s.sle := by unfold logAt; split <;> rfl
@[simp] theorem logAt_summit (tb code p0 p1 p2 : Nat) (p : Bool) : (logAt s tb code p0 p1 p2 p).summit = s.summit := by unfold logAt; split <;> rfl
@[simp] theorem logAt_trial (tb code p0 p1 p2 : Nat) (p : Bool) : (logAt s tb code p0 p1 p2 p).trial = s.trial := by unfold logAt; split <;> rfl
@[simp] theorem logAt_lmp (tb code p0 p1 p2 : Nat) (p : Bool) : (logAt s tb code p0 p1 p2 p).lmp = s.lmp := by unfold logAt; split <;> rfl
@[simp] theorem logAt_asp (tb code p0 p1 p2 : Nat) (p : Bool) : (logAt s tb code p0 p1 p2 p).asp = s.asp := by unfold logAt; split <;> rfl
@[simp] theorem logAt_rope (tb code p0 p1 p2 : Nat) (p : Bool) : (logAt s tb code p0 p1 p2 p).rope = s.rope := by unfold logAt; split <;> rfl
@[simp] theorem logAt_bly (tb code p0 p1 p2 : Nat) (p : Bool) : (logAt s tb code p0 p1 p2 p).bly = s.bly := by unfold logAt; split <;> rfl
@[simp] theorem logAt_tmr (tb code p0 p1 p2 : Nat) (p : Bool) : (logAt s tb code p0 p1 p2 p).tmr = s.tmr := by unfold logAt; split <;> rfl
@[simp] theorem logAt_otp (tb code p0 p1 p2 : Nat) (p : Bool) : (logAt s tb code p0 p1 p2 p).otp = s.otp := by unfold logAt; split <;> rfl
@[simp] theorem logAt_flash (tb code p0 p1 p2 : Nat) (p : Bool) : (logAt s tb code p0 p1 p2 p).flash = s.flash := by unfold logAt; split <;> rfl
@[simp] theorem logAt_slots (tb code p0 p1 p2 : Nat) (p : Bool) : (logAt s tb code p0 p1 p2 p).slots = s.slots := by unfold logAt; split <;> rfl
@[simp] theorem logAt_od (tb code p0 p1 p2 : Nat) (p : Bool) : (logAt s tb code p0 p1 p2 p).od = s.od := by unfold logAt; split <;> rfl
@[simp] theorem logAt_adc (tb code p0 p1 p2 : Nat) (p : Bool) : (logAt s tb code p0 p1 p2 p).adc = s.adc := by unfold logAt; split <;> rfl
@[simp] theorem logAt_supv (tb code p0 p1 p2 : Nat) (p : Bool) : (logAt s tb code p0 p1 p2 p).supv = s.supv := by unfold logAt; split <;> rfl
@[simp] theorem logAt_mem (tb code p0 p1 p2 : Nat) (p : Bool) : (logAt s tb code p0 p1 p2 p).mem = s.mem := by unfold logAt; split <;> rfl
@[simp] theorem logAt_mrc (tb code p0 p1 p2 : Nat) (p : Bool) : (logAt s tb code p0 p1 p2 p).mrc = s.mrc := by unfold logAt; split <;> rfl
@[simp] theorem logAt_pwr (tb code p0 p1 p2 : Nat) (p : Bool) : (logAt s tb code p0 p1 p2 p).pwr = s.pwr := by unfold logAt; split <;> rfl
@[simp] theorem logAt_ports (tb code p0 p1 p2 : Nat) (p : Bool) : (logAt s tb code p0 p1 p2 p).ports = s.ports := by unfold logAt; split <;> rfl
@[simp] theorem logAt_bus (tb code p0 p1 p2 : Nat) (p : Bool) : (logAt s tb code p0 p1 p2 p).bus = s.bus := by unfold logAt; split <;> rfl

@[simp] theorem log_pending (code p0 p1 p2 : Nat) : (log s code p0 p1 p2).pending = s.pending := logAt_pending _ _ _ _ _ _ _
@[simp] theorem log_tb (code p0 p1 p2 : Nat) : (log s code p0 p1 p2).tb = s.tb := logAt_tb _ _ _ _ _ _ _
@[simp] theorem log_dev (code p0 p1 p2 : Nat) : (log s code p0 p1 p2).dev = s.dev := logAt_dev _ _ _ _ _ _ _
@[simp] theorem log_regs (code p0 p1 p2 : Nat) : (log s code p0 p1 p2).regs = s.regs := logAt_regs _ _ _ _ _ _ _
@[simp] theorem log_fio (code p0 p1 p2 : Nat) : (log s code p0 p1 p2).fio = s.fio := logAt_fio _ _ _ _ _ _ _
@[simp] theorem log_sout (code p0 p1 p2 : Nat) : (log s code p0 p1 p2).sout = s.sout := logAt_sout _ _ _ _ _ _ _
@[simp] theorem log_kill (code p0 p1 p2 : Nat) : (log s code p0 p1 p2).kill = s.kill := logAt_kill _ _ _ _ _ _ _
@[simp] theorem log_sle (code p0 p1 p2 : Nat) : (log s code p0 p1 p2).sle = s.sle := logAt_sle _ _ _ _ _ _ _
@[simp] theorem log_summit (code p0 p1 p2 : Nat) : (log s code p0 p1 p2).summit = s.summit := logAt_summit _ _ _ _ _ _ _
@[simp] theorem log_trial (code p0 p1 p2 : Nat) : (log s code p0 p1 p2).trial = s.trial := logAt_trial _ _ _ _ _ _ _
@[simp] theorem log_lmp (code p0 p1 p2 : Nat) : (log s code p0 p1 p2).lmp = s.lmp := logAt_lmp _ _ _ _ _ _ _
@[simp] theorem log_asp (code p0 p1 p2 : Nat) : (log s code p0 p1 p2).asp = s.asp := logAt_asp _ _ _ _ _ _ _
@[simp] theorem log_rope (code p0 p1 p2 : Nat) : (log s code p0 p1 p2).rope = s.rope := logAt_rope _ _ _ _ _ _ _
@[simp] theorem log_bly (code p0 p1 p2 : Nat) : (log s code p0 p1 p2).bly = s.bly := logAt_bly _ _ _ _ _ _ _
@[simp] theorem log_tmr (code p0 p1 p2 : Nat) : (log s code p0 p1 p2).tmr = s.tmr := logAt_tmr _ _ _ _ _ _ _
@[simp] theorem log_otp (code p0 p1 p2 : Nat) : (log s code p0 p1 p2).otp = s.otp := logAt_otp _ _ _ _ _ _ _
@[simp] theorem log_flash (code p0 p1 p2 : Nat) : (log s code p0 p1 p2).flash = s.flash := logAt_flash _ _ _ _ _ _ _
@[simp] theorem log_slots (code p0 p1 p2 : Nat) : (log s code p0 p1 p2).slots = s.slots := logAt_slots _ _ _ _ _ _ _
@[simp] theorem log_od (code p0 p1 p2 : Nat) : (log s code p0 p1 p2).od = s.od := logAt_od _ _ _ _ _ _ _
@[simp] theorem log_adc (code p0 p1 p2 : Nat) : (log s code p0 p1 p2).adc = s.adc := logAt_adc _ _ _ _ _ _ _
@[simp] theorem log_supv (code p0 p1 p2 : Nat) : (log s code p0 p1 p2).supv = s.supv := logAt_supv _ _ _ _ _ _ _
@[simp] theorem log_mem (code p0 p1 p2 : Nat) : (log s code p0 p1 p2).mem = s.mem := logAt_mem _ _ _ _ _ _ _
@[simp] theorem log_mrc (code p0 p1 p2 : Nat) : (log s code p0 p1 p2).mrc = s.mrc := logAt_mrc _ _ _ _ _ _ _
@[simp] theorem log_pwr (code p0 p1 p2 : Nat) : (log s code p0 p1 p2).pwr = s.pwr := logAt_pwr _ _ _ _ _ _ _
@[simp] theorem log_ports (code p0 p1 p2 : Nat) : (log s code p0 p1 p2).ports = s.ports := logAt_ports _ _ _ _ _ _ _
@[simp] theorem log_bus (code p0 p1 p2 : Nat) : (log s code p0 p1 p2).bus = s.bus := logAt_bus _ _ _ _ _ _ _

@[simp] theorem enterDev_pending (d : DevState) (cause : Nat) : (enterDev s d cause).pending = s.pending := by
  unfold enterDev; (repeat' split) <;> first | rfl | exact log_pending _ _ _ _ _
@[simp] theorem enterDev_tb (d : DevState) (cause : Nat) : (enterDev s d cause).tb = s.tb := by
  unfold enterDev; (repeat' split) <;> first | rfl | exact log_tb _ _ _ _ _
@[simp] theorem enterDev_regs (d : DevState) (cause : Nat) : (enterDev s d cause).regs = s.regs := by
  unfold enterDev; (repeat' split) <;> first | rfl | exact log_regs _ _ _ _ _
@[simp] theorem enterDev_fio (d : DevState) (cause : Nat) : (enterDev s d cause).fio = s.fio := by
  unfold enterDev; (repeat' split) <;> first | rfl | exact log_fio _ _ _ _ _
@[simp] theorem enterDev_sout (d : DevState) (cause : Nat) : (enterDev s d cause).sout = s.sout := by
  unfold enterDev; (repeat' split) <;> first | rfl | exact log_sout _ _ _ _ _
@[simp] theorem enterDev_kill (d : DevState) (cause : Nat) : (enterDev s d cause).kill = s.kill := by
  unfold enterDev; (repeat' split) <;> first | rfl | exact log_kill _ _ _ _ _
@[simp] theorem enterDev_sle (d : DevState) (cause : Nat) : (enterDev s d cause).sle = s.sle := by
  unfold enterDev; (repeat' split) <;> first | rfl | exact log_sle _ _ _ _ _
@[simp] theorem enterDev_summit (d : DevState) (cause : Nat) : (enterDev s d cause).summit = s.summit := by
  unfold enterDev; (repeat' split) <;> first | rfl | exact log_summit _ _ _ _ _
@[simp] theorem enterDev_trial (d : DevState) (cause : Nat) : (enterDev s d cause).trial = s.trial := by
  unfold enterDev; (repeat' split) <;> first | rfl | exact log_trial _ _ _ _ _
@[simp] theorem enterDev_lmp (d : DevState) (cause : Nat) : (enterDev s d cause).lmp = s.lmp := by
  unfold enterDev; (repeat' split) <;> first | rfl | exact log_lmp _ _ _ _ _
@[simp] theorem enterDev_rope (d : DevState) (cause : Nat) : (enterDev s d cause).rope = s.rope := by
  unfold enterDev; (repeat' split) <;> first | rfl | exact log_rope _ _ _ _ _
@[simp] theorem enterDev_bly (d : DevState) (cause : Nat) : (enterDev s d cause).bly = s.bly := by
  unfold enterDev; (repeat' split) <;> first | rfl | exact log_bly _ _ _ _ _
@[simp] theorem enterDev_tmr (d : DevState) (cause : Nat) : (enterDev s d cause).tmr = s.tmr := by
  unfold enterDev; (repeat' split) <;> first | rfl | exact log_tmr _ _ _ _ _
@[simp] theorem enterDev_otp (d : DevState) (cause : Nat) : (enterDev s d cause).otp = s.otp := by
  unfold enterDev; (repeat' split) <;> first | rfl | exact log_otp _ _ _ _ _
@[simp] theorem enterDev_flash (d : DevState) (cause : Nat) : (enterDev s d cause).flash = s.flash := by
  unfold enterDev; (repeat' split) <;> first | rfl | exact log_flash _ _ _ _ _
@[simp] theorem enterDev_slots (d : DevState) (cause : Nat) : (enterDev s d cause).slots = s.slots := by
  unfold enterDev; (repeat' split) <;> first | rfl | exact log_slots _ _ _ _ _
@[simp] theorem enterDev_od (d : DevState) (cause : Nat) : (enterDev s d cause).od = s.od := by
  unfold enterDev; (repeat' split) <;> first | rfl | exact log_od _ _ _ _ _
@[simp] theorem enterDev_adc (d : DevState) (cause : Nat) : (enterDev s d cause).adc = s.adc := by
  unfold enterDev; (repeat' split) <;> first | rfl | exact log_adc _ _ _ _ _
@[simp] theorem enterDev_supv (d : DevState) (cause : Nat) : (enterDev s d cause).supv = s.supv := by
  unfold enterDev; (repeat' split) <;> first | rfl | exact log_supv _ _ _ _ _
@[simp] theorem enterDev_mem (d : DevState) (cause : Nat) : (enterDev s d cause).mem = s.mem := by
  unfold enterDev; (repeat' split) <;> first | rfl | exact log_mem _ _ _ _ _
@[simp] theorem enterDev_mrc (d : DevState) (cause : Nat) : (enterDev s d cause).mrc = s.mrc := by
  unfold enterDev; (repeat' split) <;> first | rfl | exact log_mrc _ _ _ _ _
@[simp] theorem enterDev_pwr (d : DevState) (cause : Nat) : (enterDev s d cause).pwr = s.pwr := by
  unfold enterDev; (repeat' split) <;> first | rfl | exact log_pwr _ _ _ _ _
@[simp] theorem enterDev_ports (d : DevState) (cause : Nat) : (enterDev s d cause).ports = s.ports := by
  unfold enterDev; (repeat' split) <;> first | rfl | exact log_ports _ _ _ _ _
@[simp] theorem enterDev_bus (d : DevState) (cause : Nat) : (enterDev s d cause).bus = s.bus := by
  unfold enterDev; (repeat' split) <;> first | rfl | exact log_bus _ _ _ _ _

@[simp] theorem cancelSwap_pending : (cancelSwap s).pending = s.pending := by
  unfold cancelSwap; split <;> first | rfl | exact log_pending _ _ _ _ _
@[simp] theorem cancelSwap_tb : (cancelSwap s).tb = s.tb := by
  unfold cancelSwap; split <;> first | rfl | exact log_tb _ _ _ _ _
@[simp] theorem cancelSwap_dev : (cancelSwap s).dev = s.dev := by
  unfold cancelSwap; split <;> first | rfl | exact log_dev _ _ _ _ _
@[simp] theorem cancelSwap_fio : (cancelSwap s).fio = s.fio := by
  unfold cancelSwap; split <;> first | rfl | exact log_fio _ _ _ _ _
@[simp] theorem cancelSwap_sout : (cancelSwap s).sout = s.sout := by
  unfold cancelSwap; split <;> first | rfl | exact log_sout _ _ _ _ _
@[simp] theorem cancelSwap_kill : (cancelSwap s).kill = s.kill := by
  unfold cancelSwap; split <;> first | rfl | exact log_kill _ _ _ _ _
@[simp] theorem cancelSwap_summit : (cancelSwap s).summit = s.summit := by
  unfold cancelSwap; split <;> first | rfl | exact log_summit _ _ _ _ _
@[simp] theorem cancelSwap_trial : (cancelSwap s).trial = s.trial := by
  unfold cancelSwap; split <;> first | rfl | exact log_trial _ _ _ _ _
@[simp] theorem cancelSwap_lmp : (cancelSwap s).lmp = s.lmp := by
  unfold cancelSwap; split <;> first | rfl | exact log_lmp _ _ _ _ _
@[simp] theorem cancelSwap_asp : (cancelSwap s).asp = s.asp := by
  unfold cancelSwap; split <;> first | rfl | exact log_asp _ _ _ _ _
@[simp] theorem cancelSwap_rope : (cancelSwap s).rope = s.rope := by
  unfold cancelSwap; split <;> first | rfl | exact log_rope _ _ _ _ _
@[simp] theorem cancelSwap_bly : (cancelSwap s).bly = s.bly := by
  unfold cancelSwap; split <;> first | rfl | exact log_bly _ _ _ _ _
@[simp] theorem cancelSwap_tmr : (cancelSwap s).tmr = s.tmr := by
  unfold cancelSwap; split <;> first | rfl | exact log_tmr _ _ _ _ _
@[simp] theorem cancelSwap_otp : (cancelSwap s).otp = s.otp := by
  unfold cancelSwap; split <;> first | rfl | exact log_otp _ _ _ _ _
@[simp] theorem cancelSwap_flash : (cancelSwap s).flash = s.flash := by
  unfold cancelSwap; split <;> first | rfl | exact log_flash _ _ _ _ _
@[simp] theorem cancelSwap_slots : (cancelSwap s).slots = s.slots := by
  unfold cancelSwap; split <;> first | rfl | exact log_slots _ _ _ _ _
@[simp] theorem cancelSwap_od : (cancelSwap s).od = s.od := by
  unfold cancelSwap; split <;> first | rfl | exact log_od _ _ _ _ _
@[simp] theorem cancelSwap_adc : (cancelSwap s).adc = s.adc := by
  unfold cancelSwap; split <;> first | rfl | exact log_adc _ _ _ _ _
@[simp] theorem cancelSwap_supv : (cancelSwap s).supv = s.supv := by
  unfold cancelSwap; split <;> first | rfl | exact log_supv _ _ _ _ _
@[simp] theorem cancelSwap_mem : (cancelSwap s).mem = s.mem := by
  unfold cancelSwap; split <;> first | rfl | exact log_mem _ _ _ _ _
@[simp] theorem cancelSwap_mrc : (cancelSwap s).mrc = s.mrc := by
  unfold cancelSwap; split <;> first | rfl | exact log_mrc _ _ _ _ _
@[simp] theorem cancelSwap_pwr : (cancelSwap s).pwr = s.pwr := by
  unfold cancelSwap; split <;> first | rfl | exact log_pwr _ _ _ _ _
@[simp] theorem cancelSwap_ports : (cancelSwap s).ports = s.ports := by
  unfold cancelSwap; split <;> first | rfl | exact log_ports _ _ _ _ _
@[simp] theorem cancelSwap_bus : (cancelSwap s).bus = s.bus := by
  unfold cancelSwap; split <;> first | rfl | exact log_bus _ _ _ _ _

@[simp] theorem fatal_pending (code param : Nat) : (fatal s code param).pending = s.pending := by
  unfold fatal; split <;> first | rfl | rw [enterDev_pending, cancelSwap_pending, log_pending]
@[simp] theorem fatal_tb (code param : Nat) : (fatal s code param).tb = s.tb := by
  unfold fatal; split <;> first | rfl | rw [enterDev_tb, cancelSwap_tb, log_tb]
@[simp] theorem fatal_fio (code param : Nat) : (fatal s code param).fio = s.fio := by
  unfold fatal; split <;> first | rfl | rw [enterDev_fio, cancelSwap_fio, log_fio]
@[simp] theorem fatal_sout (code param : Nat) : (fatal s code param).sout = s.sout := by
  unfold fatal; split <;> first | rfl | rw [enterDev_sout, cancelSwap_sout, log_sout]
@[simp] theorem fatal_kill (code param : Nat) : (fatal s code param).kill = s.kill := by
  unfold fatal; split <;> first | rfl | rw [enterDev_kill, cancelSwap_kill, log_kill]
@[simp] theorem fatal_trial (code param : Nat) : (fatal s code param).trial = s.trial := by
  unfold fatal; split <;> first | rfl | rw [enterDev_trial, cancelSwap_trial, log_trial]
@[simp] theorem fatal_lmp (code param : Nat) : (fatal s code param).lmp = s.lmp := by
  unfold fatal; split <;> first | rfl | rw [enterDev_lmp, cancelSwap_lmp, log_lmp]
@[simp] theorem fatal_rope (code param : Nat) : (fatal s code param).rope = s.rope := by
  unfold fatal; split <;> first | rfl | rw [enterDev_rope, cancelSwap_rope, log_rope]
@[simp] theorem fatal_bly (code param : Nat) : (fatal s code param).bly = s.bly := by
  unfold fatal; split <;> first | rfl | rw [enterDev_bly, cancelSwap_bly, log_bly]
@[simp] theorem fatal_tmr (code param : Nat) : (fatal s code param).tmr = s.tmr := by
  unfold fatal; split <;> first | rfl | rw [enterDev_tmr, cancelSwap_tmr, log_tmr]
@[simp] theorem fatal_otp (code param : Nat) : (fatal s code param).otp = s.otp := by
  unfold fatal; split <;> first | rfl | rw [enterDev_otp, cancelSwap_otp, log_otp]
@[simp] theorem fatal_flash (code param : Nat) : (fatal s code param).flash = s.flash := by
  unfold fatal; split <;> first | rfl | rw [enterDev_flash, cancelSwap_flash, log_flash]
@[simp] theorem fatal_slots (code param : Nat) : (fatal s code param).slots = s.slots := by
  unfold fatal; split <;> first | rfl | rw [enterDev_slots, cancelSwap_slots, log_slots]
@[simp] theorem fatal_od (code param : Nat) : (fatal s code param).od = s.od := by
  unfold fatal; split <;> first | rfl | rw [enterDev_od, cancelSwap_od, log_od]
@[simp] theorem fatal_adc (code param : Nat) : (fatal s code param).adc = s.adc := by
  unfold fatal; split <;> first | rfl | rw [enterDev_adc, cancelSwap_adc, log_adc]
@[simp] theorem fatal_supv (code param : Nat) : (fatal s code param).supv = s.supv := by
  unfold fatal; split <;> first | rfl | rw [enterDev_supv, cancelSwap_supv, log_supv]
@[simp] theorem fatal_mem (code param : Nat) : (fatal s code param).mem = s.mem := by
  unfold fatal; split <;> first | rfl | rw [enterDev_mem, cancelSwap_mem, log_mem]
@[simp] theorem fatal_mrc (code param : Nat) : (fatal s code param).mrc = s.mrc := by
  unfold fatal; split <;> first | rfl | rw [enterDev_mrc, cancelSwap_mrc, log_mrc]
@[simp] theorem fatal_pwr (code param : Nat) : (fatal s code param).pwr = s.pwr := by
  unfold fatal; split <;> first | rfl | rw [enterDev_pwr, cancelSwap_pwr, log_pwr]
@[simp] theorem fatal_ports (code param : Nat) : (fatal s code param).ports = s.ports := by
  unfold fatal; split <;> first | rfl | rw [enterDev_ports, cancelSwap_ports, log_ports]
@[simp] theorem fatal_bus (code param : Nat) : (fatal s code param).bus = s.bus := by
  unfold fatal; split <;> first | rfl | rw [enterDev_bus, cancelSwap_bus, log_bus]

@[simp] theorem degrade_pending : (degrade s).pending = s.pending := by
  unfold degrade; split <;> first | rfl | exact enterDev_pending _ _ _
@[simp] theorem degrade_tb : (degrade s).tb = s.tb := by
  unfold degrade; split <;> first | rfl | exact enterDev_tb _ _ _
@[simp] theorem degrade_regs : (degrade s).regs = s.regs := by
  unfold degrade; split <;> first | rfl | exact enterDev_regs _ _ _
@[simp] theorem degrade_fio : (degrade s).fio = s.fio := by
  unfold degrade; split <;> first | rfl | exact enterDev_fio _ _ _
@[simp] theorem degrade_sout : (degrade s).sout = s.sout := by
  unfold degrade; split <;> first | rfl | exact enterDev_sout _ _ _
@[simp] theorem degrade_kill : (degrade s).kill = s.kill := by
  unfold degrade; split <;> first | rfl | exact enterDev_kill _ _ _
@[simp] theorem degrade_sle : (degrade s).sle = s.sle := by
  unfold degrade; split <;> first | rfl | exact enterDev_sle _ _ _
@[simp] theorem degrade_summit : (degrade s).summit = s.summit := by
  unfold degrade; split <;> first | rfl | exact enterDev_summit _ _ _
@[simp] theorem degrade_trial : (degrade s).trial = s.trial := by
  unfold degrade; split <;> first | rfl | exact enterDev_trial _ _ _
@[simp] theorem degrade_lmp : (degrade s).lmp = s.lmp := by
  unfold degrade; split <;> first | rfl | exact enterDev_lmp _ _ _
@[simp] theorem degrade_rope : (degrade s).rope = s.rope := by
  unfold degrade; split <;> first | rfl | exact enterDev_rope _ _ _
@[simp] theorem degrade_bly : (degrade s).bly = s.bly := by
  unfold degrade; split <;> first | rfl | exact enterDev_bly _ _ _
@[simp] theorem degrade_tmr : (degrade s).tmr = s.tmr := by
  unfold degrade; split <;> first | rfl | exact enterDev_tmr _ _ _
@[simp] theorem degrade_otp : (degrade s).otp = s.otp := by
  unfold degrade; split <;> first | rfl | exact enterDev_otp _ _ _
@[simp] theorem degrade_flash : (degrade s).flash = s.flash := by
  unfold degrade; split <;> first | rfl | exact enterDev_flash _ _ _
@[simp] theorem degrade_slots : (degrade s).slots = s.slots := by
  unfold degrade; split <;> first | rfl | exact enterDev_slots _ _ _
@[simp] theorem degrade_od : (degrade s).od = s.od := by
  unfold degrade; split <;> first | rfl | exact enterDev_od _ _ _
@[simp] theorem degrade_adc : (degrade s).adc = s.adc := by
  unfold degrade; split <;> first | rfl | exact enterDev_adc _ _ _
@[simp] theorem degrade_supv : (degrade s).supv = s.supv := by
  unfold degrade; split <;> first | rfl | exact enterDev_supv _ _ _
@[simp] theorem degrade_mem : (degrade s).mem = s.mem := by
  unfold degrade; split <;> first | rfl | exact enterDev_mem _ _ _
@[simp] theorem degrade_mrc : (degrade s).mrc = s.mrc := by
  unfold degrade; split <;> first | rfl | exact enterDev_mrc _ _ _
@[simp] theorem degrade_pwr : (degrade s).pwr = s.pwr := by
  unfold degrade; split <;> first | rfl | exact enterDev_pwr _ _ _
@[simp] theorem degrade_ports : (degrade s).ports = s.ports := by
  unfold degrade; split <;> first | rfl | exact enterDev_ports _ _ _
@[simp] theorem degrade_bus : (degrade s).bus = s.bus := by
  unfold degrade; split <;> first | rfl | exact enterDev_bus _ _ _

@[simp] theorem safeStop_pending (cause : Nat) : (safeStop s cause).pending = s.pending := by
  unfold safeStop; split <;> first | rfl | exact enterDev_pending _ _ _
@[simp] theorem safeStop_tb (cause : Nat) : (safeStop s cause).tb = s.tb := by
  unfold safeStop; split <;> first | rfl | exact enterDev_tb _ _ _
@[simp] theorem safeStop_regs (cause : Nat) : (safeStop s cause).regs = s.regs := by
  unfold safeStop; split <;> first | rfl | exact enterDev_regs _ _ _
@[simp] theorem safeStop_fio (cause : Nat) : (safeStop s cause).fio = s.fio := by
  unfold safeStop; split <;> first | rfl | exact enterDev_fio _ _ _
@[simp] theorem safeStop_sout (cause : Nat) : (safeStop s cause).sout = s.sout := by
  unfold safeStop; split <;> first | rfl | exact enterDev_sout _ _ _
@[simp] theorem safeStop_kill (cause : Nat) : (safeStop s cause).kill = s.kill := by
  unfold safeStop; split <;> first | rfl | exact enterDev_kill _ _ _
@[simp] theorem safeStop_sle (cause : Nat) : (safeStop s cause).sle = s.sle := by
  unfold safeStop; split <;> first | rfl | exact enterDev_sle _ _ _
@[simp] theorem safeStop_summit (cause : Nat) : (safeStop s cause).summit = s.summit := by
  unfold safeStop; split <;> first | rfl | exact enterDev_summit _ _ _
@[simp] theorem safeStop_trial (cause : Nat) : (safeStop s cause).trial = s.trial := by
  unfold safeStop; split <;> first | rfl | exact enterDev_trial _ _ _
@[simp] theorem safeStop_lmp (cause : Nat) : (safeStop s cause).lmp = s.lmp := by
  unfold safeStop; split <;> first | rfl | exact enterDev_lmp _ _ _
@[simp] theorem safeStop_rope (cause : Nat) : (safeStop s cause).rope = s.rope := by
  unfold safeStop; split <;> first | rfl | exact enterDev_rope _ _ _
@[simp] theorem safeStop_bly (cause : Nat) : (safeStop s cause).bly = s.bly := by
  unfold safeStop; split <;> first | rfl | exact enterDev_bly _ _ _
@[simp] theorem safeStop_tmr (cause : Nat) : (safeStop s cause).tmr = s.tmr := by
  unfold safeStop; split <;> first | rfl | exact enterDev_tmr _ _ _
@[simp] theorem safeStop_otp (cause : Nat) : (safeStop s cause).otp = s.otp := by
  unfold safeStop; split <;> first | rfl | exact enterDev_otp _ _ _
@[simp] theorem safeStop_flash (cause : Nat) : (safeStop s cause).flash = s.flash := by
  unfold safeStop; split <;> first | rfl | exact enterDev_flash _ _ _
@[simp] theorem safeStop_slots (cause : Nat) : (safeStop s cause).slots = s.slots := by
  unfold safeStop; split <;> first | rfl | exact enterDev_slots _ _ _
@[simp] theorem safeStop_od (cause : Nat) : (safeStop s cause).od = s.od := by
  unfold safeStop; split <;> first | rfl | exact enterDev_od _ _ _
@[simp] theorem safeStop_adc (cause : Nat) : (safeStop s cause).adc = s.adc := by
  unfold safeStop; split <;> first | rfl | exact enterDev_adc _ _ _
@[simp] theorem safeStop_supv (cause : Nat) : (safeStop s cause).supv = s.supv := by
  unfold safeStop; split <;> first | rfl | exact enterDev_supv _ _ _
@[simp] theorem safeStop_mem (cause : Nat) : (safeStop s cause).mem = s.mem := by
  unfold safeStop; split <;> first | rfl | exact enterDev_mem _ _ _
@[simp] theorem safeStop_mrc (cause : Nat) : (safeStop s cause).mrc = s.mrc := by
  unfold safeStop; split <;> first | rfl | exact enterDev_mrc _ _ _
@[simp] theorem safeStop_pwr (cause : Nat) : (safeStop s cause).pwr = s.pwr := by
  unfold safeStop; split <;> first | rfl | exact enterDev_pwr _ _ _
@[simp] theorem safeStop_ports (cause : Nat) : (safeStop s cause).ports = s.ports := by
  unfold safeStop; split <;> first | rfl | exact enterDev_ports _ _ _
@[simp] theorem safeStop_bus (cause : Nat) : (safeStop s cause).bus = s.bus := by
  unfold safeStop; split <;> first | rfl | exact enterDev_bus _ _ _

@[simp] theorem settle_pending : (settle s).pending = s.pending := rfl
@[simp] theorem settle_tb : (settle s).tb = s.tb := rfl
@[simp] theorem settle_dev : (settle s).dev = s.dev := rfl
@[simp] theorem settle_regs : (settle s).regs = s.regs := rfl
@[simp] theorem settle_jrn : (settle s).jrn = s.jrn := rfl
@[simp] theorem settle_fio : (settle s).fio = s.fio := rfl
@[simp] theorem settle_kill : (settle s).kill = s.kill := rfl
@[simp] theorem settle_sle : (settle s).sle = s.sle := rfl
@[simp] theorem settle_summit : (settle s).summit = s.summit := rfl
@[simp] theorem settle_trial : (settle s).trial = s.trial := rfl
@[simp] theorem settle_lmp : (settle s).lmp = s.lmp := rfl
@[simp] theorem settle_asp : (settle s).asp = s.asp := rfl
@[simp] theorem settle_rope : (settle s).rope = s.rope := rfl
@[simp] theorem settle_bly : (settle s).bly = s.bly := rfl
@[simp] theorem settle_tmr : (settle s).tmr = s.tmr := rfl
@[simp] theorem settle_otp : (settle s).otp = s.otp := rfl
@[simp] theorem settle_flash : (settle s).flash = s.flash := rfl
@[simp] theorem settle_slots : (settle s).slots = s.slots := rfl
@[simp] theorem settle_od : (settle s).od = s.od := rfl
@[simp] theorem settle_adc : (settle s).adc = s.adc := rfl
@[simp] theorem settle_supv : (settle s).supv = s.supv := rfl
@[simp] theorem settle_mem : (settle s).mem = s.mem := rfl
@[simp] theorem settle_mrc : (settle s).mrc = s.mrc := rfl
@[simp] theorem settle_pwr : (settle s).pwr = s.pwr := rfl
@[simp] theorem settle_ports : (settle s).ports = s.ports := rfl
@[simp] theorem settle_bus : (settle s).bus = s.bus := rfl

end Sys2Proof.Machine
end

