-- ==== Sys2Proof/Laws/Tab.lean ====
section
/-!
SUPPORT. Sparse tables and registers: a read after a write to the same key gives the value written, a write leaves every other key
alone, and the canonical form is kept.
-/
namespace Sys2Proof.Machine

theorem tabFind_ins {α : Type} (t : Tab α) (k j : Nat) (v : α) : tabFind (tabIns t k v) j = if k = j then some v else tabFind t j := by
  induction t with
  | nil => rfl
  | cons x t ih =>
    obtain ⟨i, w⟩ := x
    simp only [tabIns]
    split
    · subst i; simp only [tabFind]; split <;> rfl
    · split
      · simp only [tabFind]
      · simp only [tabFind, ih]
        by_cases h : i = j
        · subst h; simp; omega
        · simp [h]

theorem tabFind_erase {α : Type} (t : Tab α) (k j : Nat) : tabFind (tabErase t k) j = if k = j then none else tabFind t j := by
  induction t with
  | nil => simp [tabErase, tabFind]
  | cons x t ih =>
    obtain ⟨i, w⟩ := x
    simp only [tabErase]
    split
    · subst i; rw [ih]; simp only [tabFind]; split <;> simp_all
    · simp only [tabFind, ih]
      by_cases h : i = j
      · subst h; simp; omega
      · simp [h]

/-- A table reads as written at the key written, and as before at every other key. -/
@[simp] theorem tabGet_put {α : Type} [DecidableEq α] (d : α) (t : Tab α) (k j : Nat) (v : α) :
    tabGet d (tabPut d t k v) j = if k = j then v else tabGet d t j := by
  unfold tabGet tabPut
  split
  · rw [tabFind_erase]; split <;> simp_all
  · rw [tabFind_ins]; split <;> simp

/-- A register reads as written, and every other register as before. -/
theorem regGet_set (s : State) (a b : Nat) (w : Word) : regGet (regSet s a w) b = if a = b then w else regGet s b := by
  unfold regGet regSet tabPut
  by_cases h : a = b
  · subst h
    by_cases e : w = resetWord a
    · simp [e, tabFind_erase]
    · simp [e, tabFind_ins]
  · by_cases e : w = resetWord a
    · simp [e, tabFind_erase, h]
    · simp [e, tabFind_ins, h]

@[simp] theorem regGet_set_self (s : State) (a : Nat) (w : Word) : regGet (regSet s a w) a = w := by simp [regGet_set]

theorem regGet_congr {s t : State} (h : t.regs = s.regs) (a : Nat) : regGet t a = regGet s a := by unfold regGet; rw [h]

@[simp] theorem regGet_settle (s : State) (a : Nat) : regGet (settle s) a = regGet s a := rfl
@[simp] theorem fldGet_settle (s : State) (a : Nat) (f : Fld) : fldGet (settle s) a f = fldGet s a f := rfl
@[simp] theorem inGet_settle (s : State) (i : Nat) : inGet (settle s) i = inGet s i := rfl
@[simp] theorem srcGet_settle (s : State) (n : Nat) : srcGet (settle s) n = srcGet s n := rfl
@[simp] theorem regGet_busOk (s : State) (d a : Nat) : regGet (busOk s d) a = regGet s a := rfl
@[simp] theorem regGet_busErr (s : State) (a : Nat) : regGet (busErr s) a = regGet s a := rfl

/-- A live block's command acts. -/
theorem live_up {s t : State} (h : coreDown s = false) : live s t = t := by simp [live, h]

/-- Without power in the core, or in reset, it has no effect. -/
theorem live_down {s t : State} (h : coreDown s = true) : live s t = s := by simp [live, h]

/-- A field keeps its width. -/
theorem getF_lt (w : Word) (f : Fld) : getF w f < 2 ^ (f.hi - f.lo + 1) := Nat.mod_lt _ (Nat.two_pow_pos _)

/-! ## The canonical form -/

theorem tabWfFrom_mono {α : Type} [DecidableEq α] (d : Nat → α) {a b : Nat} (h : a ≤ b) (t : Tab α) (w : tabWfFrom d b t = true) :
    tabWfFrom d a t = true := by
  cases t with
  | nil => rfl
  | cons x t => obtain ⟨i, v⟩ := x; simp [tabWfFrom] at *; exact ⟨⟨by omega, w.1.2⟩, w.2⟩

theorem tabWfFrom_ins {α : Type} [DecidableEq α] (d : Nat → α) (v : α) (k : Nat) (hv : v ≠ d k) :
    ∀ (t : Tab α) (lo : Nat), lo ≤ k → tabWfFrom d lo t = true → tabWfFrom d lo (tabIns t k v) = true := by
  intro t
  induction t with
  | nil => intro lo h _; simp [tabIns, tabWfFrom, h, hv]
  | cons x t ih =>
    obtain ⟨i, w⟩ := x
    intro lo h hw
    simp only [tabIns]
    simp [tabWfFrom] at hw
    split
    · subst i; simp [tabWfFrom, hw, hv]
    · split
      · simp [tabWfFrom, hw, hv, h]; omega
      · simp [tabWfFrom, hw, ih (i + 1) (by omega) hw.2]

theorem tabWfFrom_erase {α : Type} [DecidableEq α] (d : Nat → α) (k : Nat) :
    ∀ (t : Tab α) (lo : Nat), tabWfFrom d lo t = true → tabWfFrom d lo (tabErase t k) = true := by
  intro t
  induction t with
  | nil => intro lo _; rfl
  | cons x t ih =>
    obtain ⟨i, w⟩ := x
    intro lo hw
    simp [tabWfFrom] at hw
    simp only [tabErase]
    split
    · exact tabWfFrom_mono d (by omega) _ (ih _ hw.2)
    · simp [tabWfFrom, hw, ih _ hw.2]

/-- The write of a table keeps the canonical form. -/
theorem tabWf_put {α : Type} [DecidableEq α] (d : α) (t : Tab α) (k : Nat) (v : α) (h : tabWf (fun _ => d) t = true) :
    tabWf (fun _ => d) (tabPut d t k v) = true := by
  unfold tabPut
  split
  · exact tabWfFrom_erase _ k t 0 h
  · rename_i e; exact tabWfFrom_ins _ v k e t 0 (Nat.zero_le _) h

/-- So does the write of a register. -/
theorem regs_wf (s : State) (a : Nat) (w : Word) (h : tabWf resetWord s.regs = true) : tabWf resetWord (regSet s a w).regs = true := by
  unfold regSet tabPut
  split
  · exact tabWfFrom_erase _ a _ 0 h
  · rename_i e; exact tabWfFrom_ins _ w a e _ 0 (Nat.zero_le _) h

end Sys2Proof.Machine
end

