-- ==== Sys2Proof/Laws/Memory.lean ====
section
/-!
SUPPORT. The memories: a byte reads as last written, a write leaves every other byte alone, and every memory operation keeps the
canonical form (R30, R415, R480).
-/
namespace Sys2Proof.Machine

@[simp] theorem memEpoch_setByte (m : Mem) (a c : Nat) (b : Byte) : memEpoch (memSetByte m a b) c = memEpoch m c := by
  unfold memSetByte; split <;> rfl

@[simp] theorem memEpoch_setBytes (bs : List Byte) (m : Mem) (a c : Nat) : memEpoch (memSetBytes m a bs) c = memEpoch m c := by
  induction bs generalizing m a with
  | nil => rfl
  | cons b t ih => simp [memSetBytes, ih]

/-- A byte reads as written, and every other byte as before. -/
theorem memByte_setByte (m : Mem) (a c : Nat) (b : Byte) : memByte (memSetByte m a b) c = if a = c then b else memByte m c := by
  have hb : memBlank (memSetByte m a b) c = memBlank m c := by unfold memBlank; rw [memEpoch_setByte]
  unfold memByte
  rw [hb]
  unfold memSetByte
  split
  · rename_i he
    unfold tabPut
    split
    · rw [tabFind_erase]
      split
      · subst_vars; simp [memBlank, he]
      · rfl
    · rw [tabFind_ins]; split <;> rfl
  · rw [tabFind_ins]; split <;> rfl

/-- Consecutive bytes read as written, and every other byte as before. -/
theorem memByte_setBytes (bs : List Byte) (m : Mem) (a c : Nat) :
    memByte (memSetBytes m a bs) c = if a ≤ c ∧ c < a + bs.length then bs.getD (c - a) 0 else memByte m c := by
  induction bs generalizing m a with
  | nil => rw [memSetBytes, List.length_nil, if_neg (by omega)]
  | cons b t ih =>
    rw [memSetBytes, ih, memByte_setByte]
    by_cases h : a = c
    · subst h; rw [if_neg (by omega), if_pos (by simp), if_pos (by simp)]; simp
    · by_cases g : a + 1 ≤ c ∧ c < a + 1 + t.length
      · rw [if_pos g, if_pos (by simp; omega), show c - a = (c - (a + 1)) + 1 by omega]; rfl
      · rw [if_neg g, if_neg h, if_neg (by simp; omega)]

@[simp] theorem length_leBytes (k n : Nat) : (leBytes k n).length = k := by
  induction k generalizing n with
  | zero => rfl
  | succ k ih => simp [leBytes, ih]

theorem ofLe_leBytes (k n : Nat) : ofLe (leBytes k n) = n % 256 ^ k := by
  induction k generalizing n with
  | zero => simp [leBytes, ofLe, Nat.mod_one]
  | succ k ih =>
    simp only [leBytes, ofLe, ih, BitVec.toNat_ofNat]
    rw [show (256 : Nat) ^ (k + 1) = 256 * 256 ^ k by rw [Nat.pow_succ, Nat.mul_comm], Nat.mod_mul]

/-! ## The canonical form -/

theorem memWfFrom_congr {m n : Mem} (h : ∀ a, memEpoch m a = memEpoch n a) (lo : Nat) (t : Tab Byte) : memWfFrom m lo t = memWfFrom n lo t := by
  induction t generalizing lo with
  | nil => rfl
  | cons x t ih => obtain ⟨a, b⟩ := x; simp only [memWfFrom, h, ih]

theorem memWfFrom_mono (m : Mem) {a b : Nat} (h : a ≤ b) (t : Tab Byte) (w : memWfFrom m b t = true) : memWfFrom m a t = true := by
  cases t with
  | nil => rfl
  | cons x t =>
    obtain ⟨i, v⟩ := x
    simp only [memWfFrom, Bool.and_eq_true, decide_eq_true_eq] at *
    exact ⟨⟨Nat.le_trans h w.1.1, w.1.2⟩, w.2⟩

theorem memWfFrom_ins (m : Mem) (k : Nat) (v : Byte) (hv : ¬(memEpoch m k = none ∧ v = 0)) :
    ∀ (t : Tab Byte) (lo : Nat), lo ≤ k → memWfFrom m lo t = true → memWfFrom m lo (tabIns t k v) = true := by
  intro t
  have hd : (!(memEpoch m k = none && v = 0)) = true := by
    cases e : memEpoch m k <;> simp_all
  induction t with
  | nil => intro lo h _; simp only [tabIns, memWfFrom, Bool.and_eq_true, decide_eq_true_eq]; exact ⟨⟨h, by simpa using hd⟩, trivial⟩
  | cons x t ih =>
    obtain ⟨i, w⟩ := x
    intro lo h hw
    simp only [memWfFrom, Bool.and_eq_true, decide_eq_true_eq] at hw
    simp only [tabIns]
    split
    · subst i; simp only [memWfFrom, Bool.and_eq_true, decide_eq_true_eq]; exact ⟨⟨h, by simpa using hd⟩, hw.2⟩
    · split
      · simp only [memWfFrom, Bool.and_eq_true, decide_eq_true_eq]
        exact ⟨⟨h, by simpa using hd⟩, ⟨by omega, hw.1.2⟩, hw.2⟩
      · simp only [memWfFrom, Bool.and_eq_true, decide_eq_true_eq]
        exact ⟨hw.1, ih (i + 1) (by omega) hw.2⟩

theorem memWfFrom_erase (m : Mem) (k : Nat) : ∀ (t : Tab Byte) (lo : Nat), memWfFrom m lo t = true → memWfFrom m lo (tabErase t k) = true := by
  intro t
  induction t with
  | nil => intro lo _; rfl
  | cons x t ih =>
    obtain ⟨i, w⟩ := x
    intro lo hw
    simp only [memWfFrom, Bool.and_eq_true, decide_eq_true_eq] at hw
    simp only [tabErase]
    split
    · exact memWfFrom_mono m (by omega) _ (ih _ hw.2)
    · simp only [memWfFrom, Bool.and_eq_true, decide_eq_true_eq]; exact ⟨hw.1, ih _ hw.2⟩

theorem memWfFrom_filter (m : Mem) (p : Nat × Byte → Bool) : ∀ (t : Tab Byte) (lo : Nat), memWfFrom m lo t = true → memWfFrom m lo (t.filter p) = true := by
  intro t
  induction t with
  | nil => intro lo _; rfl
  | cons x t ih =>
    obtain ⟨i, w⟩ := x
    intro lo hw
    simp only [memWfFrom, Bool.and_eq_true, decide_eq_true_eq] at hw
    simp only [List.filter_cons]
    split
    · simp only [memWfFrom, Bool.and_eq_true, decide_eq_true_eq]; exact ⟨hw.1, ih _ hw.2⟩
    · exact memWfFrom_mono m (by omega) _ (ih _ hw.2)

/-- A form kept while bytes that were undefined stay so or fewer bytes read 0 unlisted. -/
theorem memWfFrom_weaken {m n : Mem} (h : ∀ a, memEpoch n a = none → memEpoch m a = none) (lo : Nat) (t : Tab Byte)
    (w : memWfFrom m lo t = true) : memWfFrom n lo t = true := by
  induction t generalizing lo with
  | nil => rfl
  | cons x t ih =>
    obtain ⟨a, b⟩ := x
    simp only [memWfFrom, Bool.and_eq_true, decide_eq_true_eq] at *
    refine ⟨⟨w.1.1, ?_⟩, ih _ w.2⟩
    have := w.1.2
    cases e : memEpoch n a with
    | none => simpa [h a e] using this
    | some _ => simp

theorem memSetByte_wf (m : Mem) (a : Nat) (b : Byte) (h : m.wf = true) : (memSetByte m a b).wf = true := by
  have e : (memSetByte m a b).wf = memWfFrom m 0 (memSetByte m a b).cells := memWfFrom_congr (memEpoch_setByte m a · b) _ _
  rw [e]
  unfold memSetByte tabPut
  split
  · split
    · exact memWfFrom_erase m a _ 0 h
    · rename_i g; exact memWfFrom_ins m a b (fun x => g x.2) _ 0 (Nat.zero_le _) h
  · rename_i g; exact memWfFrom_ins m a b (fun x => g x.1) _ 0 (Nat.zero_le _) h

theorem memSetBytes_wf (bs : List Byte) (m : Mem) (a : Nat) (h : m.wf = true) : (memSetBytes m a bs).wf = true := by
  induction bs generalizing m a with
  | nil => exact h
  | cons b t ih => exact ih _ _ (memSetByte_wf m a b h)

theorem memZero_wf (m : Mem) : (memZero m).wf = true := rfl
theorem memLose_wf (m : Mem) : (memLose m).wf = true := rfl

theorem memForget_wf (p : Nat → Bool) (m : Mem) (h : m.wf = true) : (memForget p m).wf = true :=
  (memWfFrom_congr (m := memForget p m) (n := m) (fun _ => rfl) _ _).trans (memWfFrom_filter m _ _ 0 h)

theorem memLoseSram_wf (m : Mem) (h : m.wf = true) : (memLoseSram m).wf = true := by
  refine memWfFrom_weaken (m := memForget inSram m) (fun a e => ?_) 0 _ (memForget_wf inSram m h)
  unfold memEpoch memLoseSram at *
  split at e <;> simp_all [memForget]

theorem memSaveBank0_wf (m : Mem) (h : m.wf = true) : (memSaveBank0 m).wf = true := by
  refine memWfFrom_weaken (m := memForget (fun a => inRet a && retBank a = 0) m) (fun a e => ?_) 0 _ (memForget_wf _ m h)
  unfold memEpoch memSaveBank0 at *
  (repeat' split at e) <;> simp_all [memForget]

theorem foldl_wf {α : Type} (f : Mem → α → Mem) (hf : ∀ m x, m.wf = true → (f m x).wf = true) (l : List α) (m : Mem) (h : m.wf = true) :
    (l.foldl f m).wf = true := by
  induction l generalizing m with
  | nil => exact h
  | cons x t ih => exact ih _ (hf m x h)

theorem memClearRet_wf (m : Mem) (b : Nat) (h : m.wf = true) : (memClearRet m b).wf = true := by
  unfold memClearRet
  split
  · exact memForget_wf _ m h
  · exact foldl_wf _ (fun n k hn => memSetByte_wf n _ 0 hn) _ m h

theorem reset_mem_wf : State.reset.mem.wf = true := rfl

end Sys2Proof.Machine
end

