-- ==== Sys2Proof/Laws/Outputs.lean ====
section
/-!
SUPPORT. Every command answers a next state, and its last act is to settle the safe outputs; what settling does (R134, R135, R149).
-/
namespace Sys2Proof.Machine

/-- Every command completes, and its outputs have settled. -/
theorem exec_settles (c : Instr) (s : State) : ∃ b, exec c s = .next (settle b) := by cases c <;> exact ⟨_, rfl⟩

/-- So does every step. -/
theorem step_settles (s : State) : ∃ b, step s = .next (settle b) := by
  unfold step
  split
  · exact ⟨_, rfl⟩
  · exact exec_settles _ _

theorem packBits_lt (f : Nat → Bool) (k : Nat) : packBits f k < 2 ^ k := by
  induction k with
  | zero => simp [packBits]
  | succ k ih => simp only [packBits, Nat.pow_succ]; split <;> omega

/-- Bit `c` of `x + b · 2 ^ k` with `x < 2 ^ k`. -/
theorem bitN_add {x k c : Nat} (b : Bool) (h : x < 2 ^ k) :
    bitN (x + (if b then 2 ^ k else 0)) c = if c = k then b else bitN x c := by
  cases b
  · by_cases g : c = k
    · subst g; simp [bitN, Nat.div_eq_of_lt h]
    · simp [g]
  · rcases Nat.lt_trichotomy c k with g | g | g
    · obtain ⟨d, rfl⟩ : ∃ d, k = c + 1 + d := ⟨k - c - 1, by omega⟩
      have e : (2 : Nat) ^ (c + 1 + d) = 2 * 2 ^ d * 2 ^ c := by rw [Nat.pow_add, Nat.pow_succ, Nat.mul_comm (2 ^ c) 2, Nat.mul_assoc,
        Nat.mul_comm (2 ^ c), ← Nat.mul_assoc]
      have n : c ≠ c + 1 + d := by omega
      simp only [bitN, if_true, if_neg n, e, Nat.add_mul_div_right _ _ (Nat.two_pow_pos c), Nat.add_mul_mod_self_left]
    · subst g
      have e : (x + 2 ^ c) / 2 ^ c = 1 := by rw [Nat.add_div_right _ (Nat.two_pow_pos c), Nat.div_eq_of_lt h]
      simp [bitN, e]
    · have p : 2 ^ (k + 1) ≤ 2 ^ c := Nat.pow_le_pow_right (by omega) g
      rw [Nat.pow_succ] at p
      have n : c ≠ k := by omega
      simp [bitN, n, Nat.div_eq_of_lt (show x + 2 ^ k < 2 ^ c by omega), Nat.div_eq_of_lt (show x < 2 ^ c by omega)]

/-- The bits of a packed number. -/
theorem bitN_packBits (f : Nat → Bool) (k c : Nat) : bitN (packBits f k) c = (decide (c < k) && f c) := by
  induction k with
  | zero => simp [bitN, packBits]
  | succ k ih =>
    rw [packBits, bitN_add _ (packBits_lt f k), ih]
    split
    · subst_vars; simp
    · by_cases g : c < k
      · simp [g, Nat.lt_succ_of_lt g]
      · simp [g, show ¬ c < k + 1 by omega]

theorem packBits_congr {f g : Nat → Bool} {k : Nat} (h : ∀ c, c < k → f c = g c) : packBits f k = packBits g k := by
  induction k with
  | zero => rfl
  | succ k ih => simp only [packBits, h k (by omega), ih fun c hc => h c (by omega)]

theorem chChanged_fault (tb ow : Nat) (x : ChSt) : (chChanged tb ow x).fault = x.fault := rfl

/-- A change of the switch states latches no fault and clears none. -/
theorem chTableAfter_fault (s : State) (old new k c : Nat) :
    (tabGet chSt0 (chTableAfter s old new k) c).fault = (chGet s c).fault := by
  induction k with
  | zero => rfl
  | succ k ih =>
    simp only [chTableAfter]
    split
    · exact ih
    · rw [tabGet_put]
      split
      · subst_vars; rw [chChanged_fault]; exact ih
      · exact ih

theorem chTableAfter_same (s : State) (v k : Nat) : chTableAfter s v v k = s.sout.ch := by
  induction k with
  | zero => rfl
  | succ k ih => simp [chTableAfter, ih]

theorem chEnabled_settle (s : State) (c : Nat) : chEnabled (settle s) c = chEnabled s c := by
  have h : (chGet (settle s) c).fault = (chGet s c).fault := chTableAfter_fault s _ _ 24 c
  unfold chEnabled
  rw [h]
  rfl

/-- After settling every applied bit is its formula. -/
theorem applied_settle (s : State) (c : Nat) : bitN (settle s).sout.applied c = (decide (c < 24) && chApplied s c) :=
  bitN_packBits _ _ _

theorem chApplied_settle (s : State) {c : Nat} (h : c < 24) : chApplied (settle s) c = chApplied s c := by
  have e : chApplied (settle s) c = (chEnabled (settle s) c && !(sagging s (bankOfChannel c) && !bitN (settle s).sout.applied c)) := rfl
  rw [e, chEnabled_settle, applied_settle]
  simp only [h, decide_true, Bool.true_and]
  unfold chApplied
  cases chEnabled s c <;> cases sagging s (bankOfChannel c) <;> cases bitN s.sout.applied c <;> rfl

theorem sagHold_settle (s : State) {c : Nat} (h : c < 24) :
    (sagging (settle s) (bankOfChannel c) && (bitN (settle s).sout.sagHold c || (chEnabled (settle s) c && !bitN (settle s).sout.applied c))) =
      (sagging s (bankOfChannel c) && (bitN s.sout.sagHold c || (chEnabled s c && !bitN s.sout.applied c))) := by
  rw [chEnabled_settle, applied_settle]
  have e : bitN (settle s).sout.sagHold c =
      (sagging s (bankOfChannel c) && (bitN s.sout.sagHold c || (chEnabled s c && !bitN s.sout.applied c))) := by
    show bitN (packBits (fun c => _) 24) c = _
    rw [bitN_packBits]; simp [h]
  rw [e, show sagging (settle s) (bankOfChannel c) = sagging s (bankOfChannel c) from rfl]
  simp only [h, decide_true, Bool.true_and]
  unfold chApplied
  cases chEnabled s c <;> cases sagging s (bankOfChannel c) <;> cases bitN s.sout.applied c <;> cases bitN s.sout.sagHold c <;> rfl

/-- Settling twice is settling once. -/
theorem settle_settled (s : State) : Settled (settle s) := by
  have ha : appliedOf (settle s) = (settle s).sout.applied := packBits_congr fun c hc => chApplied_settle s hc
  have hs : sagHoldOf (settle s) = (settle s).sout.sagHold := packBits_congr fun c hc => sagHold_settle s hc
  have hc : chTableAfter (settle s) (settle s).sout.applied (settle s).sout.applied 24 = (settle s).sout.ch := chTableAfter_same _ _ _
  have e : settle (settle s) = { settle s with sout := { (settle s).sout with
      applied := appliedOf (settle s), sagHold := sagHoldOf (settle s),
      ch := chTableAfter (settle s) (settle s).sout.applied (appliedOf (settle s)) 24 } } := rfl
  unfold Settled
  rw [e, ha, hs, hc]

/-- The outputs follow after settling. -/
theorem settle_follows (s : State) : OutputsFollow (settle s) := fun c hc => by
  rw [applied_settle, chApplied_settle s hc]; simp [hc]

/-- With the kill line asserted, or outside the states that drive outputs, nothing is on. -/
theorem settle_off {s : State} (h : killAsserted s = true ∨ active s.dev = false) : (settle s).sout.applied = 0 := by
  have e : ∀ c, chApplied s c = false := fun c => by
    unfold chApplied chEnabled outputsAllowed
    rcases h with h | h <;> simp [h]
  show packBits (chApplied s) 24 = 0
  rw [packBits_congr (g := fun _ => false) fun c _ => e c]
  rfl

end Sys2Proof.Machine
end

