-- ==== Sys2Proof/Tests/Slice0.lean ====
section
/-!
SUPPORT. The model's own tests: ill-formed commands that the checks refuse, and for every statement a state and operands that meet its
hypotheses together.
-/
namespace Sys2Proof.Tests
open Sys2Proof Sys2Proof.Machine
set_option Elab.async false

/-- A part past its start-up in RUN, the direct stops high, every register at its reset value. -/
def run0 : State :=
  { State.reset with dev := .run, kill := { kill0 with extA := true, extB := true }, pwr := { pwr0 with stage := 4 } }


/-! ## Ill-formed commands -/

theorem test_wf_registerWrite : (Instr.registerWrite .host 0 0 256).wellFormed = false ∧ (Instr.registerWrite .host 0 0 255).wellFormed = true := by
  decide
theorem test_wf_tpWindowEnd :
    (Instr.testPulseStart 0 (List.replicate 129 0)).wellFormed = false ∧
    (Instr.tpWindowEnd 0 (List.replicate 129 (0, 0)) [] []).wellFormed = false ∧
      (Instr.tpWindowEnd 0 [] (List.replicate 129 (0, true)) []).wellFormed = false ∧
      (Instr.tpWindowEnd 0 [] [] (List.replicate 129 (0, 0))).wellFormed = false := by decide +kernel
theorem test_wf_currentMeasurement : (Instr.currentMeasurement 0 0 (List.replicate 23 (0, 0, 0))).wellFormed = false := by decide
theorem test_wf_matrixLineSlot : 
    (Instr.matrixLineSlot 0 (List.replicate 31 0) (List.replicate 32 0)).wellFormed = false ∧
      (Instr.matrixLineSlot 0 (List.replicate 32 0) (List.replicate 31 0)).wellFormed = false := by decide
theorem test_wf_thermalDerateTick :
    (Instr.thermalDerateTick (List.replicate 3 0) 0 (List.replicate 4 0)).wellFormed = false ∧
      (Instr.thermalDerateTick (List.replicate 4 0) 0 (List.replicate 5 0)).wellFormed = false := by decide
theorem test_wf_powerDerateTick :
    (Instr.powerDerateTick [] (List.replicate 32 (0, 0)) 0 0).wellFormed = false ∧
      (Instr.powerDerateTick [(0, 0), (0, 0)] [] 0 0).wellFormed = false := by decide
theorem test_wf_frames :
    (Instr.objectFrame 0 ⟨5, 6, 255, List.replicate 229 0⟩ true).wellFormed = false ∧
      (Instr.objectFrame 0 ⟨0, 6, 255, []⟩ true).wellFormed = false ∧
      (Instr.safeFrame 0 ⟨0xFFFF, 0, 0, 0, 0, 0, 0, 0, 0⟩ true).wellFormed = false ∧
      (Instr.commitFrame 0 ⟨0, 0, 0, 0, 0⟩ true).wellFormed = false := by decide +kernel
theorem test_wf_belay :
    (Instr.image ⟨true, 0, 0, 0⟩ ⟨0, 0, 0, false, false, false, List.replicate 15 0, List.replicate 128 0⟩ false).wellFormed = false ∧
      (Instr.image ⟨true, 0, 0, 0⟩ ⟨0, 0, 0, false, false, false, List.replicate 16 0, List.replicate 127 0⟩ false).wellFormed = false ∧
      (Instr.stream ⟨true, 0, 0, 0⟩ ⟨0, 0, List.replicate 1025 0⟩).wellFormed = false ∧
      (Instr.stream ⟨true, 0, 0, 0⟩ ⟨4, 0, []⟩).wellFormed = false ∧
      (Instr.hello ⟨true, 0, 0, 0⟩ ⟨0, 0, false, 0, 0, 0⟩).wellFormed = false := by decide +kernel
theorem test_wf_bgSlice : (Instr.bgSlice (.otp 0 [⟨0, 0, 0, 0, 0, 0⟩]) false).wellFormed = false := by decide
theorem test_wf_starts :
    let four : List (BitVec 16) := [0, 0, 0, 0]
    (Instr.bistComplete 0 0 0 0 0 0 0 ⟨four, four⟩ ⟨2 ^ 20, 0, 0, 0⟩).wellFormed = false ∧
      (Instr.bistComplete 0 0 0 0 0 0 0 ⟨four, four⟩ ⟨0, 2 ^ 8, 0, 0⟩).wellFormed = false ∧
      (Instr.bistComplete 0 0 0 0 0 0 0 ⟨four, four⟩ ⟨0, 0, 2 ^ 24, 0⟩).wellFormed = false ∧
      (Instr.bistComplete 0 0 0 0 0 0 0 ⟨four, four⟩ ⟨0, 0, 0, 2 ^ 32⟩).wellFormed = false ∧
      (Instr.bistComplete 0 0 0 0 0 0 0 ⟨[0], four⟩ ⟨0, 0, 0, 0⟩).wellFormed = false ∧
      (Instr.bistComplete 0 0 0 0 0 0 0 ⟨four, [0]⟩ ⟨0, 0, 0, 0⟩).wellFormed = false := by decide
theorem test_wf_limits : (Instr.limitsRestored (List.replicate 8 (0, 0))).wellFormed = false := by decide
theorem test_wf_trial (bs : List Byte) (h : 132260 < bs.length) : (Instr.trialImage bs).wellFormed = false := by
  simp only [Instr.wellFormed, decide_eq_false_iff_not]; omega
theorem test_wf_blobs (bs : List Byte) (h : 0x100000 < bs.length) : (Instr.writeDone true bs).wellFormed = false := by
  simp only [Instr.wellFormed, decide_eq_false_iff_not]; omega
theorem test_wf_patch (bs : List Byte) (n : Sense) (h : 0x40000 < bs.length) :
    (Instr.startupComplete true false 0 bs n).wellFormed = false := by
  simp only [Instr.wellFormed, decide_eq_false_iff_not]; omega
theorem test_wf_codes :
    (Instr.wakeEvent 0).wellFormed = false ∧ (Instr.lcRequest 1).wellFormed = false ∧ (Instr.lcRequest 6).wellFormed = false ∧
      (Instr.lcRequest 3).wellFormed = true := by decide
theorem test_wf_spi :
    (Instr.spiRead 0 4 0).wellFormed = false ∧ (Instr.spiQread 0 4 0).wellFormed = false ∧ (Instr.spiWrite 0 4 []).wellFormed = false ∧
      (Instr.spiQwrite 0 4 []).wellFormed = false := by decide

/-! ## Values the spec works out -/

/-- R371: the check values over "123456789". -/
theorem test_crc_checks :
    crc32 [0x31, 0x32, 0x33, 0x34, 0x35, 0x36, 0x37, 0x38, 0x39] = 0xCBF43926 ∧
      crc32c [0x31, 0x32, 0x33, 0x34, 0x35, 0x36, 0x37, 0x38, 0x39] = 0xE3069283 := by decide +kernel

/-- R439: the IDCODE less its version. -/
theorem test_idcode : regGet State.reset Reg.HOST_JTAG_ID = 0x064325AD := by decide +kernel

/-- The table gives no bits: no word spells a command. -/
theorem test_no_words (nbits w : Nat) : decodeTableWord nbits w = none ∧ State.reset.withFetchWord nbits w = State.reset := ⟨rfl, rfl⟩


/-! ## Witnesses: the hypotheses of every statement can be met -/

theorem wit_RegisterWriteSetsByAccessCode :
    coreDown run0 = false ∧ regRow (0x40060028 : Word).toNat ≠ none ∧ (0x40060028 : Word).toNat % 4 = 0 ∧
      (0x40060028 : Word).toNat / 65536 = 0x4006 ∧ isConfigReg 0x40000044 = false ∧ regRow 0x40000044 ≠ none := by decide

theorem wit_MemoryWriteStoresItsBytes :
    coreDown run0 = false ∧ inSram (0x201FFFF0 : Word).toNat = true ∧ (0x201FFFF0 : Word).toNat % 2 ^ 4 = 0 ∧
      memWritable run0 .host (0x201FFFF0 : Word).toNat = true ∧ inRet (0x20807FFF : Word).toNat = true ∧
      memWritable run0 .mrc (0x20807FFF : Word).toNat = true := by decide
theorem wit_BusErrorHasNoEffect_settled : Settled run0 := by decide
theorem wit_BusErrorHasNoEffect :
    coreDown run0 = false ∧ (inWindow 0x40060028 = true ∧ (0x40060029 : Nat) % 4 ≠ 0) ∧
      (inWindow 0 = false ∧ inSram 0 = false ∧ inRet 0 = false ∧ inWindow 0x40110000 = false) ∧
      (inWindow 0x40000000 = true ∧ regRow 0x40000000 = none) ∧
      (inSram 0x20000001 = true ∧ (0x20000001 : Nat) % 2 ^ 1 ≠ 0) ∧ memWritable run0 .mgmt 0x20800000 = false ∧
      (inWindow Reg.FIO_CTRL = true ∧ isConfigReg Reg.FIO_CTRL = true) := by decide

theorem wit_ClockAndSupplyFaults :
    coreDown run0 = false ∧ countBad 0 32768 = false ∧ countBad 0 32439 = true ∧ countBad 3 1407 = false ∧ countBad 3 1409 = true ∧
      run0.dev ≠ .powerUp ∧ run0.dev ≠ .faulted ∧ clockFaulted run0 3 = false ∧ clockFaulted run0 0 = true ∧ run0.sle.recov = none ∧
      Settled run0 ∧ run0.jrn.queue.length ≤ 61 := by decide

theorem wit_FilteredChangeTakesValueAndStamp :
    coreDown { run0 with tb := 50000 } = false ∧ started run0.dev = true ∧ (inGet run0 127).filt ≠ true ∧ rebuildFrom run0 127 ≤ 0 ∧
      0 + filterOf { run0 with tb := 50000 } 127 * 100 ≤ 50000 ∧ 49999 < 0 + filterOf run0 127 * 100 ∧ (inGet run0 0).filt = false ∧
      sampleReplaced run0 127 0 = false ∧ 0 < rebuildFrom { run0 with fio := { fio0 with exit1 := 100 } } 127 ∧
      { run0 with fio := { fio0 with slice := some (127, 49700) } }.fio.slice = some (127, 49700) := by decide
/-- Pair 0 with input 0 fed by source 15, whose window is open. -/
def lowIn15 : State :=
  let s := regSet (regSet run0 (Reg.FIO_PAIR_CFG 0) 0xFEF001F4) (Reg.FIO_TP_CFG 15) 0x8C990050
  { srcSet (inSet s 0 { inSt0 with filt := true }) 15 { srcSt0 with win := some (9375000, 9420000), off := true } with tb := 9375000 }
theorem wit_FilteredChange_window :
    Settled lowIn15 ∧ ownWindowEnd lowIn15 0 9375000 = some 9420000 ∧ lowIn15.tb < 9420000 ∧ srcOf lowIn15 0 = some 15 ∧
      coreDown { lowIn15 with tb := 9425000 } = false ∧ (inGet lowIn15 0).filt ≠ false ∧ 9375000 % 100 = 0 ∧
      ownWindowEnd { lowIn15 with tb := 9425000 } 0 9375000 = some 9420000 ∧
      9375000 + filterOf { lowIn15 with tb := 9425000 } 0 * 100 ≤ 9425000 := by decide

/-- Source 15 enabled, at its slot. -/
def tp15 : State := { regSet run0 (Reg.FIO_TP_CFG 15) 0x8C990050 with tb := 9375000 }
theorem wit_TestPulsesFollowTheirSchedule :
    coreDown tp15 = false ∧ started tp15.dev = true ∧ tp15.kill.supply = false ∧ srcEn tp15 15 = true ∧
      tp15.tb % tTP tp15 = tpPhase tp15 15 % tTP tp15 ∧ windowOver tp15 15 = true ∧ sagging tp15 (bankOfSource 15) = false ∧
      sagging { tp15 with fio := { fio0 with lvl1 := .sag } } (bankOfSource 15) = true ∧ srcEn tp15 0 = false ∧ Settled tp15 ∧
      (srcGet tp15 15).hist = [] ∧ pstate tp15 ≠ 2 := by decide
/-- Source 15 in its window, its pulse over. -/
def pulse15 : State :=
  srcSet { tp15 with tb := 9415000 } 15 { srcSt0 with win := some (9375000, 9420000), off := true, width := 400, hist := [57, 56] }
theorem wit_TestPulseEnd :
    coreDown pulse15 = false ∧ (srcGet pulse15 15).win = some (9375000, 9420000) ∧ (srcGet pulse15 15).off = true ∧
      9375000 + (srcGet pulse15 15).width * 100 ≤ pulse15.tb ∧ 57 ∈ (srcGet pulse15 15).hist ∧ (∀ x ∈ (srcGet pulse15 15).hist, x ≤ 57) ∧
      Settled { pulse15 with tb := 9414999 } ∧ 9414999 < 9375000 + (srcGet pulse15 15).width * 100 := by
  decide

/-- Source 0 at the end of its window: input 0, fed by it, was ON at the start; input 3 is fed by source 1. -/
def win0 : State :=
  srcSet { inSet (regSet (regSet (regSet run0 (Reg.FIO_TP_CFG 0) 0x8C990050) (Reg.FIO_PAIR_CFG 0) 0xFE0001F4)
      (Reg.FIO_PAIR_CFG 1) 0xC20001F4) 3 { inSt0 with filt := true, cross := [(0, 0)], good := 1 } with tb := 10045000 } 0
    { srcSt0 with win := some (10000000, 10045000), off := true, width := 400, onAt := [0] }
theorem wit_TestPulseFaultsAreJudged :
    coreDown win0 = false ∧ (srcGet win0 0).win = some (10000000, 10045000) ∧ 10045000 ≤ win0.tb ∧
      (srcGet win0 0).discard = false ∧ 0 ∈ (srcGet win0 0).onAt ∧ srcOf win0 0 = some 0 ∧ srcOf win0 3 = some 1 ∧
      (0, 0) ∈ (inGet win0 3).cross ∧ 0 + 1 = 10000000 / tTP win0 := by decide
/-- The same with input 1, also fed by source 0, OFF at the start, and input 0 passed once. -/
def win0b : State := inSet (regSet win0 (Reg.FIO_PAIR_CFG 0) 0xC00001F4) 0 { inSt0 with filt := true, noPulse := true, xshort := true, good := 1, slow := true, goodResp := 7 }
theorem wit_TestPulsePassed :
    (srcGet win0b 0).onAt = [0] ∧ 1 ≤ (inGet win0b 0).good ∧ (100 < (srcGet win0b 0).width ∧ 10000000 + 100 * 100 ≤ 10045000) ∧
      7 ≤ (inGet win0b 0).goodResp ∧ fldGet win0b (Reg.FIO_TP_CFG 0) F.FIO_TP_CFG_RESP_MAX < 100 ∧
      50 ≤ fldGet win0b (Reg.FIO_TP_CFG 0) F.FIO_TP_CFG_RESP_MAX ∧ (srcGet win0 0).onAt.count 0 = 1 ∧ (inGet win0 0).goodResp < 7 ∧
      srcOf win0b 1 = some 0 ∧ 1 ∉ (srcGet win0b 0).onAt ∧
      (srcGet (srcSet win0 0 { srcGet win0 0 with discard := true }) 0).discard = true := by decide

theorem wit_LeakageMeasurementSetsFlags :
    coreDown run0 = false ∧ started run0.dev = true ∧ fldGet run0 Reg.FIO_LEAK_CFG F.FIO_LEAK_CFG_EN = 1 ∧
      sagging run0 (bankOfInput 127) = false ∧ leakPoint { run0 with tb := 127 * 78125 } 127 = true ∧
      (inGet run0 127).leakIv ≠ some (127 * 78125 / 10000000) ∧ run0.jrn.queue.length ≤ 62 ∧ (inGet run0 127).filt = false ∧
      Settled { run0 with fio := { fio0 with lvl1 := .sag } } ∧ sagging { run0 with fio := { fio0 with lvl1 := .sag } } (bankOfInput 127) = true := by
  decide
/-- The measurement point of input 127, two measurements counted for each flag. -/
def leak127 : State :=
  inSet { run0 with tb := 127 * 78125 } 127 { inSt0 with undefRun := 2, warnRun := 2, leakV := 30 }

theorem wit_SupplyLevelsFollowTheField :
    coreDown run0 = false ∧ run0.dev ≠ .powerUp ∧ run0.tb % 100000 = 0 ∧ levelOf run0 1 = .ok ∧
      (17999 : BitVec 16).toNat < 18000 ∧ 18500 ≤ (18500 : BitVec 16).toNat ∧ (14999 : BitVec 16).toNat < 15000 ∧
      levelOf { run0 with fio := { fio0 with lvl0 := .warn, lvl1 := .sag } } 0 = .warn ∧
      levelOf { run0 with fio := { fio0 with lvl0 := .warn, lvl1 := .sag } } 1 = .sag ∧
      levelOf { run0 with fio := { fio0 with lvl0 := .brownOut } } 0 = .brownOut ∧ run0.jrn.queue.length < 64 ∧ Settled run0 ∧
      Settled { run0 with tb := 1 } := by decide

theorem wit_CountersThatClearOnRead :
    coreDown run0 = false ∧ coreDown run0 ≠ true := by decide

/-- Channels 0 (two-pole), 1 (high side only) and 23 enabled; both images wait. -/
def out0 : State :=
  { regSet (regSet (regSet run0 (Reg.SOUT_CH_CFG 0) 0x20000A00) (Reg.SOUT_CH_CFG 1) 0x40000A00) (Reg.SOUT_CH_CFG 23) 0x20000A00 with
    sout := { sout0 with fifo := [(7, 0x800003, true)] } }
theorem wit_ReleasedImagesApplyInOrder :
    coreDown out0 = false ∧ out0.sout.fifo = (7, 0x800003, true) :: [] ∧ out0.sout.scan = none ∧ scanNewer 7 7 = false ∧
      scanNewer 0 0xFFFFFFFF = true ∧ Settled run0 ∧ run0.sout.fifo = [] := by decide

/-- Channel 0 is on; a pulse of it has just ended. -/
def out1 : State := { out0 with sout := { sout0 with img := 1, drive := true, scan := some 6, applied := 1, ch := [(0, { chSt0 with hold := some 40000 })] } }
theorem wit_ChannelFaultsLatchAndSwitchOff :
    coreDown out1 = false ∧ chOn out1 23 = false ∧ comparing out1 23 = true ∧ nodeOn (pattern out1 23) true false = true ∧
      lasted { out1 with tb := 10000 } 23 0 = true ∧ lasted { out1 with tb := 50000 } 0 20000 = true ∧ chOn out1 0 = true ∧ comparing out1 0 = true ∧ matchesPattern (pattern out1 0) false false = false ∧
      opWindowOpen out1 0 = true ∧ isObserver out1 0 11 = true ∧ sagging out1 (bankOfChannel 0) = false := by decide
theorem wit_UnremovableEnergyHoldsTheGroup :
    coreDown out1 = false ∧ chMode out1 1 = 2 ∧ chOn out1 1 = false ∧ comparing out1 1 = true ∧
      nodeOn (pattern out1 1) true false = true ∧ lasted { out1 with tb := 10000 } 1 0 = true ∧ (chGet out1 1).unrem = false := by decide
/-- Channel 1 (high side only) in an off-pulse without response. -/
def out2 : State := chSet { out1 with tb := 40000 } 1 { chSt0 with pulse := some 0, hi := true }
theorem wit_StuckHighSide :
    coreDown out2 = false ∧ chMode out2 1 = 2 ∧ (chGet out2 1).pulse = some 0 ∧ (chGet out2 1).discard = false ∧ (chGet out2 1).hi = true ∧
      out2.tb = 0 + owMax out2 1 * 100 := by decide

theorem wit_OffPulsesTestTheSwitches :
    coreDown out1 = false ∧ 0 < tOP out1 ∧ out1.tb % tOP out1 = opPhase out1 0 ∧ fldGet out1 (Reg.SOUT_CH_OW 0) F.SOUT_CH_OW_EN = 1 ∧
      belaySuspended out1 0 = false ∧ killAsserted out1 = false ∧ bitN out1.sout.applied 0 = true ∧ chEnabled out1 0 = true ∧
      masked out1 0 = false ∧ (chGet out1 0).pulse = none ∧ masked (chSet out1 0 { chSt0 with mask := some 1 }) 0 = true := by decide
theorem wit_OffPulseEnds :
    let s := chSet { out1 with tb := 40000 } 0 { chSt0 with pulse := some 0, hi := true, pw := 100 }
    (chGet s 0).pulse = some 0 ∧ (chGet s 0).discard = false ∧ 400 ≤ owMax s 0 ∧ s.tb = 0 + max (chGet s 0).pw 400 * 100 ∧
      chEnabled s 0 = true ∧ bitN s.sout.applied 0 = true ∧ s.tb = 0 + owMax s 0 * 100 ∧ isObserver s 0 11 = true ∧
      fldGet s Reg.SOUT_CFG F.SOUT_CFG_IDIAG = 1 := by decide
theorem wit_OffPulseUnderKill :
    let s := { out1 with kill := { out1.kill with extA := false } }
    killAsserted s = true ∧ chCmd s 0 = true ∧ chMode s 0 ≠ 0 ∧ s.tb % tOP s = opPhase s 0 := by decide

theorem wit_ChannelMeasurementsAndClearing :
    coreDown out1 = false ∧ (chGet (chSet out1 0 { chSt0 with mask := some 0 }) 0).mask = some 0 ∧ appliedOf out1 = out1.sout.applied ∧
      fldGet out1 Reg.SOUT_CFG F.SOUT_CFG_IDIAG = 1 ∧ started out1.dev = true ∧ chOn out1 0 = true ∧ currentJudged out1 0 = true ∧ offCurrent out1 23 = true ∧ 0 < fldGet out1 (Reg.SOUT_CH_CFG 0) F.SOUT_CH_CFG_IOPEN ∧
      chOn out1 23 = false ∧ matchesPattern (pattern out1 23) false false = true ∧
      (chGet { out1 with tb := 10000000 } 23).changed + 10000000 ≤ 10000000 := by decide
theorem wit_LampFeedCut :
    fldGet (regSet out1 Reg.ASP_STATUS (setF 0 F.ASP_STATUS_CUT1 1)) Reg.ASP_STATUS F.ASP_STATUS_CUT1 = 1 ∧
      fldGet (regSet out1 Reg.ASP_STATUS (setF 0 F.ASP_STATUS_CUT0 1)) Reg.ASP_STATUS F.ASP_STATUS_CUT0 = 1 := by decide

theorem wit_DirectStopsActOnTheKillLine :
    coreDown run0 = false ∧ run0.kill.extA = true ∧ run0.kill.extB = true ∧ run0.jrn.queue.length < 63 ∧ active run0.dev = true ∧
      coreDown { run0 with kill := { kill0 with extA := true }, tb := 2000001 } = false ∧
      0 + fldGet run0 Reg.SOUT_CFG F.SOUT_CFG_EXTD * 100000 < 2000001 ∧
      killAsserted { run0 with kill := { { run0.kill with extA := false, extB := false } with extA := true, extB := true } } = false := by decide

/-- An image of seven blocks, one for each time that can expire at a scan start: ESTOP, TWOHAND, EDM, RESET, STOP1, TON, TOFF; 1 ms
scans. -/
def rec16 (l : List Nat) : List Byte := l.map (BitVec.ofNat 8)
def img7 : List Byte :=
  rec16 [0x56, 0x58, 0x46, 0x49, 2, 0, 0, 16, 7, 0, 0, 0, 0x2E, 3, 0, 0, 0xB0, 0, 0, 0, 0x10, 1, 0, 0, 0, 0, 0, 0, 0, 0, 0, 0] ++
  rec16 [0, 0, 0, 0, 0, 0, 0, 0, 0, 0, 0, 0, 0, 0, 0, 0, 0x14, 1, 0, 0, 0, 0, 0, 0, 0, 0, 0, 0, 0, 0, 0, 0] ++
  rec16 [1, 0, 0, 0, 0, 0, 0, 1, 0, 0, 10, 0, 0, 0, 0, 0] ++ rec16 [3, 0, 1, 0, 2, 0, 0, 0, 0, 0, 10, 0, 0xF4, 1, 0, 0] ++
  rec16 [5, 0, 0, 1, 0, 1, 0, 1, 0, 0, 10, 0, 0, 0, 0, 0] ++ rec16 [6, 1, 6, 0, 1, 1, 0, 0, 0, 0, 0, 0, 0, 0, 0, 0] ++
  rec16 [7, 0, 0, 1, 1, 1, 0, 0, 0, 0, 1, 0, 0, 0, 0, 0] ++ rec16 [0x13, 0, 1, 1, 0, 0, 0, 0, 0, 0, 1, 0, 0, 0, 0, 0] ++
  rec16 [0x14, 0, 0, 1, 0, 0, 0, 0, 0, 0, 1, 0, 0, 0, 0, 0] ++
  List.replicate 96 0 ++ List.replicate 4 0
/-- The image runs; TB stands at a scan start of it, long after the blocks' times began. Input 0 alone is ON, with input 6. -/
def scan0 : State :=
  { run0 with
    tb := 1000000000
    fio := { fio0 with ins := [(0, { inSt0 with filt := true, ts := 1 }), (2, { inSt0 with filt := true }),
      (4, { inSt0 with filt := true }), (6, { inSt0 with filt := true })] }
    sle := { sle0 with lane0 := 1, bankA := img7, hasImage := true, lastStart := some 999900000, scan := 0xFFFFFFFF, cairn :=
      [(0, { blkSt0 with init := true }), (1, { blkSt0 with init := true, disc := true, t0 := some 0 }),
       (2, { blkSt0 with init := true, q := true, t0 := some 0 }), (3, { blkSt0 with init := true, pa := true, t0 := some 0 }),
       (4, { blkSt0 with init := true, q2 := true, t0 := some 0 }), (5, { blkSt0 with init := true, t0 := some 0 }),
       (6, { blkSt0 with init := true, q := true, t0 := some 0 })] } }
def scanRes0 : ScanRes := ⟨0xFFFFFFFF, [], 0x800001, [], 5, true, true, [], []⟩
/-- The same with a finished scan waiting for its release. -/
def scan1 : State := { scan0 with sle := { scan0.sle with res := some scanRes0 } }
theorem wit_ScanStart_open : scanOpen scan0 = true ∧ scanOpen scan1 = true := by decide +kernel
theorem wit_ScanStartReleasesAndEvaluates :
    coreDown scan1 = false ∧ scan1.sle.swapPend = false ∧ scan1.bly.waiting = none ∧ scan1.bly.decide = false ∧
      scan1.bly.freeze = false ∧ scan1.sle.recov = none ∧ scan1.sle.res = some scanRes0 ∧ scan1.sout.fifo.length < 4 ∧
      scan0.sle.res = none ∧ waitsForPartner scan0 = false ∧ breakAt scan0 = none ∧
      scanRes0.leave = true ∧ leaveOk scan1 = true ∧ mayLeave scan1 = true ∧ evaluating scan1 0 = true ∧
      scan1.kill.hold = false ∧ scan1.pwr.vendorBad = false := by decide +kernel
theorem wit_ScanStart_stopped : scanOpen { scan1 with dev := .safeStopped } = true := by decide +kernel
def recv0 : Recov := ⟨999950000, 0, 0x20000000, 0, 0, false, false⟩
def rec0 : State := { scan0 with dev := .recovering, sle := { scan0.sle with recov := some recv0, snaps := [(0xFFFFFFFF, ⟨999900000, 0, 0, 0, [], 0, true, []⟩)] } }
theorem wit_SkippedScansHoldTheOutputs :
    coreDown rec0 = false ∧ scanOpen rec0 = true ∧ rec0.sle.swapPend = false ∧ rec0.bly.waiting = none ∧
      rec0.sle.recov = some recv0 ∧ recv0.phase < 2 := by decide +kernel

/-- Block `b` makes change `k` in the evaluation that starts at `scan0`. -/
def expires0 (k : BlkTime) (b : Nat) : Bool :=
  let t := scanStart scan0 scan0.fio.raw none none none
  match t.sle.res with
  | some r => decide (t.sle.lastStart ≠ scan0.sle.lastStart) &&
      expired k (blkTyp t b) (tabGet blkSt0 t.sle.cairn b) (tabGet blkSt0 r.blk b)
  | none => false
theorem wit_BlockTimesExpireAtTheScanStart_a : expires0 .disc 0 = true ∧ expires0 .twoHand 1 = true ∧ expires0 .edm 2 = true := by decide +kernel
theorem wit_BlockTimesExpireAtTheScanStart_b :
    expires0 .stuck 3 = true ∧ expires0 .stop1 4 = true ∧ expires0 .ton 5 = true ∧ expires0 .toff 6 = true := by decide +kernel
theorem wit_BlockTimesExpireAtTheScanStart_c : scanOpen { scan0 with tb := 1000000001 } = false := by decide +kernel

theorem wit_ProtectiveBlocksNeedBothChannels :
    let i : BlkIn := ⟨⟨100000000, 3, 3, 0, [], 0, true, []⟩, fun k => decide (k = 7), fun _ => 500, false, 0, 0, fun _ => false⟩
    (evalProtective i 0 10 7 false true false { blkSt0 with init := true, pa := true, pb := true, wait := true }).st.q = true ∧
      (evalProtective i 0 10 8 false true false { blkSt0 with init := true, pa := true, pb := true, wait := true, disc := true, q := true }).st.q =
        false ∧
      (evalProtective i 0 10 8 false true false { blkSt0 with init := true, tpf := true }).st.q = false ∧
      (discNow { i with snap := { i.snap with filt := 1, ts := [(1, 7)] } } 0 10 true false false false (some (0, true))).isSome = true := by decide

theorem wit_MismatchesStartRecoveries :
    coreDown scan1 = false ∧ evaluating scan1 0 = true ∧ scan1.dev ≠ .faulted ∧ scan1.sle.res ≠ none ∧ scan1.sle.recov = none ∧
      compared scan1 = true ∧ repeated scan1 0 0x114B4040 = false ∧
      repeated { scan1 with sle := { scan1.sle with misHist := [(0, 0x114B4040, 9), (0, 0x114B4040, 10)] } } 0 0x114B4040 = true ∧
      wide scan1 = false ∧ standsBy scan1 = true ∧ getF 0x114B4040 F.SLE_MIS_SIG_SRC ≠ 2 := by decide +kernel
theorem wit_RerunStart :
    snapOf rec0 (pinnedScan rec0 recv0) = some ⟨999900000, 0, 0, 0, [], 0, true, []⟩ ∧ rec0.sle.recov = some recv0 ∧
      rerunWaits rec0 recv0 = false ∧ recv0.idle = false ∧ breakAt rec0 = none ∧ rec0.dev ≠ .faulted := by decide +kernel
/-- The re-run of `rec0` is under way. -/
def rec1 : State := { rec0 with sle := { rec0.sle with recov := some { recv0 with phase := 1 }, res := some scanRes0 } }
theorem wit_RecoveryComplete :
    rec1.sle.recov = some { recv0 with phase := 1 } ∧ rec1.dev ≠ .faulted ∧ coreDown rec1 = false ∧ evaluating rec1 0 = true ∧
      compared rec1 = true ∧ wide rec1 = false ∧ standsBy rec1 = true ∧ evaluating rec0 0 = true ∧ recv0.phase < 2 := by
  decide +kernel

theorem wit_LaneFailuresAndHeartbeats :
    coreDown scan1 = false ∧ scan1.sle.hasImage = true ∧ laneSt scan1 0 < 2 ∧ laneSt scan1 1 < 2 ∧ scan1.tb % 100000 = 0 * 6250 ∧
      scan1.dev ≠ .faulted ∧ evaluating scan1 0 = true ∧ wide scan1 = false ∧ standsBy scan1 = true ∧ pairRuns scan1 = true ∧
      999950000 + fldGet rec0 Reg.SLE_CFG F.SLE_CFG_RLIM * tScan rec0 + 2000 ≤ 1000200000 := by decide +kernel
theorem wit_RecoveryLimit : { rec0 with tb := 1000200000 }.sle.recov = some recv0 ∧ recv0.phase < 2 ∧ rec0.dev ≠ .faulted := by
  decide +kernel

theorem wit_ImagesLoadAndSwap :
    coreDown scan0 = false ∧ scan0.sle.loading = false ∧ scan0.slots.commit = 0 ∧ atBoundary scan0 = true ∧ pstate scan0 ≠ 2 ∧
      scan0.sle.recov = none ∧ scan0.sle.lane0 < 2 ∧ scan0.sle.lane1 < 2 ∧ scan0.sle.restore = false ∧
      scan0.sle.halted = false ∧ scan0.sle.lastStart ≠ some scan0.tb ∧ scan0.slots.trialLoad = false ∧
      (regGet scan0 Reg.SLE_IMG_LEN).toNat ≤ 132260 ∧ scan0.slots.trialImage = false ∧
      fldGet scan0 Reg.SLE_IMG_STAT F.SLE_IMG_STAT_RESULT ≠ 2 ∧
      { scan0 with sle := { scan0.sle with swapPend := true } }.sle.swapPend = true := by decide +kernel
/-- An image of one RESET block with bit 0, and its CRC. -/
def img1 : List Byte :=
  let b := rec16 [0x56, 0x58, 0x46, 0x49, 2, 0, 0, 4, 1, 0, 0, 0, 0x22, 3, 0, 0, 0x50, 0, 0, 0, 0xB0, 0, 0, 0, 0, 0, 0, 0, 0, 0, 0, 0] ++
    List.replicate 16 0 ++ rec16 [0xB4, 0, 0, 0, 0, 0, 0, 0, 0, 0, 0, 0, 0, 0, 0, 0] ++
    rec16 [6, 1, 0, 0, 1, 1, 0, 0, 0, 0, 0, 0, 0, 0, 0, 0] ++
    ((List.range 24).flatMap fun _ => rec16 [0, 1, 0, 0])
  b ++ leBytes 4 (crc32 b)
theorem wit_Swap :
    let s := regSet { scan0 with sle := { scan0.sle with bankB := img1 }, slots := { slots0 with commit := 4 } } Reg.SLE_IMG_STAT 2
    fldGet s Reg.SLE_IMG_STAT F.SLE_IMG_STAT_RESULT = 2 ∧ s.slots.commit = 4 ∧ verifyImage s (inactiveBank s) = none ∧
      4 < img1.length ∧ img1.length ≤ 132260 ∧ crc32 (img1.take (img1.length - 4)) = leAt img1 (img1.length - 4) 4 := by decide +kernel

/-- PROVISIONED, with the debug permission; a halted lane with one snapshot. -/
def dbg0 : State := { scan0 with otp := { otp0 with lc := 5, dbgPerm := 1 }, sle := { scan0.sle with snaps := [(1, ⟨5, 0, 0, 0, [], 0, true, []⟩)] } }
def dbg1 : State := { dbg0 with dev := .safeStopped, sle := { dbg0.sle with halted := true } }
/-- The image in Wide mode: byte 6 of the header is 1. -/
def dbg2 : State := { dbg0 with sle := { dbg0.sle with bankA := img7.take 6 ++ [1] ++ img7.drop 7 } }
theorem wit_DebugActionsNeedThePermission :
    coreDown dbg0 = false ∧ debugOpen dbg0 = true ∧ dbg0.sle.replayAt ≠ dbg0.tb ∧ dbg0.sle.hasImage = true ∧ dbg0.sle.halted = false ∧
      dbgLaneOk dbg0 = true ∧ started dbg0.dev = true ∧ dbg0.dev ≠ .faulted ∧ wide dbg0 = false ∧ wide dbg2 = true ∧
      dbgLaneOk dbg2 = true ∧ debugOpen dbg2 = true ∧ dbgLaneOk (regSet dbg1 Reg.SLE_DBG_CTRL 0x1000) = false := by decide +kernel
theorem wit_DebugActions_halted :
    debugOpen dbg1 = true ∧ dbg1.sle.halted = true ∧ (dbgBlock dbg1).isSome = true ∧
      dbg1.sle.snaps.getLast? = some (1, ⟨5, 0, 0, 0, [], 0, true, []⟩) ∧ dbgLaneOk dbg1 = true ∧
      fldGet dbg1 Reg.SLE_DBG_CTRL F.SLE_DBG_CTRL_SEL < 2 ∧
      fldGet (regSet dbg1 Reg.SLE_DBG_CTRL 0x200) Reg.SLE_DBG_CTRL F.SLE_DBG_CTRL_SEL = 2 ∧
      (regGet dbg1 Reg.SLE_DBG_ADDR).toNat + 4 ≤ (laneBank dbg1.sle.bankA (dbgLane dbg1)).length := by decide +kernel
theorem wit_DebugActions_refused : Settled run0 ∧ debugOpen run0 = false := by decide +kernel

/-- String 3 is host-owned and enabled at 200 mA, full duty; TB stands at a boundary of both banks and at a frame start. -/
def lamp0 : State :=
  { regSet (regSet (regSet run0 (Reg.LMP_STR_CFG 3) 0xC0210014) (Reg.LMP_STR_RUN 3) 0xFFFF6400) Reg.LMP_MTX_CFG 0xCF102119 with
    tb := 25600 * 272 }
/-- One pending commit for it and for the matrix. -/
def lampCommit : Commit := ⟨7, 5, [], [(3, 0x80006400, 0x1F00)], some [(Reg.LMP_MTX_COL 0, 20)], true, false, true, false, false, false⟩
def lamp1 : State := { lamp0 with asp := { asp0 with commits := [lampCommit] } }
theorem wit_LampsFollowTheirBoundaries :
    coreDown lamp0 = false ∧ atBankBoundary lamp0 0 = true ∧ atBankBoundary lamp0 1 = true ∧ lampsRun lamp0 = true ∧
      lamp1.asp.commits = [lampCommit] ∧ lampCommit.start ≤ lamp1.tb ∧ bankOfString 3 = 0 ∧ commitDone lampCommit 0 = false ∧
      (∀ h, h < 32 → headEn lamp1 h = false) ∧ lampsClocked lamp1 = true ∧ atFrameStart lamp1 = true ∧ mtxHead lamp1 = none ∧ lamp0.asp.commits = [] ∧
      (takeNext lamp0.tb (strGet (strSet lamp0 3 { strSt0 with next := [(5, 7, 9)] }) 3).next).1 = some (7, 9) ∧
      commitLatched lampCommit = false ∧ commitLatched (setDone lampCommit 0) = true ∧ commitFinished (setDone { lampCommit with needM := false } 0) = true ∧
      bitN (8 : BitVec 32).toNat 3 = true ∧ strHostOwned lamp0 3 = true ∧ strHostOwned lamp0 2 = false ∧ mtxHostOwned lamp0 = true := by
  decide +kernel

theorem wit_DeratingFactorsFollowTheirTicks :
    coreDown run0 = false ∧ run0.tb % 1000000 = 0 ∧ run0.tb % 100000 = 0 ∧ started run0.dev = true ∧
      bitN (fldGet run0 Reg.LMP_DERATE_CFG F.LMP_DERATE_CFG_NTC_EN) 0 = true ∧
      (tabGet (false, 0) ({ run0 with lmp := { lmp0 with ntc := [(0, (true, 8))] } } : State).lmp.ntc 0).1 = true ∧
      fldGet (regSet run0 Reg.LMP_DERATE_CFG 0x55280000) Reg.LMP_DERATE_CFG F.LMP_DERATE_CFG_NTC_EN = 0 ∧
      (∀ d ∈ [(115 : BitVec 8), 25, 0xD8, 100], d.toInt ≤ 115) ∧ (∀ d ∈ [(120 : BitVec 8), 25, 0xD8, 100], d.toInt ≤ (120 : BitVec 8).toInt) ∧
      fldGet run0 Reg.LMP_DERATE_CFG F.LMP_DERATE_CFG_NTC_EN = 2 ^ 0 ∧ (tabGet (false, 0) run0.lmp.ntc 0).1 = false ∧ pAllow run0 < (5501 * 1000 : Nat) ∧
      ¬ pAllow run0 < (5500 * 1000 : Nat) := by decide +kernel

/-- String 3 drives at full duty. -/
def lamp2 : State := regSet lamp0 (Reg.LMP_STR_ACT 3) 0xFFFF6400
theorem wit_StageFaultsStopTheStage :
    coreDown lamp2 = false ∧ stageDrives lamp2 3 = true ∧ 1024 ≤ onCycles lamp2 3 ∧ stageRuns lamp2 3 = true ∧
      stageFault (fldSet lamp2 (Reg.LMP_STR_STAT 3) F.LMP_STR_STAT_FAULT 4) 3 = 4 ∧ vledBad lamp2 0 = false ∧ lampsRun lamp2 = true ∧
      fldGet lamp2 (Reg.LMP_STR_CFG 3) F.LMP_STR_CFG_EN = 1 ∧ stageFault lamp2 3 = 0 ∧
      vledBad (regSet lamp2 Reg.LMP_STATUS 0x20) 1 = true ∧
      stageFault (fldSet lamp2 (Reg.LMP_STR_STAT 31) F.LMP_STR_STAT_FAULT 5) 31 = 5 ∧
      2 ≤ (strGet (strSet lamp2 3 { strSt0 with kind := 2 }) 3).kind ∧ stageDrives lamp2 2 = false ∧ onCycles lamp2 2 < 1024 ∧
      (strGet lamp2 2).kind < 2 ∧ (strGet lamp2 2).confirm = none := by decide +kernel
theorem wit_StageFaults_settled : Settled lamp2 := by decide +kernel

/-- Head 5 owns string 3, which ASP drives at full duty, and the matrix; aspect 9 is its fallback. -/
def prove0 : State :=
  { regSet (regSet (regSet (regSet (regSet run0 (Reg.LMP_STR_CFG 3) 0x80210014) (Reg.LMP_STR_ACT 3) 0xFFFF6400) (Reg.ASP_HEAD_CFG 5) 0xA0090900)
      (Reg.ASP_HEAD_MAP 5) 8) Reg.LMP_MTX_CFG 0x8F102119 with tb := 4800 + 25600 }
def prove1 : State := strSet { prove0 with tb := 31200 } 3 { strSt0 with edge := some 30400, kind := 1, winI := 200 }
theorem wit_LampsAreProved_edge :
    coreDown prove0 = false ∧ commandedDark prove0 3 = false ∧
      (prove0.tb + tPwm prove0 0 * 100 - edgeOffset prove0 3) % (tPwm prove0 0 * 100) = 0 ∧ (strGet prove0 3).confirm = none ∧
      1536 ≤ onCycles prove0 3 ∧ fldGet prove0 (Reg.ASP_STR_PSTAT 3) F.ASP_STR_PSTAT_DEBT = 0 ∧ proved prove0 3 = true ∧
      (let s := regSet prove0 (Reg.LMP_STR_ACT 3) 0x02006400
       0 < onCycles s 3 ∧ onCycles s 3 < 1536 ∧ fldGet s Reg.ASP_CFG F.ASP_CFG_PROBEN ≤ (strGet s 3).idle) := by decide +kernel
theorem wit_LampsAreProved_window :
    (strGet prove1 3).edge = some 30400 ∧ prove1.tb = 30400 + 800 ∧ (strGet prove1 3).kind = 1 ∧ stageRuns prove1 3 = true ∧
      headOf prove1 3 = some 5 ∧ isCut prove1 0 = false ∧ measurePasses prove1 3 200 100 0 = true ∧ measurePasses prove1 3 200 99 0 = false ∧
      burstOwed (regSet prove1 Reg.SOUT_CFG 1) 3 30400 = true ∧ (strGet prove1 3).missed = false ∧
      (strGet prove1 3).dcnt + 1 < fldGet prove1 Reg.ASP_CFG F.ASP_CFG_NDARK ∧
      fldGet (strSet prove1 3 { strSt0 with edge := some 30400, kind := 1, dcnt := 2 }) Reg.ASP_CFG F.ASP_CFG_NDARK ≤ 2 + 1 ∧
      (strGet (strSet prove1 3 { strSt0 with confirm := some 30400 }) 3).confirm = some 30400 := by decide +kernel
theorem wit_LampsAreProved_dark :
    let s := { regSet prove0 (Reg.LMP_STR_ACT 3) 0 with tb := 37500 }
    headOf s 3 = some 5 ∧ isCut s 0 = false ∧ lampsRun s = true ∧ litDeclared s 3 = false ∧ darkChecked s 3 = false ∧
      darkChecked (strSet s 3 { strSt0 with darkAt := some 37500 }) 3 = true ∧ darkDue s 3 = true ∧
      showsLight s 3 1 0 = true ∧ showsLight s 3 0 0 = false ∧ hasFeed s 0 = false ∧
      hasFeed (regSet s (Reg.SOUT_CH_CFG 2) 0x28000A00) 0 = true ∧
      (strGet (strSet s 3 { strSt0 with recheck := some 37500 }) 3).recheck = some 37500 := by decide +kernel
theorem wit_LampsAreProved_settled : Settled { regSet prove0 (Reg.LMP_STR_ACT 3) 0 with tb := 37500 } := by decide +kernel
theorem wit_LampsAreProved_matrix :
    let l : Lmp := { lmp0 with mtxFrame := some (27200 * 5), mtxLine := 2, dotFail := [(64, 1)], mtx := [(Reg.LMP_MTX_COL 0, 20), (Reg.LMP_MTX_DOT 16, 0xFF)] }
    let s : State := { prove0 with tb := 27200 * 5 + 2 * 1700, lmp := l }
    s.lmp.mtxFrame = some (27200 * 5) ∧ mtxHead s = some 5 ∧ mtxRuns s = true ∧ s.tb = 27200 * 5 + 2 * mtxLineTicks s ∧ 2 < mtxLines s ∧
      2 = s.lmp.mtxLine ∧ mtxHostOwned s = false ∧ dotMeasured s 2 0 = true ∧ dotCount s 2 0 9 = 2 ∧ dotCount s 2 0 10 = 0 ∧ 1 ≤ ([(1 : BitVec 8)].map BitVec.toNat).getD 0 0 := by
  decide +kernel

theorem wit_HeadsShowTheChosenAspect :
    pfail (regSet prove0 Reg.ASP_HEAD_FB 0x20) 5 = true ∧ fallbackOf prove0 5 = 9 ∧
      (let s : State := { regSet (regSet prove0 (Reg.ASP_ASPECT 14) 0x00000005) (Reg.ASP_ASPECT 16) 0x00000105 with
          asp := { asp0 with fifo := [⟨7, 30000, [(5, 8)]⟩] } }
       coreDown s = false ∧ s.asp.fifo = [⟨7, 30000, [(5, 8)]⟩] ∧ s.asp.sleScan = none ∧ serialNewer 7 7 = false ∧
         descHead s 7 = 5 ∧ safetyRelevant s 7 = false ∧ safetyRelevant s 8 = true ∧ active DevState.safeStopped = false ∧
         headStaged (regSet s (Reg.ASP_HEAD_STAT 5) 0x20000000) 5 = true ∧ regGet s Reg.BIST_STR_UNUSABLE = 0) := by decide +kernel
theorem wit_HeadSelect_settled : Settled prove0 ∧ descHead prove0 7 ≠ 5 ∧ coreDown prove0 = false := by decide +kernel

/-- An image of one ROPE_IN block that subscribes to bit 0 of node 5; 1 ms scans. -/
def imgR : List Byte :=
  rec16 [0x56, 0x58, 0x46, 0x49, 2, 0, 0, 16, 1, 0, 0, 0, 0x22, 3, 0, 0, 0x50, 0, 0, 0, 0xB0, 0, 0, 0, 0, 0, 0, 0, 0, 0, 0, 0] ++
  List.replicate 16 0 ++ rec16 [0xB4, 0, 0, 0, 0, 0, 0, 0, 0, 0, 0, 0, 0, 0, 0, 0] ++ rec16 [0x20, 0, 0, 0, 0, 0, 0, 0, 0, 0, 5, 0, 0, 0, 0, 0] ++ List.replicate 96 0 ++ List.replicate 4 0
/-- Node 9 of a ring: ports 0 and 1 are up, the standby link is on port 1 of another node. -/
def rope1 : State :=
  { regSet (regSet (regSet (regSet run0 Reg.ROPE_NODE 9) (Reg.ROPE_PORT_STAT 0) (setF 0 F.ROPE_PORT_STAT_LINK 1)) (Reg.ROPE_PORT_STAT 1)
      (setF 0 F.ROPE_PORT_STAT_LINK 1)) Reg.ROPE_CFG (setF (resetWord Reg.ROPE_CFG) F.ROPE_CFG_TOPO 1) with
    tb := 100000720, sle := { sle0 with lane0 := 1, bankA := imgR, hasImage := true, lastStart := some 100000000 } }
def frame5 : SafeFrame := { node := 5, seq := 8, hops := 12, state := 3, bits := 1, scan := 16, hlim := 12, tbs := 100000000, chk := 0 }
def frame5ok : SafeFrame := { frame5 with chk := BitVec.ofNat 32 (safeChk frame5) }
def frame9ok : SafeFrame := { frame5 with node := 9, chk := BitVec.ofNat 32 (safeChk { frame5 with node := 9 }) }
theorem wit_SafeFrames_send :
    stopSent { rope1 with dev := .safeStopped } = true ∧ coreDown rope1 = false ∧ rope1.dev ≠ .powerUp ∧ 720 ≤ rope1.tb ∧ 0 < safeGrid rope1 ∧
      (rope1.tb - 720) % safeGrid rope1 = 0 ∧ sharesSafe rope1 = false ∧ upPorts rope1 = [0, 1] ∧ portUp rope1 0 = true ∧
      (portGet rope1 0).busy ≤ rope1.tb ∧ (portGet rope1 0).safeQ = [] ∧ { rope1 with tb := 100000000 }.tb % 6250 = 0 := by decide +kernel
/-- The follower of a pair, PAIRED, with the leader's frame of this boundary. -/
def ropeB : State :=
  { regSet (regSet rope1 Reg.BLY_CFG (setF (resetWord Reg.BLY_CFG) F.BLY_CFG_EN 1)) Reg.BLY_STATUS (setF 0 F.BLY_STATUS_PSTATE 2) with
    bly := { rope1.bly with copy := some frame9ok } }
theorem wit_SafeFrames_pair :
    sharesSafe ropeB = true ∧ isLeader ropeB = false ∧ pstate ropeB ≠ 5 ∧ ropeB.bly.ran = false ∧ ropeB.sout.gstop = 0 ∧ ropeB.bly.copy = some frame9ok ∧ frame9ok.tbs.toNat = ropeB.tb - 720 ∧
      0 < safeGrid ropeB ∧ stopSent ropeB = false ∧ stopSent { ropeB with dev := .safeStopped } = true ∧
      { ropeB with bly := { ropeB.bly with copy := none } }.bly.copy = none := by decide +kernel
theorem wit_SafeFrames_pairSettled : Settled { ropeB with bly := { ropeB.bly with copy := none } } := by decide +kernel
theorem wit_SafeFrames_full :
    2048 < rxFill (portSet rope1 0 { portSt0 with rxEnd := 1000023200 }) 0 + 64 ∧ rxFill rope1 0 + 64 ≤ 2048 := by decide +kernel
theorem wit_SafeFrames_accept :
    portUp rope1 0 = true ∧ frame5ok.hops ≠ 0 ∧ frame5ok.hops.toNat ≤ 19 ∧ portBlocked rope1 0 = false ∧
      frame5ok.chk.toNat = safeChk frame5ok ∧ frame5ok.node.toNat ≠ nodeNum rope1 ∧
      (subscriptions rope1).find? (fun v => v.1 = frame5ok.node.toNat) = some (5, 0) ∧ (subGet rope1 5).seq = none ∧
      rope1.tb ≤ frame5ok.tbs.toNat + tWd rope1 (subGet rope1 5) 0 ∧ 1 < frame5ok.hops.toNat ∧ forwardPorts rope1 0 = [1] := by decide +kernel
theorem wit_SafeFrames_refuse :
    (subGet (subSet rope1 5 { subSt0 with seq := some 8 }) 5).seq = some 8 ∧ serialNewer frame5ok.seq.toNat 8 = false ∧
      frame5.chk.toNat ≠ safeChk frame5 ∧ frame9ok.chk.toNat = safeChk frame9ok ∧ frame9ok.node.toNat = nodeNum rope1 ∧
      pairMember rope1 = false ∧ fldGet rope1 Reg.ROPE_STATUS F.ROPE_STATUS_DUP_NODE = 0 ∧ rope1.dev ≠ .faulted := by decide +kernel
theorem wit_SafeFrames_expire :
    let s := subSet { rope1 with tb := 100100000 } 5 { subSt0 with live := true, last := 99000000 }
    atBoundary s = true ∧ (subscriptions s)[0]? = some (5, 0) ∧ (subGet s 5).live = true ∧ (subGet s 5).last + tWd s (subGet s 5) 0 < s.tb ∧
      s.jrn.queue.length < 64 := by decide +kernel

def read1000 : List Byte := [1, 0, 0, 0, 7, 0, 0, 0, 0, 0x10, 1, 0, 0, 0, 0, 0]
theorem wit_ObjectAndCommitFramesAreDelivered :
    odFormatBad read1000 = false ∧ bitN (odFlags read1000) 2 = false ∧
      (let f : CommitFrame := ⟨5, 7, 255, 100000, 0⟩
       commitChk { f with chk := BitVec.ofNat 32 (commitChk f) } = (BitVec.ofNat 32 (commitChk f)).toNat ∧ f.ta.toNat ≤ rope1.tb ∧
         serialNewer f.num.toNat 7 = false ∧ serialNewer f.num.toNat 6 = true) ∧ commitTa rope1 ≤ rope1.tb ∧ rope1.jrn.queue.length < 63 ∧
      rope1.asp.commits.length < 4 ∧ rope1.asp.lastNum = none ∧ portUp rope1 0 = true ∧ portBlocked rope1 0 = false ∧ 5 ≠ nodeNum rope1 ∧
      serialNewer (commitNum rope1) 0 = false ∧ { lamp1 with asp := { asp0 with commits := List.replicate 4 lampCommit } }.asp.commits.length = 4 := by
  decide +kernel
theorem wit_ObjectFrame_room : rxFill rope1 0 + frameLen (.object ⟨5, 9, 12, read1000⟩) ≤ 2048 ∧ rope1.od.inbox = [] := by decide +kernel

theorem wit_LinksBreakAndHeal :
    coreDown rope1 = false ∧ nodeNum rope1 ≠ 0 ∧ rope1.dev ≠ .powerUp ∧ pllLocked (regSet rope1 Reg.SYS_CLK_STATUS 7) 2 = true ∧
      portStat rope1 0 F.ROPE_PORT_STAT_BROKEN = 0 ∧ portStat rope1 0 F.ROPE_PORT_STAT_LINK = 1 ∧ portUp rope1 0 = true ∧
      (portGet (portSet rope1 0 { portSt0 with lastValid := some 5, nscan := 4 }) 0).lastValid = some 5 ∧
      bitN (fldGet (regSet rope1 Reg.SYS_CLK_STATUS (setF 0 F.SYS_CLK_STATUS_RX_LOCK 1)) Reg.SYS_CLK_STATUS F.SYS_CLK_STATUS_RX_LOCK) 0 = true ∧
      inRing rope1 = true ∧
      portStat (fldSet rope1 (Reg.ROPE_PORT_STAT 1) F.ROPE_PORT_STAT_STBY 1) 1 F.ROPE_PORT_STAT_STBY = 1 ∧
      portStat (fldSet rope1 (Reg.ROPE_PORT_STAT 1) F.ROPE_PORT_STAT_BROKEN 1) 1 F.ROPE_PORT_STAT_BROKEN = 1 := by decide +kernel
/-- The link of port 1 is broken, and has received valid frames for more than 3 scan periods. -/
def ropeRep : State :=
  portSet (regSet (fldSet rope1 (Reg.ROPE_PORT_STAT 1) F.ROPE_PORT_STAT_BROKEN 1) Reg.SYS_CLK_STATUS (setF 7 F.SYS_CLK_STATUS_RX_LOCK 3)) 1
    { portSt0 with lastValid := some 100000000, good := some 99000000, nscan := 4 }
theorem wit_Links_repaired :
    repaired ropeRep 1 = true ∧ portStat ropeRep 1 F.ROPE_PORT_STAT_BROKEN = 1 ∧ repaired rope1 0 = false := by decide +kernel
theorem wit_Links_settled : Settled rope1 := by decide +kernel
/-- Late enough in the 62.5 µs for a forwarded frame, and with port 1 the standby port towards node 5. -/
def ropeFwd : State := { rope1 with tb := 100000000 + 3000 }
def ropeStby : State := regSet rope1 (Reg.ROPE_PORT_STAT 1) (setF (setF (setF 0 F.ROPE_PORT_STAT_LINK 1) F.ROPE_PORT_STAT_STBY 1) F.ROPE_PORT_STAT_NEIGH 5)
theorem wit_Links_forward :
    forwardPorts ropeFwd 0 = [1] ∧ (portGet ropeFwd 1).queue = [] ∧ mayStart ropeFwd 1 221 = true ∧ rxFill ropeFwd 0 + 64 ≤ 2048 ∧
      5 ≠ nodeNum rope1 ∧ (0 : Nat) ≠ nodeNum rope1 ∧ portStat ropeStby 1 F.ROPE_PORT_STAT_STBY = 1 ∧
      portStat ropeStby 1 F.ROPE_PORT_STAT_BROKEN = 0 ∧ portStat ropeStby 1 F.ROPE_PORT_STAT_NEIGH = 5 ∧ nodeNum ropeStby = 9 := by decide +kernel

theorem wit_RingTimeIsDistributed :
    coreDown rope1 = false ∧ portUp rope1 0 = true ∧ portBlocked rope1 0 = false ∧ rootActive rope1 = false ∧ nodeNum rope1 ≠ 0 ∧
      (let s := regSet { rope1 with tb := 110000000 } Reg.ROPE_TIMECFG (setF (setF 0 F.ROPE_TIMECFG_ROOT 9) F.ROPE_TIMECFG_BACKUP 9)
       nodeNum s = rootNode s ∧ nodeNum s = backupNode s ∧ s.tb % 100000 = 0 ∧ s.tb % 10000000 = 0 ∧ started s.dev = true ∧
         mayRoot s = true ∧ syncPorts s = [0, 1] ∧ (portGet s 0).queue = [] ∧ timeLocked s = false ∧ s.rope.unlocked = false ∧
         s.rope.lostLock + 1000000 ≤ s.tb ∧ 5 + 500000 ≤ s.tb) ∧
      active DevState.safeStopped = false := by decide +kernel
/-- W of the smallest network, so that a window that opens at a TB multiple of 1 ms leaves none reserved: the port is free later. -/
def ropeT : State := regSet { rope1 with tb := 110003000 } Reg.ROPE_TIMECFG (setF (setF 0 F.ROPE_TIMECFG_ROOT 9) F.ROPE_TIMECFG_BACKUP 9)
theorem wit_RingTime_free : mayStart ropeT 0 68 = true ∧ rxFill ropeT 0 + 64 ≤ 2048 := by decide +kernel

/-- A leader of a pair at position P with its partner's link up, and its partner's frames. -/
def pair0 : State :=
  { regSet (regSet (regSet (regSet rope1 Reg.BLY_CFG (setF (resetWord Reg.BLY_CFG) F.BLY_CFG_EN 1)) Reg.BLY_STATUS
      (setF (setF (setF 0 F.BLY_STATUS_PSTATE 2) F.BLY_STATUS_LEADER 1) F.BLY_STATUS_LINK 1)) Reg.BLY_SN_LO 1) Reg.SYS_CLK_STATUS 7 with
    tb := 1100000000 }
def pairP (v : Nat) : State := setPstate pair0 v
/-- What frames `f` of the partner as its frame number 4. -/
def headOn (f : BlyFrame) : BlyHead :=
  ⟨true, BitVec.ofNat 16 (blyPayload f).length, 4, BitVec.ofNat 32 (blyCrc f true 4)⟩
def helloP : Hello := ⟨2, 9, true, 2, 0, 0⟩
def beatP : Heartbeat := ⟨0, 2, 2, true, false, BitVec.ofNat 32 (hdrCrc [])⟩
theorem wit_Pairs_hello :
    coreDown pair0 = false ∧ pairMember pair0 = true ∧ started pair0.dev = true ∧ linkUp (setBlyBit pair0 F.BLY_STATUS_LINK false) = false ∧
      pllLocked pair0 2 = true ∧ (blyRx (pairP 3) (headOn (.hello helloP)) (.hello helloP)).2 = true ∧ pstate (pairP 3) = 3 ∧
      helloP.pos ≠ ownPos (pairP 3) ∧ helloP.crc.toNat = (pairP 3).slots.crc ∧ helloP.node.toNat = nodeNum (pairP 3) ∧
      (pairP 3).bly.hello = none ∧ pstate (pairP 1) = 1 ∧ { helloP with crc := 7 }.crc.toNat ≠ (pairP 1).slots.crc ∧
      partnerAlone (fldSet (pairP 1) Reg.BLY_STATUS F.BLY_STATUS_PDSTATE 3) = true := by decide +kernel
def pairF : State :=
  { regSet (pairP 1) Reg.ROPE_STATUS (setF 0 F.ROPE_STATUS_TIME_LOCKED 1) with dev := .safeStopped, bly := { bly0 with hello := some helloP } }
theorem wit_Pairs_form :
    pstate pairF = 1 ∧ pairReady pairF true = true ∧ atBoundary pairF = true ∧ pairF.dev = .safeStopped ∧ coreDown pairF = false := by
  decide +kernel
def pairS : State := fldSet (setBlyBit (pairP 1) F.BLY_STATUS_LINK false) Reg.BLY_CFG F.BLY_CFG_SOLO 1
def pairW : State := setBlyBit pair0 F.BLY_STATUS_LEADER false
theorem wit_Pairs_lose :
    (pstate pairS = 1 ∧ fldGet pairS Reg.BLY_CFG F.BLY_CFG_SOLO = 1 ∧ linkUp pairS = false ∧ pairS.bly.quiet + 1000000000 ≤ pairS.tb) ∧
      breakAt pair0 = none ∧ pstate pair0 = 2 ∧ linkUp pair0 = true ∧ isLeader pair0 = true ∧ pairMember pair0 = true ∧
      pair0.bly.lastValid + 30000 ≤ pair0.tb ∧ pair0.bly.arb = none ∧ 5 + tScan pair0 + 1000 ≤ pair0.tb ∧
      (blyRx pair0 (headOn (.heartbeat { beatP with dstate := 6 })) (.heartbeat { beatP with dstate := 6 })).2 = true ∧
      fldGet pair0 Reg.BLY_CFG F.BLY_CFG_HOLD ≠ 0 ∧ pair0.dev = .run ∧
      fldGet (fldSet pair0 Reg.BLY_CFG F.BLY_CFG_HOLD 0) Reg.BLY_CFG F.BLY_CFG_HOLD = 0 ∧
      (pstate pairW = 2 ∧ isLeader pairW = false ∧ linkUp pairW = true ∧ pairMember pairW = true ∧
        pairW.bly.lastValid + 30000 ≤ pairW.tb ∧ pairW.bly.arb = none ∧ pairW.jrn.queue.length < 64) ∧
      active pair0.dev = true ∧ 7 ≤ pair0.tb := by decide +kernel

def imageP : ImageMsg := ⟨1100000000, 1, 0, false, false, true, [], []⟩
def ownP : Snap := ⟨1100000000, 3, 3, 0, [], 0, true, []⟩
def outP : OutImg := ⟨1100000000, 1, 0, 2⟩
def pair1 : State :=
  { pair0 with sle := { pair0.sle with snaps := [(0, ownP)] },
               bly := { bly0 with waiting := some 1100000000, images := [(1100000000, 1, 0)], swapWait := some 0,
                                  diffAt := [(5, 0)], sameAt := [(6, 0)] } }
theorem wit_Exchange_image :
    coreDown pair1 = false ∧ (blyRx pair1 (headOn (.image imageP)) (.image imageP)).2 = true ∧ pstate pair1 = 2 ∧ pair1.bly.waiting = some imageP.tbs.toNat ∧
      snapOf pair1 pair1.sle.scan = some ownP ∧ pair1.sle.recov = none ∧ breakAt pair1 = none ∧ pair1.bly.rxQ = [] ∧
      8 ≤ (List.replicate 8 imageP).length ∧
      { pair1 with bly := { pair1.bly with waiting := some 5 } }.bly.waiting = some 5 ∧ 5 + 600 ≤ pair1.tb := by decide +kernel
theorem wit_Exchange_compare :
    pair1.bly.images.find? (fun v => v.1 = outP.tbs.toNat) = some (1100000000, 1, 0) ∧ bly0.images.find? (fun v => v.1 = outP.tbs.toNat) = none ∧ outP.image.toNat = 1 ∧ outP.safe.toNat = 0 ∧
      { outP with image := 2 }.image.toNat ≠ 1 ∧ active pair1.dev = true ∧
      (let s := { pair1 with tb := 1100000720 }
       pairMember s = true ∧ linkUp s = true ∧ s.bly.busy ≤ s.tb ∧ s.bly.hbAt + 2000 ≤ s.tb ∧ 0 < tScan s ∧ 720 ≤ s.tb % tScan s ∧
         s.tb % tScan s + 28 ≤ tScan s) ∧
      beatP.dstate.toNat ∉ [0, 1, 6] ∧ beatP.pstate.toNat ≠ 7 ∧ beatP.bypass = true ∧ pair1.bly.swapWait ≠ none ∧
      beatP.crc.toNat = hdrCrc pair1.slots.buf ∧ 0 < tScan pair1 ∧
      (let f := setBlyBit pair1 F.BLY_STATUS_LEADER false
       (blyRx f (headOn (.safeCopy frame9ok)) (.safeCopy frame9ok)).2 = true ∧ isLeader f = false ∧ pstate f = 2 ∧ coreDown f = false) ∧
      0 + pair1.slots.tConfirm * 100000000 ≤ { pair1 with tb := 13000000000 }.tb := by decide +kernel
theorem wit_Exchange_watch :
    tabFind pair1.bly.diffAt 5 = some 0 ∧ 0 + idiffTicks pair1 ≤ pair1.tb ∧ idiffBit pair1 5 = false ∧
      tabFind pair1.bly.sameAt 6 = some 0 ∧ idiffBit (setIdiff pair1 6 true) 6 = true ∧
      (let s := { regSet pair1 (Reg.SOUT_CH_CFG 11) (setF (setF 0 F.SOUT_CH_CFG_MODE 1) F.SOUT_CH_CFG_ROLE 3) with
         sout := { sout0 with applied := 2048 } }
       bypassOn s = true ∧ bypassDue s = true ∧ relayReleased s (ownPos s) = true ∧ blyBit s F.BLY_STATUS_BP_FAIL = false) ∧
      (let s := regSet pair1 Reg.BLY_BYPASS_CFG 0x1E0302
       s.bly.peerBypass = false ∧ relayReleased s (!ownPos s) = false ∧ blyBit s F.BLY_STATUS_BP_WELD = false ∧
         pairMember s = true ∧ started s.dev = true) ∧
      (let s := regSet (regSet pair1 Reg.BLY_BYPASS_CFG 0x1E0302) (Reg.SOUT_CH_CFG 11) (setF (setF 0 F.SOUT_CH_CFG_MODE 1) F.SOUT_CH_CFG_ROLE 3)
       bypassOn s = false ∧ bypassDue s = true ∧ relayReleased s (ownPos s) = false) := by decide +kernel
/-- States for the relay clauses: the bypass channel on, the partner's relay stuck, the own relay stuck. -/
def pairB1 : State :=
  { regSet pair1 (Reg.SOUT_CH_CFG 11) (setF (setF 0 F.SOUT_CH_CFG_MODE 1) F.SOUT_CH_CFG_ROLE 3) with sout := { sout0 with applied := 2048 } }
def pairB2 : State := regSet pair1 Reg.BLY_BYPASS_CFG 0x1E0302
def pairB3 : State := regSet pairB2 (Reg.SOUT_CH_CFG 11) (setF (setF 0 F.SOUT_CH_CFG_MODE 1) F.SOUT_CH_CFG_ROLE 3)

theorem wit_Replacement_survivor :
    (let c : CtlArgs := ⟨0, 0, 0⟩
     (blyRx (pairP 3) (headOn (.control ⟨1, 0, 0, 0⟩)) (.control ⟨1, c.arg, c.val, c.tbs⟩)).2 = true) ∧ pstate (pairP 3) = 3 := by decide +kernel
/-- The survivor compares, with one equal image; and with its bypass released. -/
def pair4 : State := { pairP 4 with bly := { pair1.bly with compareFrom := some 1, equal := 1, resyncAt := some 5 } }
def pair4r : State :=
  { regSet (pairP 4) Reg.BLY_BYPASS_CFG 0x1E0B02 with bly := { bly0 with released := true } }
def pair5r : State :=
  { regSet (pairP 5) Reg.BLY_BYPASS_CFG 0x1E020B with bly := { bly0 with released := true } }
def pairA : State :=
  { pairP 3 with slots := { (pairP 3).slots with booted := 0 }, flash := { flash0 with a := List.replicate 64 0#8 } }
theorem wit_Replacement_compare :
    (blyRx pair4 (headOn (.outimg outP)) (.outimg outP)).2 = true ∧ pstate pair4 = 4 ∧ pair4.bly.compareFrom = some 1 ∧ 1 ≤ outP.tbs.toNat ∧
      pair4.bly.released = false ∧
      pair4.bly.images.find? (fun v => v.1 = outP.tbs.toNat) = some (outP.tbs.toNat, outP.image.toNat, outP.safe.toNat) ∧
      pair4.bly.equal = 1 ∧ pair4.bly.resyncAt = some 5 ∧ 5 + 20000000 ≤ pair4.tb ∧ linkUp pair4 = true ∧
      (pairMember pair4r = true ∧ started pair4r.dev = true ∧ pstate pair4r = 4 ∧ pair4r.bly.released = true ∧
        11 = fbInput pair4r (ownPos pair4r) ∧ filterReady pair4r 11 true 0 = true) ∧
      (pstate pair5r = 5 ∧ pair5r.bly.released = true ∧ 11 = fbInput pair5r (!ownPos pair5r) ∧ 11 ≠ fbInput pair5r (ownPos pair5r) ∧
        filterReady pair5r 11 true 0 = true) := by decide +kernel
/-- A newcomer in SEARCH; one with a whole stream: no start reset accepted, one register, scan 7 with an empty cairn, an empty ledger. -/
def pair5s : State := { pairP 1 with dev := .safeStopped, bly := { bly0 with retryAt := some 5 } }
def pair5 : State :=
  { pairP 5 with
    dev := .safeStopped
    bly := { pair1.bly with
      compareFrom := some 1, waiting := none, mayRun := true, inRecord := natBytes [3, 1, 1, Reg.FIO_LEAK_CFG, 3]
      inCairn := natBytes [7, 0]
      inLedger := natBytes [0, 0, 0, 0, 0] } }
def endP : CtlArgs := ⟨0, BitVec.ofNat 32 (crc32c (pair5.bly.inRecord ++ pair5.bly.inCairn ++ pair5.bly.inLedger)), 0⟩
theorem wit_Replacement_newcomer :
    (pstate pair5s = 1 ∧ pair5s.bly.retryAt = some 5 ∧ 5 ≤ pair5s.tb ∧ linkUp pair5s = true) ∧
      pstate pair5 = 5 ∧ pair5.bly.caughtUp = false ∧ pair5.sle.hasImage = true ∧ pair5.bly.backlog = [] ∧
      readRecord (valuesOf pair5.bly.inRecord) = some (3, true, [(Reg.FIO_LEAK_CFG, 3)]) ∧
      readCairn (valuesOf pair5.bly.inCairn) = some (7, []) ∧ (readLedger (valuesOf pair5.bly.inLedger)).isSome = true ∧
      (blyRx pair5 (headOn (.control ⟨3, endP.arg, endP.val, endP.tbs⟩)) (.control ⟨3, endP.arg, endP.val, endP.tbs⟩)).2 = true ∧
      inRecord Reg.FIO_LEAK_CFG = true ∧ leaveOk pair5 = true ∧ pair5.bly.compareFrom = some 1 ∧ pair5.bly.released = false ∧
      pair5.bly.mayRun = true ∧ pair5.kill.hold = false ∧ pair5.pwr.vendorBad = false ∧
      pair5.bly.images.find? (fun v => v.1 = outP.tbs.toNat) = some (outP.tbs.toNat, outP.image.toNat, outP.safe.toNat) := by decide +kernel
theorem wit_Replacement_slot :
    pairA.slots.booted < 2 ∧ 0 < (64 + hdrLen (slotBytes pairA 0) + 1023) / 1024 ∧ 1024 * 0 < (slotBytes pairA 0).length := by
  decide +kernel

/-- A part in SAFE-STOPPED at a scan boundary, its management pair running, and requests of source 9. -/
def od1 : State := { scan0 with dev := .safeStopped, pwr := { pwr0 with stage := 4 } }
def odMsg (op flags sub index : Nat) (d : List Byte) : List Byte :=
  leBytes 1 op ++ leBytes 1 flags ++ leBytes 2 0 ++ leBytes 4 7 ++ leBytes 2 index ++ leBytes 1 sub ++ leBytes 1 0 ++ leBytes 4 0 ++ d
def odQ (m : List Byte) : OdReq := ⟨9, 0, false, false, m⟩
def odAsk (s : State) (m : List Byte) : State := { s with od := { s.od with inbox := [odQ m] } }
def odUp (s : State) (m : List Byte) : State := (takeRequest { odAsk s m with od := { (odAsk s m).od with inbox := [] } } 9 7).1
def od2 : State := { od1 with od := { od0 with sets := [⟨9, 0, 0, [(0x3100, 4, [0x20, 3])]⟩] } }
def msgRead : List Byte := odMsg 1 0 1 0x1000 []
def msgDesc : List Byte := odMsg 3 0 1 0x1000 []
def msgConst : List Byte := odMsg 2 3 1 0x1000 [0]
def msgWrite : List Byte := odMsg 2 3 4 0x3100 [0x20, 3]
def msgOpen : List Byte := odMsg 0x10 0 0 0 []
def msgAdd : List Byte := odMsg 0x11 0 4 0x3101 [0x20, 3]
def msgApply : List Byte := odMsg 0x12 0 0 0 []
def msgDrop : List Byte := odMsg 0x13 0 0 0 []
theorem wit_Serves_read : Serves (odAsk od1 msgRead) 1 (odQ msgRead) (odUp od1 msgRead) :=
  ⟨by decide +kernel, by decide +kernel, by decide +kernel, by decide +kernel, by decide +kernel, by rfl, by decide +kernel⟩
theorem wit_Serves_describe : Serves (odAsk od1 msgDesc) 3 (odQ msgDesc) (odUp od1 msgDesc) :=
  ⟨by decide +kernel, by decide +kernel, by decide +kernel, by decide +kernel, by decide +kernel, by rfl, by decide +kernel⟩
theorem wit_Serves_const : Serves (odAsk od1 msgConst) 2 (odQ msgConst) (odUp od1 msgConst) :=
  ⟨by decide +kernel, by decide +kernel, by decide +kernel, by decide +kernel, by decide +kernel, by rfl, by decide +kernel⟩
theorem wit_Serves_write : Serves (odAsk od1 msgWrite) 2 (odQ msgWrite) (odUp od1 msgWrite) :=
  ⟨by decide +kernel, by decide +kernel, by decide +kernel, by decide +kernel, by decide +kernel, by rfl, by decide +kernel⟩
theorem wit_Serves_open : Serves (odAsk od1 msgOpen) 0x10 (odQ msgOpen) (odUp od1 msgOpen) :=
  ⟨by decide +kernel, by decide +kernel, by decide +kernel, by decide +kernel, by decide +kernel, by rfl, by decide +kernel⟩
theorem wit_Serves_add : Serves (odAsk od2 msgAdd) 0x11 (odQ msgAdd) (odUp od2 msgAdd) :=
  ⟨by decide +kernel, by decide +kernel, by decide +kernel, by decide +kernel, by decide +kernel, by rfl, by decide +kernel⟩
theorem wit_Serves_apply : Serves (odAsk od2 msgApply) 0x12 (odQ msgApply) (odUp od2 msgApply) :=
  ⟨by decide +kernel, by decide +kernel, by decide +kernel, by decide +kernel, by decide +kernel, by rfl, by decide +kernel⟩
theorem wit_Serves_drop : Serves (odAsk od2 msgDrop) 0x13 (odQ msgDrop) (odUp od2 msgDrop) :=
  ⟨by decide +kernel, by decide +kernel, by decide +kernel, by decide +kernel, by decide +kernel, by rfl, by decide +kernel⟩
theorem wit_Requests_read :
    (odFind 0x1000 1).isSome = true ∧ (odFind 0x1000 1).any (fun r => (readValue (odUp od1 msgRead) r).1 = 0 && decide (r.row.acc < 2)) = true ∧
      odIndex msgRead = 0x1000 ∧ odSub msgRead = 1 ∧ odOffset msgRead = 0 ∧ odIndex msgDesc = 0x1000 ∧ odSub msgDesc = 1 ∧
      odIndex msgConst = 0x1000 ∧ odSub msgConst = 1 := by decide +kernel
theorem wit_Requests_write :
    (odFind 0x3100 4).any (fun r => 2 ≤ r.row.acc && r.row.cls ≠ 2 && decide (r.row.size ≤ 212) &&
        valueStatus (odUp od1 msgWrite) r [0x20, 3] = 0) = true ∧
      (odIndex msgWrite, odSub msgWrite, odData msgWrite, odFlags msgWrite % 4, odOffset msgWrite) = (0x3100, 4, [0x20, 3], 3, 0) ∧
      quotaFull (odUp od1 msgWrite) = false ∧ atomicOk (odUp od1 msgWrite) [(0x3100, 4, [0x20, 3])] = true := by decide +kernel
theorem wit_Requests_check : (liveBad (candidate (odUp od1 msgWrite) [(0x3100, 4, [0x20, 3])])).isNone = true := by decide +kernel
theorem wit_Requests_set :
    (dropSet (odUp od1 msgOpen) 9).od.sets.length < 4 ∧ (setOf (odUp od2 msgAdd) 9).isSome = true ∧
      (odFind 0x3101 4).any (fun r => 2 ≤ r.row.acc && r.row.cls ≠ 2 && decide (r.row.size ≤ 212) &&
        valueStatus (odUp od2 msgAdd) r [0x20, 3] = 0) = true ∧
      (odIndex msgAdd, odSub msgAdd, odData msgAdd) = (0x3101, 4, [0x20, 3]) ∧ setBytes [(0x3100, 4, [0x20, 3])] + 4 + 2 ≤ 4096 ∧
      (setOf (odUp od2 msgApply) 9).isSome = true ∧ quotaFull (odUp od2 msgApply) = false ∧ (setOf (odUp od2 msgDrop) 9).isSome = true ∧
      quotaFull { od2 with od := { od2.od with waits := List.replicate 16 ⟨1, 1, 2, 0, 0, 0, [], 0, false, none⟩ } } = true := by
  decide +kernel
theorem wit_Requests_apply : (liveBad (candidate (dropSet (odUp od2 msgApply) 9) [(0x3100, 4, [0x20, 3])])).isNone = true := by decide +kernel
def od3 : State := { od1 with od := { od0 with waits := [⟨9, 7, 2, 0x3100, 4, 0, [(0x3100, 4, [0x20, 3])], 0, false, none⟩] } }
theorem wit_Requests_due :
    coreDown od3 = false ∧ od3.od.mgmt = none ∧ (latchedWait od3).isNone = true ∧ atBoundary od3 = true ∧ od3.sle.recov = none ∧
      (dueWait od3) = od3.od.waits.head? ∧ waitStatus od3 ⟨9, 7, 2, 0x3100, 4, 0, [(0x3100, 4, [0x20, 3])], 0, false, none⟩ = (0, 0, 0) := by
  decide +kernel
def msgBad : List Byte := odMsg 9 0 0 0 []
theorem wit_Requests_bad :
    (odAsk od1 msgBad).od.inbox.length = 1 ∧ odFormatBad msgBad = true ∧ (txnOf (odAsk od1 msgBad) 9).isNone = true ∧
      nextReq (odAsk od1 msgBad) = some (odQ msgBad) ∧ pairDead (odAsk od1 msgBad) = false := by decide +kernel
def odRep : State :=
  { odAsk od1 msgRead with od := { (odAsk od1 msgRead).od with table := [⟨9, 7, 0, some [1, 2], true, false, none⟩] } }
def odMail (op sub len : Nat) : State :=
  regSet (regSet (regSet od1 (Reg.ODX_REQ 0) (BitVec.ofNat 32 op)) (Reg.ODX_REQ 2) (BitVec.ofNat 32 (0x1000 + 65536 * sub))) Reg.ODX_REQ_LEN (BitVec.ofNat 32 len)
def odTime : State := { od2 with tb := 2000000000 }
def odFull : State := { odAsk od2 msgApply with od := { (odAsk od2 msgApply).od with waits := List.replicate 16 ⟨1, 1, 2, 0, 0, 0, [], 0, false, none⟩ } }
theorem wit_Requests_repeat :
    let s := { odAsk od1 msgRead with od := { (odAsk od1 msgRead).od with table := [⟨9, 7, 0, some [1, 2], true, false, none⟩] } }
    nextReq s = some (odQ msgRead) ∧ (txnOf s 9).any (fun x => x.txn = odTxn msgRead) = true ∧ pairDead s = false ∧ odOp msgRead = 1 := by
  decide +kernel
theorem wit_Requests_mail :
    (setOf { od2 with tb := 1000000000 } 9).isSome = true ∧ 0 + 1000000000 ≤ odTime.tb ∧ mailBusy od1 = false ∧
      (let s := regSet (regSet (regSet od1 (Reg.ODX_REQ 0) 1) (Reg.ODX_REQ 2) 0x11000) Reg.ODX_REQ_LEN 16
       (regGet s Reg.ODX_REQ_LEN).toNat % 256 = 16 ∧ odFormatBad (mailRequest s 16) = false) ∧
      (regGet (regSet od1 Reg.ODX_REQ_LEN 2) Reg.ODX_REQ_LEN).toNat % 256 = 2 ∧
      mailBusy { od1 with od := { od0 with inbox := [⟨0, 0, true, false, msgRead⟩] } } = true := by decide +kernel

def slotN (n : Nat) : State := { od1 with slots := { slots0 with commit := n, window := some 0, needHigh := false } }
theorem wit_Slots_run :
    coreDown od1 = false ∧ commitStates od1 = true ∧ committing od1 = false ∧ committing (slotN 3) = true ∧ servesWrites od1 = true ∧
      (slotN 1).slots.commit = 1 ∧ checkStatus (slotN 1) ≠ 0 ∧ (slotN 2).slots.commit = 2 ∧ (slotN 2).slots.adopt = false ∧
      (slotN 3).slots.window = some 0 ∧ 0 + 0 ≤ (slotN 3).tb ∧ (slotN 3).tb < 0 + 500000000000 ∧ confirmEnd (slotN 3) 0 < { slotN 3 with tb := 12000000001 }.tb ∧
      (slotN 3).tb ≤ confirmEnd (slotN 3) 0 ∧ started od1.dev = true ∧ pstate od1 ≠ 6 ∧ od1.od.lcReq = none ∧ od1.slots.commit ≠ 3 ∧
      (slotN 4).slots.trialImage = false ∧ (slotN 4).sle.loading = false ∧ 64 ≤ (List.replicate 64 (0 : Byte)).length := by decide +kernel
theorem wit_Slots_settled : settle (slotN 3) = slotN 3 ∧ settle (slotN 2) = slotN 2 ∧ settle (slotN 4) = slotN 4 := by decide +kernel
theorem wit_Slots_trial :
    atBoundary od1 = true ∧ od1.sle.recov = none ∧ trialImageOpen od1 = true ∧ od1.slots.booted = 255 ∧
      imageBad { od1 with trial := true, slots := { od1.slots with buf := [1], trialImage := true, adopt := false, result := 0 } } [1] ≠ none := by
  decide +kernel
theorem wit_Slots_trial_good :
    imageBad { od1 with trial := true, slots := { od1.slots with buf := img1, trialImage := true, adopt := false, result := 0 } } img1 = none := by
  decide +kernel

def evP : Event := ⟨5, 5, 0x0002, 1, 2, 3, false, false⟩
def jrn1 : State := { od1 with jrn := { jrn0 with queue := [evP], ring := [⟨0, 1, 0x6003, 2, 0, 0, 0, 0⟩], nextSeq := 1, lastTb := some 1 } }
theorem wit_Journal_write :
    pairRuns jrn1 = true ∧ earliest jrn1.jrn.queue = some evP ∧ evP.since + 2000 ≤ jrn1.tb ∧ unmirrored jrn1 ≠ [] ∧ jrn1.jrn.lastTb = some 1 ∧
      jrn1.jrn.ring.length ≤ 4096 ∧ jrn1.jrn.lostSince = 0 ∧ pageDue jrn1 = true ∧ jrn1.jrn.mirrorStopped = false ∧ jrn1.slots.commit ≠ 2 ∧
      jrn1.slots.commit ≠ 4 ∧ coreDown jrn1 = false := by decide +kernel
theorem wit_Journal_pair :
    pairUp jrn1 = true ∧ jrn1.dev ≠ .powerUp ∧
      ((limitRange (4 : Fin 9)).2 < limitValue (4 : Fin 9) 30501 ∧ limitValue (0 : Fin 9) 1709 < (limitRange (0 : Fin 9)).1) ∧
      (∀ p ∈ ([(1800, 1800), (3300, 3300), (1800, 1800), (3000, 3000), (24000, 24000), (0, 24000), (0, 0), (0, 31000), (25, 125)] :
          List (BitVec 16 × BitVec 16)).zipIdx, (limitRange p.2).1 ≤ limitValue p.2 p.1.1 ∧ limitValue p.2 p.1.2 ≤ (limitRange p.2).2) ∧
      (jrn1.od.misHist.filter fun p => jrn1.tb < p.2 + 1000000000 ∧ p.1 = (7 : Word).toNat).length < 2 ∧
      2 ≤ (([(7, jrn1.tb), (7, jrn1.tb)] : List (Nat × Nat)).filter fun p => jrn1.tb < p.2 + 1000000000 ∧ p.1 = (7 : Word).toNat).length ∧
      (let s := { jrn1 with od := { jrn1.od with mgmt := some (7, 5) } }
       s.od.mgmt = some (7, 5) ∧ settle s = s) ∧
      jrn1.od.limits = !true ∧ { jrn1 with od := { jrn1.od with limits := true } }.od.limits = !false ∧ jrn1.od.guarLog = unmet jrn1 := by
  decide +kernel

/-- Core 0 in step mode over one entry of AIN4 against AIN5 at gain ×4, with a conversion running; cores 2 and 3 held. -/
def conv1 : Conv := ⟨400, adcReq 0xAA 2 46, 0, false⟩
def adc1 : State :=
  { regSet (regSet run0 (Reg.ADC_CFG 0) (setF (setF (resetWord (Reg.ADC_CFG 0)) F.ADC_CFG_EN 1) F.ADC_CFG_SEQMODE 2)) (Reg.ADC_STEP 0 0)
      (adcReq 0xAA 2 46) with
    tb := 1000, supv := true, adc := [(0, { adcSt0 with phase := 2, fifo := [5], conv := some conv1 })] }
theorem wit_Conversions :
    adcCode 0xAA 2 (-112500000) = (-2048, false) ∧ (adcScale 0xAA).1 = true ∧ (adcScale 0xA6).1 = false ∧ adcCode 0xA6 0 1350000000 = (12288, false) ∧
      coreDown adc1 = false ∧ adcHeld adc1 0 = false ∧ adcHeld adc1 2 = true ∧ (adcGet adc1 0).urg = none ∧ (adcGet adc1 0).tail = [] ∧
      ((adcGet adc1 0).tail ++ (adcGet adc1 0).conv.toList).head? = some conv1 ∧ conv1.end_ ≤ 4 * adc1.tb ∧ (adcGet adc1 0).fifo.length < 64 ∧ (adcGet adc1 0).fifo.head? = some 5 ∧
      (adcGet adc1 1).fifo = [] ∧ entryReps adc1 0 (adcGet adc1 0).entry ≤ (adcGet adc1 0).rep + 1 ∧ adcMode adc1 0 = 2 ∧
      lastEntry adc1 0 ≤ (adcGet adc1 0).entry ∧ (adcGet (adcSet adc1 0 { adcSt0 with urg := some conv1 }) 0).urg = some conv1 := by
  decide +kernel

theorem wit_Sequencers_enable :
    (let s := regSet run0 (Reg.ADC_STEP 0 0) (adcReq 0xAA 2 46)
     let w := setF (resetWord (Reg.ADC_CFG 0)) F.ADC_CFG_SEQMODE 2
     let bad := setF (setF w F.ADC_CFG_ILV 1) F.ADC_CFG_LP 1
     coreDown s = false ∧ adcHeld s 0 = false ∧ adcSlave s 0 = false ∧ adcEn s 0 = false ∧ getF w F.ADC_CFG_SEQMODE ≠ 3 ∧
       adcUnusable s 0 = false ∧ adcCfgOk (regSet s (Reg.ADC_CFG 0) (setF (setF w F.ADC_CFG_EN 1) F.ADC_CFG_EN 0)) 0 = true ∧
       getF bad F.ADC_CFG_SEQMODE ≠ 3 ∧ adcCfgOk (regSet s (Reg.ADC_CFG 0) (setF (setF bad F.ADC_CFG_EN 1) F.ADC_CFG_EN 0)) 0 = false) ∧
      adcHeld adc1 2 = true ∧ adcSlave adc1 0 = false ∧ adcEn adc1 0 = true ∧ adcMode adc1 0 ≠ 3 ∧ adcJoined adc1 0 = false ∧
      adcSlave (regSet adc1 (Reg.ADC_CFG 0) (setF (setF (resetWord (Reg.ADC_CFG 0)) F.ADC_CFG_EN 1) F.ADC_CFG_ILV 1)) 1 = true := by
  decide +kernel
theorem wit_Sequencers_trigger :
    (adcGet adc1 0).trigAt ≠ some adc1.tb ∧ adcMode adc1 0 = 2 ∧ (adcGet adc1 0).phase ≠ 0 ∧ adcConverting adc1 0 = true ∧ adcSeqEnds adc1 0 = true ∧ adcSeqEnds { adc1 with tb := 50 } 0 = false ∧
      adcUnusable adc1 0 = false ∧
      (adcGet adc1 0).started ≠ some adc1.tb ∧
      (let s := adcSet adc1 0 { adcGet adc1 0 with started := some 1000 }
       (adcGet s 0).phase = 2 ∧ (adcGet s 0).rep = 0 ∧ (adcGet s 0).started = some s.tb ∧ (adcGet s 0).conv ≠ none ∧
         (adcGet s 0).urg = none ∧ (adcGet s 0).tail = []) ∧ reqMux (regGet adc1 (Reg.ADC_URG 0)) < 0x140 ∧
      0x140 ≤ reqMux (regGet (regSet adc1 (Reg.ADC_URG 0) 0x140) (Reg.ADC_URG 0)) ∧
      (let s := { adc1 with adc := [] }
       (adcGet s 0).phase = 0 ∧ adcConverting s 0 = false ∧ adcEn s 0 = true) ∧
      (let s := { regSet adc1 (Reg.ADC_TRIG 0) (setF 0 F.ADC_TRIG_SRC 4) with tmr := [(3, { tmrSt0 with evtAt := some 998 })] }
       triggerSource s (fldGet s (Reg.ADC_TRIG 0) F.ADC_TRIG_SRC) = some 998 ∧ s.tb ≤ 998 + 3 ∧ (adcGet s 0).trigEvt ≠ some 998 ∧
         triggerSource adc1 (fldGet adc1 (Reg.ADC_TRIG 0) F.ADC_TRIG_SRC) = none ∧ Settled adc1) ∧
      (let s := { adc1 with adc := [(0, { adcSt0 with phase := 1 }), (1, { adcSt0 with phase := 3 })] }
       (adcGet s 0).phase = 1 ∧ (adcGet s 0).delayEnd ≤ 4 * s.tb ∧ (adcGet s 1).phase = 3 ∧ (adcGet s 1).delayEnd ≤ 4 * s.tb) := by
  decide +kernel
def adcS (m : Nat) : State := regSet adc1 (Reg.ADC_CFG 0) (setF (setF (resetWord (Reg.ADC_CFG 0)) F.ADC_CFG_EN 1) F.ADC_CFG_SEQMODE m)

/-- Timer 5 of the example of R352: PRESC 100, PERIOD 999, PHASE 500, CMP 0, ALIGN 1, running with count `c` at TB `a`. -/
def tmr1 (c a now : Nat) : State :=
  { regSet (regSet (regSet (regSet run0 (Reg.TMR_PRESC 5) 100) (Reg.TMR_PERIOD 5) 999) (Reg.TMR_PHASE 5) 500) (Reg.TMR_CFG 5)
      (setF (setF (setF (setF 0 F.TMR_CFG_EN 1) F.TMR_CFG_ALIGN 1) F.TMR_CFG_CAPSRC 1) F.TMR_CFG_CAPEDGE 3) with
    tb := now, tmr := [(5, { tmrSt0 with cnt := c, at_ := a })] }
theorem wit_TimersCountAndCapture :
    (let s := tmr1 999 49900 50000
     tmrTick (tmrSync s 5) 5 = true ∧ tmrRaw (tmrSync s 5) 5 = tmrPeriod (tmrSync s 5) 5 + 1) ∧
      (let s := tmr1 0 50000 50100
       let s := regSet s (Reg.TMR_CMP 5) 1
       tmrTick (tmrSync s 5) 5 = true ∧ tmrRaw (tmrSync s 5) 5 = tmrCmp (tmrSync s 5) 5 ∧
         tmrCmp (tmrSync s 5) 5 < tmrPeriod (tmrSync s 5) 5) ∧
      (let s := regSet (tmr1 999 49900 50000) (Reg.TMR_CMP 5) 0
       tmrTick (tmrSync s 5) 5 = true ∧ tmrRaw (tmrSync s 5) 5 = tmrPeriod (tmrSync s 5) 5 + 1 ∧ tmrForced (tmrSync s 5) 5 = false ∧
         tmrCmp (tmrSync s 5) 5 = 0) ∧
      (tmrGet (tmr1 840 134000 134040) 5).capAt ≠ some 134040 ∧ captureSource (tmr1 840 134000 134040) 1 = true ∧
      (let s := { tmr1 0 50000 50100 with tmr := [(5, { tmrSt0 with at_ := 50000, load := true })] }
       tmrEn s 5 = true ∧ (tmrGet s 5).start = false ∧ (tmrGet s 5).load = true ∧ tmrNext s 5 (tmrGet s 5).at_ = s.tb) ∧
      tmrForced { tmr1 840 134000 134100 with tmr := [(5, { tmrSt0 with at_ := 134000, cnt := 840, late := some 134050 })] } 5 = true ∧
      tmrEn run0 5 = false ∧ getF (setF 0 F.TMR_CFG_EN 1) F.TMR_CFG_EN = 1 ∧ 0x14 < getF (setF 0 F.TMR_CFG_CAPSRC 0x15) F.TMR_CFG_CAPSRC ∧
      (let s := tmr1 840 134000 134040
       coreDown s = false ∧ tmrEn s 5 = true ∧ (tmrGet (tmrSync s 5) 5).start = false ∧ (499 : Word).toNat < tmrRaw (tmrSync s 5) 5 ∧ tmrReturns (tmrSync s 5) 5 = false ∧
         tmrAligned s 5 = true ∧ (499 : Word).toNat < (regGet s (Reg.TMR_PHASE 5)).toNat ∧
         captureSource s (fldGet s (Reg.TMR_CFG 5) F.TMR_CFG_CAPSRC) = true ∧ captureSource s 0x14 = false ∧ fldGet s (Reg.TMR_CFG 5) F.TMR_CFG_CAPEDGE = 3) ∧
      (let s := { tmr1 0 49950 50000 with tmr := [(5, { tmrSt0 with at_ := 49950, start := true })] }
       tmrEn s 5 = true ∧ (tmrGet s 5).start = true ∧ tmrNext s 5 (tmrGet s 5).at_ = s.tb) := by decide +kernel

/-- Channel 2 enabled with its queue of 16 records at the start of SRAM; a shadow that fills 8 bytes, and a copy in progress. -/
def fillD : Desc := ⟨0xD0000032, 1, 0x20001000, 8, 0, 0, 0, 0⟩
def copyD : Desc := ⟨0x80000031, 0x20002000, 0x20003000, 8, 0, 0, 0, 0⟩
def mrc1 (x : MrcSt) : State :=
  { [0xD0000032, 1, 0x20001000, 8, 0, 0].zipIdx.foldl (fun s p => regSet s (Reg.MRC_CH_SH 2 p.2) p.1)
      (regSet run0 Reg.MRC_EN 4) with mem := memZero mem0, mrc := [(2, x)] }
theorem wit_Channels_arm :
    coreDown (mrc1 mrcSt0) = false ∧ mrcEnabled (mrc1 mrcSt0) 2 = true ∧ mrcEnabled (mrc1 mrcSt0) 3 = false ∧
      (mrcGet (mrc1 { mrcSt0 with armed := true, state := 2 }) 2).armed = true ∧ (mrcGet (mrc1 { mrcSt0 with dirty := true }) 2).dirty = true ∧
      (mrcGet (mrc1 mrcSt0) 2).armed = false ∧ (mrcGet (mrc1 mrcSt0) 2).dirty = false ∧ tqOk (mrc1 mrcSt0) 2 = true ∧
      (mrcGet (mrc1 mrcSt0) 2).state = 0 ∧ tqFull (mrc1 mrcSt0) 2 = false ∧ descCheck (shadowDesc (mrc1 mrcSt0) 2) = 0 ∧
      shadowDesc (mrc1 mrcSt0) 2 = fillD ∧ descCheck (shadowDesc (regSet (mrc1 mrcSt0) (Reg.MRC_CH_SH 2 3) 7) 2) ≠ 0 ∧
      tqFull (regSet (mrc1 mrcSt0) (Reg.MRC_CH_TQ_TAIL 2) 1) 2 = true := by decide +kernel
theorem wit_Channels_run :
    let s := mrc1 { mrcSt0 with state := 2, act := some copyD }
    (mrcGet s 2).state = 2 ∧ (mrcGet s 2).act = some copyD ∧ (runDesc s 2 copyD).status = 0 ∧ (mrcGet s 2).armed = false ∧
      (runDesc s 2 { copyD with src := 0x30000000 }).status = 1 ∧
      (runDesc { s with mem := memSetByte s.mem 0x20004000 2 } 2 { copyD with ctrl := 0xA0000031, idx := 0x20004000 }).status = 3 ∧
      descEoc copyD = true ∧ descEoc { copyD with ctrl := 0x31 } = false ∧ descInt { copyD with ctrl := 0x40000031 } = true := by decide +kernel
theorem wit_Channels_wait :
    (let s := mrc1 { mrcSt0 with state := 5 }
     (mrcGet s 2).state = 5 ∧ (tqHead s 2 + 1) % tqSize s 2 ≠ (4 : Word).toNat % 256 % tqSize s 2 ∧ (mrcGet s 2).nxt = none ∧
       descCheck (shadowDesc s 2) = 0) ∧
      (let s := mrc1 { mrcSt0 with state := 1, nxt := some 0x20004000 }
       let m := memSetWord (memSetWord (memSetWord s.mem 0x20004000 0x80000031) 0x20004008 0x20003000) 0x2000400C 8
       (mrcGet s 2).state = 1 ∧ (mrcGet s 2).nxt = some 0x20004000 ∧ tqFull s 2 = false ∧ inSram 0x20004000 = true ∧
         memReadable s 0x20004000 = true ∧ 0x20004000 % 32 = 0 ∧ descCheck (memDesc m 0x20004000) = 0 ∧ inSram 5 = false) := by
  decide +kernel
def mrcR (d : Desc) : State := mrc1 { mrcSt0 with state := 2, act := some d, slot := (0x20000000, 16) }
def mrcG : State := { mrcR { copyD with ctrl := 0xA0000031, idx := 0x20004000 } with mem := memSetByte (memZero mem0) 0x20004000 2 }
def mrcF : State :=
  { mrc1 { mrcSt0 with state := 1, nxt := some 0x20004000 } with
    mem := memSetWord (memSetWord (memSetWord (memZero mem0) 0x20004000 0x80000031) 0x20004008 0x20003000) 0x2000400C 8 }

theorem wit_CopiesMoveTheirBytes :
    let s := mrc1 { mrcSt0 with state := 2, act := some copyD, slot := (0x20000000, 16) }
    coreDown s = false ∧ (mrcGet s 2).state = 2 ∧ (mrcGet s 2).act = some copyD ∧ descCheck copyD = 0 ∧ descType copyD = 0 ∧
      descSfix copyD = false ∧ descDfix copyD = false ∧ fldGet s Reg.BIST_UNUSABLE F.BIST_UNUSABLE_SRAM = 0 ∧ (mrcGet s 2).armed = false ∧
      sramBase ≤ (mrcGet s 2).slot.1 ∧ (mrcGet s 2).slot.1 + 16 ≤ sramBase + sramSize ∧
      sramBase ≤ copyD.src.toNat ∧ copyD.src.toNat + copyD.len.toNat ≤ sramBase + sramSize ∧ sramBase ≤ copyD.dst.toNat ∧
      copyD.dst.toNat + copyD.len.toNat ≤ sramBase + sramSize ∧ copyD.src.toNat + copyD.len.toNat ≤ copyD.dst.toNat ∧
      (mrcGet s 2).slot.1 + 16 ≤ copyD.dst.toNat := by decide +kernel

theorem wit_CheckUnitsComputeTheirCrc :
    coreDown run0 = false ∧ fldGet (fldSet run0 (Reg.CRC_CFG 1) F.CRC_CFG_EN 1) (Reg.CRC_CFG 1) F.CRC_CFG_EN = 1 ∧
      fldGet run0 (Reg.CRC_CFG 1) F.CRC_CFG_EN = 0 ∧
      (let s := regSet run0 (Reg.CRC_VAL 1) 0x340BC6D9
       fldGet s (Reg.CRC_CFG 1) F.CRC_CFG_WIDTH = 31 ∧ fldGet s (Reg.CRC_CFG 1) F.CRC_CFG_REFIN = 1 ∧
         fldGet s (Reg.CRC_CFG 1) F.CRC_CFG_REFOUT = 1 ∧ regGet s (Reg.CRC_XOROUT 1) = 0xFFFFFFFF ∧
         regGet s (Reg.CRC_POLY 1) = 0x04C11DB7) ∧
      crc32 [0x31, 0x32, 0x33, 0x34, 0x35, 0x36, 0x37, 0x38, 0x39] = 0xCBF43926 := by decide +kernel
theorem wit_CheckUnits_val :
    (let s := regSet run0 (Reg.CRC_VAL 1) (BitVec.ofNat 32 (crcRun 32 0x04C11DB7 true 0xFFFFFFFF [0x31, 0x32, 0x33, 0x34, 0x35, 0x36, 0x37, 0x38, 0x39]))
     regGet s (Reg.CRC_VAL 1) = BitVec.ofNat 32 (crcRun (crcWidth s 1) (crcCut s 1 (regGet s (Reg.CRC_POLY 1)))
        (fldGet s (Reg.CRC_CFG 1) F.CRC_CFG_REFIN = 1) 0xFFFFFFFF [0x31, 0x32, 0x33, 0x34, 0x35, 0x36, 0x37, 0x38, 0x39])) := by decide +kernel
def crcV : State := regSet run0 (Reg.CRC_VAL 1) (BitVec.ofNat 32 (crcRun 32 0x04C11DB7 true 0xFFFFFFFF [0x31, 0x32, 0x33, 0x34, 0x35, 0x36, 0x37, 0x38, 0x39]))

/-- A part in SELF-TEST whose BIST is running, with the native policy, in DEPLOYED. -/
def test0 : State :=
  { State.reset with dev := .selfTest, otp := { otp0 with lc := 0x3F, native := 3 }, pwr := { pwr0 with stage := 1 } }
def noMark : Marks := ⟨0, 0, 0, 0⟩
def okGaps : Gaps := ⟨[12000, 12000, 12000, 12000], [12000, 12000, 12000, 12000]⟩
theorem wit_StartsRunTheirSteps_reset :
    majority 0 = false ∧ majority 3 = true ∧ { pwr0 with resetLow := true }.resetLow = true ∧ State.reset.pwr.hibWake = false := by decide +kernel
theorem wit_StartsRunTheirSteps_bist :
    coreDown test0 = false ∧ test0.dev = .selfTest ∧ test0.pwr.stage = 1 ∧ test0.pwr.retries < 3 ∧ haltPolicy test0 = false ∧
      bistValid 800 0 = true ∧ bistValid 831 0 = false ∧ bistValid 770 100 = true ∧ bistValid 830 0xFF9C = true ∧ test0.pwr.wake = false ∧ haltPolicy { test0 with otp := { test0.otp with native := 1 } } = true ∧ anyMark (withGaps ⟨8, 0, 0, 0⟩ okGaps) = true ∧
      anyMark (withGaps noMark okGaps) = false ∧ gapsFail ⟨[12000, 12000, 12000, 12400], [12000, 12000, 12000, 12400]⟩ 3 = true ∧
      (0x1A : BitVec 8) &&& 0x25 = 0 ∧ { test0.pwr with wake := true }.wake = true ∧ 3 ≤ { test0.pwr with retries := 3 }.retries := by decide +kernel
theorem wit_StartsRunTheirSteps_retry :
    let s := { test0 with tb := 1000000, pwr := { test0.pwr with stage := 2 } }
    coreDown s = false ∧ s.pwr.stage = 2 ∧ s.pwr.invalidAt + 1000000 ≤ s.tb := by decide +kernel
theorem wit_StartsRunTheirSteps_slot :
    let s := { test0 with pwr := { test0.pwr with stage := 3 } }
    coreDown s = false ∧ s.pwr.stage = 3 ∧ bootChoice s = 255 := by decide +kernel
/-- A slot as the tool would write it: sealed with `key`, with image `img1` and no parameters. -/
def sealedSlot (key : List Byte) (seq : Nat) (body : List Byte) : List Byte :=
  let h := leBytes 4 slotMagic ++ leBytes 2 1 ++ leBytes 2 0x6432 ++ leBytes 4 seq ++ leBytes 4 body.length ++ leBytes 4 (crc32 body) ++
    List.replicate 20 0
  h ++ aesCmac key (h ++ body) ++ List.replicate 4 0 ++ leBytes 4 0x5AC33CA5 ++ body
def body1 : List Byte :=
  leBytes 2 1 ++ leBytes 2 0 ++ leBytes 4 img1.length ++ img1 ++ List.replicate ((4 - img1.length % 4) % 4) 0 ++ leBytes 2 2 ++ leBytes 6 0
def key1 : List Byte := List.replicate 16 7
def slot1 : State :=
  { test0 with
    pwr := { test0.pwr with stage := 3 }
    otp := { test0.otp with key := key1, lc := 0x0C }
    flash := { flash0 with b := sealedSlot key1 5 body1 } }
/-- An intact slot in B whose sections are empty. -/
def slot0 : State :=
  { slot1 with flash := { flash0 with
      b := leBytes 4 slotMagic ++ leBytes 2 1 ++ leBytes 2 0x6432 ++ leBytes 4 5 ++ leBytes 4 16 ++ leBytes 4 16178617 ++
        List.replicate 20 0 ++ leBytes 16 1303817767030901802537836682016810931 ++ List.replicate 4 0 ++ leBytes 4 0x5AC33CA5 ++
        leBytes 2 1 ++ leBytes 6 0 ++ leBytes 2 2 ++ leBytes 6 0 } }
set_option maxRecDepth 100000 in
theorem wit_StartsRunTheirSteps_boot : slotState slot0 1 = 0 := by decide +kernel
theorem wit_StartsRunTheirSteps_part :
    coreDown slot0 = false ∧ slot0.pwr.stage = 3 ∧ slotState slot0 0 = 1 ∧ sectionOf (slotBody (slotBytes slot0 1)) 7 = none := by
  decide +kernel
theorem wit_StartsRunTheirSteps_later :
    (let s := { run0 with pwr := { run0.pwr with defer0 := true } }
     coreDown s = false ∧ started s.dev = true ∧ s.dev ≠ .faulted ∧ bankOfString 0 = 0) ∧
      slicesRun run0 = true ∧ sliceReady run0 (.sram 0 5) = true ∧ sliceReady run0 (.input 3) = true ∧ sliceReady run0 (.output 4) = true ∧
      sliceReady run0 (.adc 1) = true ∧ sliceReady run0 (.ret 1 0) = true ∧ slicesRan run0 + 1 < sliceTotal run0 := by
  decide +kernel

/-- A part in RMA whose scan permission stands. -/
def rma0 : State := { run0 with otp := { otp0 with lc := 0x80, scanPerm := 1, cellA := [(546, 0x00010080)] } }
/-- A part in PROVISIONED, in SAFE-STOPPED. -/
def prov0 : State := { run0 with dev := .safeStopped, otp := { otp0 with lc := 0x0C, cellA := [(546, 0x0C)] } }
theorem wit_LifeCycle_scan :
    coreDown rma0 = false ∧ scanAllowed rma0 = true ∧ rma0.ports.wiped = false ∧ scanAllowed run0 = false ∧ lcState rma0 = 4 ∧
      { rma0.ports with wiping := true }.wiping = true ∧ jtagAvailable rma0 0x02 = false ∧ jtagAvailable rma0 0x01 = true := by
  decide +kernel
theorem wit_LifeCycle_request :
    coreDown prov0 = false ∧ servesWrites prov0 = true ∧ prov0.od.mgmt = none ∧ lcState prov0 = 2 ∧ lcCondition prov0 3 = true ∧
      lcCondition prov0 4 = true ∧ lcCondition prov0 5 = true ∧ lcCondition prov0 2 = false ∧ prov0.kill.scan = false ∧
      prov0.ports.scanUsed = false ∧ prov0.otp.cmd = none ∧ prov0.otp.lcProg = none ∧ prov0.od.lcReq = none ∧ lcState run0 = 0 := by
  decide +kernel
theorem wit_LifeCycle_done :
    let s := { prov0 with tb := 6000000001, od := { od0 with lcReq := some (3, 0) }, otp := { prov0.otp with lcProg := some 3 } }
    coreDown s = false ∧ s.od.lcReq = some (3, 0) ∧ s.otp.lcProg = some 3 ∧ lcState s < 3 ∧ s.otp.lc = (rowNormal s fuseRow).toNat % 2 ^ 10 ∧ 0 + 6000000000 < s.tb ∧
      majority 0 = false := by decide +kernel

def otpCmd1 (k r w d : Nat) (s : State) : State := { s with otp := { s.otp with cmd := some ⟨k, r, w, d⟩ } }
/-- Counter 0 enabled over 4 bits from bit 0, one of them set. -/
def odo0 : State := { prov0 with otp := { prov0.otp with cellA := [(480, 0x80040000), (484, 1)] } }
theorem wit_FusesAreProgrammedForGood :
    coreDown prov0 = false ∧ prov0.otp.cmd = none ∧ (otpCmd1 0 9 3 5 prov0).otp.cmd.isSome = true ∧ otpPermitted prov0 9 = true ∧
      wlocked prov0 9 = false ∧ otpPermitted prov0 1 = false ∧ wlocked { prov0 with otp := { prov0.otp with wlock := 4 ^ 9 } } 9 = true ∧
      (BitVec.ofNat 32 (3 * 4 ^ 9) &&& (0xFFFFFFFF ||| 0) : Word) ≠ 0 ∧ lcState prov0 = 2 := by decide +kernel
theorem wit_Fuses_odo :
    odoWord odo0 0 = 0x80040000 ∧ odoValue odo0 0 = 1 ∧ odoLen odo0 0 = 4 ∧ odoFirst odo0 0 = 0 ∧ odo0.otp.held = [] ∧
      odoValue prov0 0 = odoLen prov0 0 := by decide +kernel
theorem wit_Fuses_slice :
    let s := { prov0 with otp := { prov0.otp with cellA := [(300, 7)] } }
    slicesRun s = true ∧ s.otp.cmd = none ∧ s.ports.scanUsed = false ∧ sliceReady s (.otp 75 []) = true ∧ otpRow s 9 12 = 300 ∧ rowWord s 300 = some 300 ∧
        otpWord s 9 12 = 7 ∧ rowWord s 544 = some 544 := by decide +kernel
def otpK (k r w d : Nat) (s : State) : State := otpCmd1 k r w d s

/-- A part in SAFE-STOPPED with its regulator configured and an accepted request for `to`. -/
def low0 (dst : Nat) : State :=
  { fldSet run0 Reg.PWR_PMB_CFG F.PWR_PMB_CFG_VOUT 0x1000 with dev := .safeStopped, pwr := { pwr0 with stage := 4, req := some (dst, 0) } }
theorem wit_PowerStates_requests :
    coreDown run0 = false ∧ servesWrites run0 = true ∧ inTransition run0 = false ∧ inTransition (low0 2) = true ∧
      coreDown (low0 2) = false ∧ (low0 3).pwr.req = some (3, 0) ∧ (low0 2).pwr.entering = none ∧ refusingBlock (low0 2) = 0 ∧
      (low0 2).pwr.woken = false ∧ refusingBlock { low0 2 with otp := { otp0 with cmd := some ⟨4, 0, 0, 0⟩ } } = 5 ∧
      pwrAccepts { low0 2 with pwr := { pwr0 with stage := 4 } } 2 = true ∧ pwrAccepts { low0 2 with pwr := { pwr0 with stage := 4 } } 3 = true := by
  decide +kernel
theorem wit_PowerStates_regulator :
    let s := { low0 2 with pwr := { (low0 2).pwr with entering := some 2, acks := 3 } }
    s.pwr.entering = some 2 ∧ 3 ≤ s.pwr.acks ∧ s.pwr.woken = false ∧ { s.pwr with acks := 1 }.acks < 3 := by decide +kernel
theorem wit_PowerStates_doze :
    let s := { run0 with pwr := { run0.pwr with state := 1 } }
    coreDown s = false ∧ blockIdle s 2 = true ∧ blockIdle s 61 = true ∧ blockIdle { s with otp := otp0 } 26 = true ∧ run0.pwr.state ≠ 1 ∧ started run0.dev = true := by decide +kernel

/-- A part asleep in power state `st`, at wake step `k`, with the wake pin 0 enabled. -/
def asleep (st k : Nat) : State :=
  { fldSet State.reset Reg.PWR_WAKE_CFG F.PWR_WAKE_CFG_EN 1 with pwr := { pwr0 with state := st, step := k, rtc := 32768 } }
theorem wit_WakesRunTheirSteps_event :
    wakeEnabled (asleep 2 0) 1 = true ∧ inTransition (asleep 2 0) = false ∧ (asleep 3 0).pwr.failAt = none ∧ wakeEnabled (asleep 2 0) 2 = false ∧
      inTransition (asleep 2 3) = true ∧ wakeEnabled (asleep 1 0) 1 = true ∧ inTransition (asleep 1 0) = false := by decide +kernel
theorem wit_WakesRunTheirSteps_ready :
    (asleep 2 1).pwr.step = 1 ∧ (asleep 2 1).kill.supply = false ∧ (asleep 3 2).pwr.state = 3 ∧ (asleep 2 4).pwr.step = 4 ∧ (asleep 2 5).pwr.step = 5 ∧
      inRet 0x20802000 = true ∧ retBank 0x20802000 = 1 ∧
      ((savedRegs (regSet run0 (Reg.TMR_PERIOD 3) 100)).map Prod.fst).Nodup ∧ retained (Reg.TMR_PERIOD 3) = true ∧
      { pwr0 with hibWake := true }.hibWake = true := by decide +kernel
theorem wit_WakesRunTheirSteps_fail :
    (asleep 2 2).pwr.stepAt + stepMax 2 ≤ rtcPos (asleep 2 2) ∧ 0 + 1280000000 ≤ rtcPos (asleep 2 0) ∧
      rtcPos { asleep 2 0 with pwr := pwr0 } < 0 + 1280000000 := by decide +kernel
def asleepSaved : State := { asleep 2 5 with pwr := { (asleep 2 5).pwr with saved := [(Reg.TMR_PERIOD 3, 100)] } }
def zeroed (s : State) : State := { s with mem := memZero mem0 }

theorem wit_PortsServeTheBoard_spi :
    coreDown run0 = false ∧ (0x20000100 : Word).toNat % 4 = 0 ∧ run0.ports.posted = [] ∧
      (∀ k, k < 3 → (inSram ((0x20000100 : Word).toNat + 4 * k) || inRet ((0x20000100 : Word).toNat + 4 * k)) = true ∧
        memReadable run0 ((0x20000100 : Word).toNat + 4 * k) = true) ∧
      inWindow 0x30000000 = false ∧ (inSram 0x30000000 || inRet 0x30000000) = false ∧ (inSram 0x40040000 || inRet 0x40040000) = false ∧
      memReadable (regSet run0 Reg.BIST_UNUSABLE 0x200) 0x20040000 = false ∧ inSram 0x20040000 = true ∧
      memWritable run0 .host 0x20000100 = true ∧ (0x20000101 : Word).toNat % 4 ≠ 0 ∧ (0x33 : Byte) ∉ [(0x0B : Byte), 0x6B, 0x02, 0x32, 0x05] ∧
      4 ≤ { ports0 with posted := [(0, 0), (0, 0), (0, 0), (0, 0)] }.posted.length := by decide +kernel
theorem wit_PortsServeTheBoard_flash :
    run0.ports.flashCmd = none ∧ 0x280000 ≤ flashAddr run0 ∧ flashAddr (regSet run0 Reg.HOST_FLASH_ADDR 0x100000) < 0x280000 ∧
      (let s := { run0 with ports := { ports0 with flashCmd := some ⟨1, 0x280000, 2, [3, 5]⟩ } }
       s.ports.flashCmd.isSome = true ∧ s.slots.commit ≠ 2 ∧ s.slots.commit ≠ 4) ∧
      { slots0 with commit := 4 }.commit = 4 := by decide +kernel
def spiP (q : List (Nat × Word)) : State := { run0 with ports := { ports0 with posted := q } }
def flP (k a l : Nat) (d : List Byte) : State :=
  { run0 with ports := { ports0 with flashCmd := some ⟨k, a, l, d⟩ }, flash := { flash0 with host := [(0x280001, 7), (0x290000, 9)] } }
theorem wit_PortsServeTheBoard_posted :
    (spiP [(0x20000100, 5)]).ports.posted.head? = some (0x20000100, 5) ∧ inSram 0x20000100 = true ∧ coreDown (spiP [(0x20000101, 5)]) = false ∧
      (spiP [(0x20000101, 5)]).ports.posted.head? = some (0x20000101, 5) ∧ 0x20000101 % 4 ≠ 0 := by decide +kernel

theorem wit_MeasurementsWaitForTheSupply :
    Settled { run0 with fio := { fio0 with lvl1 := .sag } } ∧ sagging { run0 with fio := { fio0 with lvl1 := .sag } } (bankOfInput 127) = true := by
  decide
theorem wit_MeasurementsWait_run : ∃ t, exec (.sagLeave 1 17000) { run0 with fio := { fio0 with lvl1 := .sag } } = .next t := ⟨_, rfl⟩

theorem wit_EdgesAtThePulseStart :
    (let s := { win0 with tb := 10000100 }
     Settled s ∧ srcOf s 0 = some 0 ∧ (srcGet s 0).win = some (10000000, 10045000) ∧ s.tb < 10045000) ∧
      (let s := srcSet { win0 with tb := 10000000 } 0 { srcGet win0 0 with win := none }
       Settled s ∧ srcOf s 0 = some 0 ∧ (srcGet s 0).win = none ∧ tpDue s 0 = true ∧ 0 < tpWinLen s 0) := by decide

theorem wit_StepRunsTheFrontCommand :
    { run0 with pending := [Instr.watchdog] }.pending = [Instr.watchdog] ∧ run0.pending = [] ∧ coreDown run0 = false ∧ tickCorrection run0 = 0 ∧
      run0.ports.posted = [] ∧ coreOffOrReset { run0 with pwr := { pwr0 with resetLow := true } } = true ∧
      (let s := { run0 with pwr := { pwr0 with entering := some 2 } }
       coreDown s = true ∧ coreOffOrReset s = false) := by decide

theorem wit_ResetLeavesEverythingOff : (regRow Reg.SLE_CFG).isSome = true := by decide

theorem wit_OutputsFollowAfterEveryStep :
    (∃ t, step State.reset = .next t ∧ killAsserted t = true) ∧ killAsserted run0 = false ∧ active run0.dev = true :=
  ⟨⟨_, rfl, by decide⟩, by decide, by decide⟩

theorem wit_FaultedAndSafeStopped :
    resetsDevice .watchdog = false ∧ startsDriving (.scanStart 0 none none none) = true ∧ active State.reset.dev = false ∧
      { run0 with dev := .faulted }.dev = .faulted := by decide
theorem wit_FaultedAndSafeStopped_run : ∃ t, exec .watchdog { run0 with dev := .faulted } = .next t := ⟨_, rfl⟩

theorem wit_MemoryKeepsItsForm :
    (memSetBytes (memZero mem0) 0x20000000 [1, 0, 2]).wf = true ∧ run0.mem.wf = true := by decide

theorem wit_FieldCommandsKeepTheRest :
    Settled run0 ∧ touchesField (.testPulseStart 3 []) = some ([.jrn, .fio], [0x4004]) ∧ touchesField .extDisc = some ([.jrn, .sout, .kill], []) := by
  decide

theorem wit_LampCommandsKeepTheRest :
    Settled run0 ∧ touchesLamp .aspectRequest = some ([.lmp, .asp], [0x4007]) := by decide

theorem wit_LinkCommandsKeepTheRest :
    Settled run0 ∧ touchesLink .heartbeatTx = some ([.bly], []) ∧ touchesLink .safeWindow = some ([.rope], []) := by decide

theorem wit_EngineCommandsKeepTheRest :
    Settled run0 ∧ touchesEngine .recoveryComplete = some ([.jrn, .sle], [0x4005]) ∧ touchesEngine .journalWrite = some ([.jrn], []) := by decide

theorem wit_UnitCommandsKeepTheRest :
    Settled run0 ∧ touchesUnit (.timerCapture 0 true) = some ([.tmr, .ports], [0x400A]) ∧ touchesUnit .idcode = some ([.ports], []) ∧
      (mrcGet { run0 with mrc := [(2, { mrcSt0 with act := some ⟨0x80000031, 0x20002000, 0x20003000, 8, 0, 0, 0, 0⟩ })] } 2).act ≠ none := by decide

end Sys2Proof.Tests
end

section
/-!
PROOF. What a field input command leaves of the leakage watch (R57), and the low that lies in the own test-pulse window (R54).
-/
namespace Sys2Proof.Machine

/-! ## What the leakage watch holds of an input -/

/-- The two consecutive counts and the last leakage voltage of an input (R56). -/
def leakOf (x : InSt) : Nat × Nat × Nat := (x.undefRun, x.warnRun, x.leakV)

/-- What the leakage watch holds of every input. -/
def measures (s : State) (i : Nat) : Nat × Nat × Nat := leakOf (inGet s i)

/-- What every step of a fold keeps, the fold keeps. -/
theorem foldl_keeps {σ α β : Type} (g : σ → β) {f : σ → α → σ} (h : ∀ s x, g (f s x) = g s) (l : List α) (s : σ) :
    g (l.foldl f s) = g s := by
  induction l generalizing s with
  | nil => rfl
  | cons x l ih => exact (ih (f s x)).trans (h s x)

theorem measures_of_ins {s t : State} (h : t.fio.ins = s.fio.ins) : measures t = measures s := by
  funext i
  unfold measures inGet
  rw [h]

theorem measures_congr {s t : State} (h : t.fio = s.fio) : measures t = measures s := measures_of_ins (congrArg Fio.ins h)

theorem measures_ite {c : Prop} [Decidable c] {s t u : State} (ht : measures t = measures s) (hu : measures u = measures s) :
    measures (if c then t else u) = measures s := by
  split
  · exact ht
  · exact hu

/-- A write of an input that keeps its counts and its leakage value keeps what the leakage watch holds. -/
theorem measures_inSet {s : State} {i : Nat} {x : InSt} (h : leakOf x = measures s i) : measures (inSet s i x) = measures s := by
  funext j
  have hj : inGet (inSet s i x) j = if i = j then x else inGet s j := tabGet_put inSt0 s.fio.ins i j x
  unfold measures
  rw [hj]
  split
  · next e => subst e; exact h
  · rfl

/-! The equations below are proved through `measures_congr`, not by `rfl`: a rewrite by `rfl` with an address in it makes the kernel
compare the registers themselves. -/

@[simp] theorem measures_fldBump (s : State) (a : Nat) (f : Fld) (k : Nat) : measures (fldBump s a f k) = measures s :=
  measures_congr (fldBump_fio s a f k)
@[simp] theorem measures_fldSet (s : State) (a : Nat) (f : Fld) (v : Nat) : measures (fldSet s a f v) = measures s :=
  measures_congr (fldSet_fio s a f v)
@[simp] theorem measures_chSet (s : State) (c : Nat) (x : ChSt) : measures (chSet s c x) = measures s :=
  measures_congr (chSet_fio s c x)
@[simp] theorem measures_setBoLatch (s : State) (b : Nat) (v : Bool) : measures (setBoLatch s b v) = measures s :=
  measures_congr (setBoLatch_fio s b v)
@[simp] theorem measures_logAt (s : State) (tb code p0 p1 p2 : Nat) (p : Bool) : measures (logAt s tb code p0 p1 p2 p) = measures s :=
  measures_congr (logAt_fio s tb code p0 p1 p2 p)
@[simp] theorem measures_log (s : State) (code p0 p1 p2 : Nat) : measures (log s code p0 p1 p2) = measures s :=
  measures_congr (log_fio s code p0 p1 p2)
@[simp] theorem measures_enterDev (s : State) (d : DevState) (cause : Nat) : measures (enterDev s d cause) = measures s :=
  measures_congr (enterDev_fio s d cause)
@[simp] theorem measures_safeStop (s : State) (cause : Nat) : measures (safeStop s cause) = measures s :=
  measures_congr (safeStop_fio s cause)
@[simp] theorem measures_settle (s : State) : measures (settle s) = measures s := measures_congr (settle_fio s)

@[simp] theorem measures_sout (s : State) (x : Sout) : measures { s with sout := x } = measures s := measures_congr rfl
@[simp] theorem measures_bly (s : State) (x : Bly) : measures { s with bly := x } = measures s := measures_congr rfl
@[simp] theorem measures_srcSet (s : State) (n : Nat) (x : SrcSt) : measures (srcSet s n x) = measures s := measures_of_ins rfl
@[simp] theorem measures_setRaw (s : State) (i : Nat) (on : Bool) : measures (setRaw s i on) = measures s := measures_of_ins rfl

@[simp] theorem measures_logInput (s : State) (i p1 p2 : Nat) : measures (logInput s i p1 p2) = measures s := by simp [logInput]

@[simp] theorem measures_setFilt (s : State) (i : Nat) (on : Bool) (t : Nat) : measures (setFilt s i on t) = measures s := by
  have hkeep : leakOf { inGet s i with filt := on, ts := t / 100 } = measures (setRaw s i on) i := rfl
  exact (measures_inSet hkeep).trans (measures_setRaw s i on)

/-! ## The sources -/

@[simp] theorem measures_tpJournal (s : State) (n : Nat) : measures (tpJournal s n) = measures s := by
  unfold tpJournal
  dsimp only
  split <;> simp

@[simp] theorem measures_tpReset (s : State) (n : Nat) : measures (tpReset s n) = measures s := by simp [tpReset]

@[simp] theorem measures_tpSkip (s : State) (n : Nat) : measures (tpSkip s n) = measures s := by simp [tpSkip]

@[simp] theorem measures_tpHistory (s : State) (n : Nat) (rs : List Nat) : measures (tpHistory s n rs) = measures s := by
  cases rs <;> simp [tpHistory]

theorem measures_tpStart (s : State) (n : Nat) (off : List Nat) : measures (tpStart s n off) = measures s := by
  have hoff : measures (off.foldl (fun u i => setRaw u i false) s) = measures s :=
    foldl_keeps measures (fun u i => measures_setRaw u i false) off s
  unfold tpStart
  dsimp only
  split
  · rw [measures_srcSet, hoff]
  · split
    · rw [measures_tpSkip, hoff]
    · rfl

theorem measures_tpEnd (s : State) (n : Nat) : measures (tpEnd s n) = measures s := by
  unfold tpEnd
  dsimp only
  split
  · rfl
  · split <;> simp

/-! ## The judgement of the inputs at a window's end -/

@[simp] theorem measures_tpPass (s : State) (i : Nat) : measures (tpPass s i) = measures s := by
  unfold tpPass
  extract_lets x good clears s1 s2
  have h1 : measures s1 = measures s := measures_inSet rfl
  have h2 : measures s2 = measures s1 := measures_ite (measures_logInput s1 i _ _) rfl
  split <;> simp [h1, h2]

@[simp] theorem measures_tpSlow (s : State) (n i r : Nat) (late : Bool) : measures (tpSlow s n i r late) = measures s := by
  unfold tpSlow
  extract_lets x slowNow goodResp slow s1
  have h1 : measures s1 = measures s := measures_inSet rfl
  (repeat' split) <;> simp [h1]

@[simp] theorem measures_tpNoPulse (s : State) (i : Nat) : measures (tpNoPulse s i) = measures s := by
  unfold tpNoPulse
  dsimp only
  split
  · exact measures_inSet rfl
  · rw [measures_logInput]; exact measures_inSet rfl

@[simp] theorem measures_tpLate (s : State) (i t r : Nat) : measures (tpLate s i t r) = measures s := by
  unfold tpLate
  dsimp only
  split
  · rw [measures_setFilt, measures_logInput]; exact measures_inSet rfl
  · rw [measures_logInput]; exact measures_inSet rfl

@[simp] theorem measures_tpUnjudged (s : State) (i : Nat) : measures (tpUnjudged s i) = measures s := measures_inSet rfl

@[simp] theorem measures_tpForeign (n k : Nat) (s : State) (i : Nat) : measures (tpForeign n k s i) = measures s := by
  unfold tpForeign
  dsimp only
  split
  · rw [measures_logInput]; exact measures_inSet rfl
  · exact measures_inSet rfl

@[simp] theorem measures_tpForeignClear (n : Nat) (s : State) (i : Nat) : measures (tpForeignClear n s i) = measures s := by
  unfold tpForeignClear
  dsimp only
  split
  · exact measures_inSet rfl
  · rfl

@[simp] theorem measures_tpJudge (n : Nat) (resp late : List (Nat × Nat)) (width : Nat) (s : State) (i : Nat) :
    measures (tpJudge n resp late width s i) = measures s := by
  unfold tpJudge
  dsimp only
  cases late.find? (fun p => p.1 = i) <;> cases resp.find? (fun p => p.1 = i) <;> dsimp only
  case some.none | none.none => simp
  case some.some | none.some => split <;> simp

@[simp] theorem measures_rawAtEnd (s : State) (own : List Nat) (lows : List (Nat × Bool)) (late : List (Nat × Nat)) :
    measures (rawAtEnd s own lows late) = measures s := by
  unfold rawAtEnd
  rw [foldl_keeps measures, foldl_keeps measures]
  · exact fun t i => measures_setRaw t i _
  · exact fun t p => measures_setRaw t p.1 p.2

theorem measures_tpWindowEnd (s : State) (n : Nat) (resp : List (Nat × Nat)) (lows : List (Nat × Bool)) (late : List (Nat × Nat)) :
    measures (tpWindowEnd s n resp lows late) = measures s := by
  unfold tpWindowEnd
  dsimp only
  split
  · rfl
  · split
    · rfl
    · split
      · simp
      · rw [foldl_keeps measures (measures_tpForeignClear n), foldl_keeps measures (measures_tpForeign n _),
          foldl_keeps measures measures_tpUnjudged, measures_tpHistory, foldl_keeps measures measures_tpUnjudged,
          foldl_keeps measures (measures_tpJudge n _ late _), measures_srcSet, measures_rawAtEnd]

/-! ## What a filtered change means for the pair -/

@[simp] theorem measures_setBlyBit (s : State) (f : Fld) (b : Bool) : measures (setBlyBit s f b) = measures s := by simp [setBlyBit]

@[simp] theorem measures_setPstate (s : State) (v : Nat) : measures (setPstate s v) = measures s := by simp [setPstate]

@[simp] theorem measures_logResync (s : State) (outcome : Nat) (partner : Bool) :
    measures (logResync s outcome partner) = measures s := by simp [logResync]

@[simp] theorem measures_unbridge (s : State) : measures (unbridge s) = measures s := by
  unfold unbridge
  split
  · rw [foldl_keeps measures, measures_setBlyBit]
    exact fun t c => measures_chSet t c _
  · rfl

@[simp] theorem measures_bypassWeld (s : State) : measures (bypassWeld s) = measures s := by
  unfold bypassWeld
  split <;> simp

@[simp] theorem measures_replacementComplete (s : State) : measures (replacementComplete s) = measures s := by
  unfold replacementComplete
  extract_lets dur s1 s2 s3 _ s4
  have h4 : measures s4 = measures s := by simp [s4, s3, s2, s1]
  split <;> simp [h4]

@[simp] theorem measures_feedbackChange (s : State) (i : Nat) (on : Bool) : measures (feedbackChange s i on) = measures s := by
  unfold feedbackChange
  extract_lets own peer
  split
  · rfl
  · split
    · (repeat' split) <;> simp
    · rename_i s1 s2 _ _
      have h1 : measures s1 = measures s := measures_ite (measures_setBlyBit s _ _) rfl
      have h2 : measures s2 = measures s1 := measures_ite (measures_unbridge s1) rfl
      (repeat' split) <;> simp [h1, h2]

theorem measures_filteredChange (s : State) (i : Nat) (on : Bool) (first : Nat) :
    measures (filteredChange s i on first) = measures s := by
  unfold filteredChange
  split <;> simp

theorem measures_windowEnd (s : State) (n : Nat) (resp : List (Nat × Nat)) (lows : List (Nat × Bool)) (late : List (Nat × Nat)) :
    measures (windowEnd s n resp lows late) = measures s := by
  refine (foldl_keeps measures (fun u p => ?_) late _).trans (measures_tpWindowEnd s n resp lows late)
  split <;> simp

/-! ## The supply levels -/

@[simp] theorem measures_setLevel (s : State) (b : Nat) (l : Level) (mv : Nat) : measures (setLevel s b l mv) = measures s := by
  unfold setLevel
  rw [measures_log]
  exact measures_ite (measures_of_ins rfl) (measures_of_ins rfl)

theorem measures_discardPulse (b : Nat) (s : State) (n : Nat) : measures (discardPulse b s n) = measures s := by
  unfold discardPulse
  dsimp only
  split <;> simp

@[simp] theorem measures_discardPulses (s : State) (b : Nat) : measures (discardPulses s b) = measures s :=
  foldl_keeps measures (measures_discardPulse b) _ s

@[simp] theorem measures_opSkip (s : State) (c : Nat) (hi : Bool) : measures (opSkip s c hi) = measures s := by simp [opSkip]

theorem measures_sagChannel (failing : Nat) (s : State) (c : Nat) : measures (sagChannel failing s c) = measures s := by
  unfold sagChannel
  extract_lets x t _ s1
  have h1 : measures s1 = measures s := measures_ite (by simp [t]) rfl
  split <;> simp [h1]

@[simp] theorem measures_soutSagEnter (s : State) (b failing : Nat) : measures (soutSagEnter s b failing) = measures s := by
  unfold soutSagEnter
  rw [foldl_keeps measures]
  exact fun t j => measures_sagChannel failing t (b * 12 + j)

@[simp] theorem measures_soutSagLeave (s : State) (b : Nat) : measures (soutSagLeave s b) = measures s := by
  unfold soutSagLeave
  rw [foldl_keeps measures]
  exact fun t j => measures_chSet t (b * 12 + j) _

/-- Input `j` of bank `b` starts OFF as its bank leaves SAG or BROWN-OUT (R59). -/
def startOff (b : Nat) (t : Tab InSt) (j : Nat) : Tab InSt :=
  tabPut inSt0 t (b * 64 + j) { tabGet inSt0 t (b * 64 + j) with filt := false }

theorem rebuildInputs_ins (s : State) (b : Nat) : (rebuildInputs s b).fio.ins = (List.range 64).foldl (startOff b) s.fio.ins := by
  unfold rebuildInputs startOff
  dsimp only

theorem leakOf_startOff (b i : Nat) (t : Tab InSt) (j : Nat) :
    leakOf (tabGet inSt0 (startOff b t j) i) = leakOf (tabGet inSt0 t i) := by
  unfold startOff
  rw [tabGet_put]
  split
  · next e => subst e; rfl
  · rfl

@[simp] theorem measures_rebuildInputs (s : State) (b : Nat) : measures (rebuildInputs s b) = measures s := by
  funext i
  unfold measures inGet
  rw [rebuildInputs_ins]
  exact foldl_keeps (fun t => leakOf (tabGet inSt0 t i)) (leakOf_startOff b i) (List.range 64) s.fio.ins

theorem measures_warnEnter (s : State) (b mv : Nat) : measures (warnEnter s b mv) = measures s := by
  unfold warnEnter
  split <;> simp

theorem measures_warnLeave (s : State) (b mv : Nat) : measures (warnLeave s b mv) = measures s := by
  unfold warnLeave
  split <;> simp

theorem measures_sagEnter (s : State) (b mv failing : Nat) : measures (sagEnter s b mv failing) = measures s := by
  unfold sagEnter
  split <;> simp

theorem measures_sagLeave (s : State) (b mv : Nat) : measures (sagLeave s b mv) = measures s := by
  unfold sagLeave
  split <;> simp

theorem measures_brownOutEnter (s : State) (b mv : Nat) : measures (brownOutEnter s b mv) = measures s := by
  unfold brownOutEnter
  split <;> simp

theorem measures_brownOutLeave (s : State) (b mv : Nat) : measures (brownOutLeave s b mv) = measures s := by
  unfold brownOutLeave
  split <;> simp

theorem measures_vfieldUpdate (s : State) (v0 v1 : Nat) : measures (vfieldUpdate s v0 v1) = measures s := by
  unfold vfieldUpdate
  split <;> simp

/-! ## The commands -/

/-- A command whose operation changes nothing answers a settled state unchanged. -/
theorem done_live_unchanged {s t : State} (hs : Settled s) (h : t = s) : done (live s t) = .next s := by
  have hlive : live s s = s := by unfold live; split <;> rfl
  rw [h, hlive, done, hs]

/-- What the operation `u` of a command keeps of the leakage watch, the command keeps. -/
theorem measures_of_done_live {s u t : State} (hu : measures u = measures s) (h : done (live s u) = .next t) :
    measures t = measures s := by
  obtain rfl : settle (live s u) = t := Host.Outcome.next.inj h
  rw [measures_settle]
  unfold live
  split
  · rfl
  · exact hu

/-- No measurement is taken while the bank of the input is in SAG or BROWN-OUT (R57). -/
theorem leakMeasure_of_sagging {s : State} {i v : Nat} (h : sagging s (bankOfInput i) = true) : leakMeasure s i v = s := by
  simp [leakMeasure, h]

/-- Settles O49: LEAK_MEASURE needs a bank that does not sag, and no operation behind the other commands writes the leakage value
or a consecutive count. -/
theorem measurementsWaitForTheSupply : Obligations.MeasurementsWaitForTheSupply := by
  unfold Obligations.MeasurementsWaitForTheSupply
  refine ⟨fun s i v hs hsag => done_live_unchanged hs (leakMeasure_of_sagging hsag), fun s c t hc ht i => ?_⟩
  have hkeep : measures t = measures s := by
    obtain ⟨b, mv, f, rfl⟩ | ⟨b, mv, rfl | rfl | rfl | rfl | rfl⟩ | ⟨v0, v1, rfl⟩ | ⟨i, on, f, rfl⟩ | ⟨n, l, rfl⟩ | ⟨n, rfl⟩ |
      ⟨n, r, l, m, rfl⟩ := hc
    · exact measures_of_done_live (measures_sagEnter s b.val mv.toNat f.toNat) ht
    · exact measures_of_done_live (measures_sagLeave s b.val mv.toNat) ht
    · exact measures_of_done_live (measures_brownOutEnter s b.val mv.toNat) ht
    · exact measures_of_done_live (measures_brownOutLeave s b.val mv.toNat) ht
    · exact measures_of_done_live (measures_warnEnter s b.val mv.toNat) ht
    · exact measures_of_done_live (measures_warnLeave s b.val mv.toNat) ht
    · exact measures_of_done_live (measures_vfieldUpdate s v0.toNat v1.toNat) ht
    · exact measures_of_done_live (measures_filteredChange s i.val on f) ht
    · exact measures_of_done_live (measures_tpStart s n.val _) ht
    · exact measures_of_done_live (measures_tpEnd s n.val) ht
    · exact measures_of_done_live (measures_windowEnd s n.val _ _ _) ht
  simpa [measures, leakOf] using congrFun hkeep i

/-! ## A low in the own window -/

/-- A low that begins in the open window of its source, on its first sample or later, lies in it (R49, R54). -/
theorem ownWindowEnd_of_win {s : State} {i n t t0 e : Nat} (hsrc : srcOf s i = some n) (hwin : (srcGet s n).win = some (t0, e))
    (h : t0 ≤ t) : ownWindowEnd s i t = some e := by
  simp [ownWindowEnd, hsrc, hwin, h]

/-- A low on the sample on which the pulse of its source is still due lies in the window that opens (R54). -/
theorem ownWindowEnd_of_due {s : State} {i n : Nat} (hsrc : srcOf s i = some n) (hwin : (srcGet s n).win = none)
    (hdue : tpDue s n = true) : ownWindowEnd s i s.tb = some (s.tb + tpWinLen s n) := by
  simp [ownWindowEnd, hsrc, hwin, hdue]

/-- A low in the own window reaches the filtered value at the window's end at the earliest (R49). -/
theorem ownWindowEnd_le_filterDue {s : State} {i t e : Nat} (h : ownWindowEnd s i t = some e) : e ≤ filterDue s i false t := by
  simp only [filterDue, h, Bool.false_eq_true, if_false]
  split <;> omega

/-- Until the end of the own window a low that lies in it does not change the filtered value (R49). -/
theorem filteredChange_in_window {s : State} {i t e : Nat} (h : ownWindowEnd s i t = some e) (ht : s.tb < e) :
    filteredChange s i false t = s := by
  have hdue : ¬ filterDue s i false t ≤ s.tb := fun hle => absurd (ownWindowEnd_le_filterDue h) (by omega)
  simp [filteredChange, filterReady, hdue]

/-- Settles O50: the window takes in the sample on which its pulse starts, and a low in it is held until its end. -/
theorem edgesAtThePulseStartBelongToTheWindow : Obligations.EdgesAtThePulseStartBelongToTheWindow := by
  unfold Obligations.EdgesAtThePulseStartBelongToTheWindow
  constructor
  · intro s i hs n hsrc v hwin
    have hend : ownWindowEnd s i v.1 = some v.2 := ownWindowEnd_of_win hsrc hwin (Nat.le_refl _)
    exact ⟨hend, fun ht => done_live_unchanged hs (filteredChange_in_window hend ht)⟩
  · intro s i hs n hsrc hwin hdue
    have hend := ownWindowEnd_of_due hsrc hwin hdue
    exact ⟨hend, fun hlen => done_live_unchanged hs (filteredChange_in_window hend (by omega))⟩

end Sys2Proof.Machine
end
